-- ==== Sys2Proof/Word.lean ====
section
/-! DEFINITION. The plain words of the model: bytes, four-bit codes, text, and the numbers that name a station, a deck, a lane and a category. -/

namespace Sys2Proof

/-- A byte of a loop record, a message unit or an office frame (00_scope.md, section 6). -/
abbrev Byte := BitVec 8

/-- A status or command code as it stands in a slot record (R154). -/
abbrev Code := BitVec 4

/-- Characters of an ident, a category code, a serial or a text. -/
abbrev Text := List Char

/-- A field station, numbered 1–24 by its loop slot (00_scope.md, section 6): station n is the value n − 1. -/
abbrev StationId := Fin 24

/-- A deck, lettered A–D: A is 0. -/
abbrev DeckId := Fin 4

/-- A lane, numbered 1–4: lane n is the value n − 1. -/
abbrev LaneId := Fin 4

/-- A category, numbered 1–16: category n is the value n − 1. -/
abbrev CategoryNo := Fin 16

end Sys2Proof
end

