-- ==== Sys2Proof/Machine/Types.lean ====
section
/-! DEFINITION. The vocabulary of the manual as plain data: the office-loaded records, the codes, the states of every block, the reports and the replies. -/

namespace Sys2Proof.Machine

/-! ## Office-loaded records (chapter 3) -/

/-- Direction of a lane (R49). -/
inductive Direction where
  | inward | outward | both
  deriving DecidableEq, Repr

/-- What an IN or BOTH lane does with an ident that has no vehicle record (R49). -/
inductive UnknownPolicy where
  | refer | admitCash
  deriving DecidableEq, Repr

/-- Status of a vehicle record: ADMIT, REFER or BAR (R42). -/
inductive VehicleStatus where
  | admits | refers | bars
  deriving DecidableEq, Repr

/-- Tare policy: WEIGH-EACH, STORED or STORED-AUTO (R42). -/
inductive TarePolicy where
  | weighEach | stored | storedAuto
  deriving DecidableEq, Repr

/-- The fields a LOAD-VEHICLE carries, before any check (R42). An absent required field is `none`. -/
structure VehicleLoad where
  ident : Text
  account : Option Nat
  status : Option VehicleStatus
  tarePolicy : Option TarePolicy
  storedTare : Option Nat
  tareStamp : Option Nat
  maxGross : Option Nat
  permitted : List Nat
  defaultCategory : Option Nat
  deriving DecidableEq, Repr

/-- A vehicle record of the Table Store (R42). -/
structure VehicleRecord where
  ident : Text
  account : Nat
  status : VehicleStatus
  tarePolicy : TarePolicy
  storedTare : Option Nat
  tareStamp : Option Nat
  maxGross : Option Nat
  permitted : List CategoryNo
  defaultCategory : CategoryNo
  deriving DecidableEq, Repr

/-- A category record (R47). -/
structure CategoryRecord where
  code : Option Text
  enabled : Bool
  inspect : Bool
  deriving DecidableEq, Repr

/-- The fields a LOAD-CATEGORY carries (R47). -/
structure CategoryLoad where
  number : Nat
  code : Text
  enabled : Option Bool
  inspect : Option Bool
  deriving DecidableEq, Repr

/-- The fields a LOAD-LANE carries, before any check (R49). Decks are given by number, 1 for A to 4 for D. -/
structure LaneLoad where
  direction : Option Direction
  deck : Nat
  entryBarrier : Nat
  exitBarrier : Nat
  terminal : Nat
  reader : Option Nat
  unknownPolicy : Option UnknownPolicy
  cashCategory : Option Nat
  referralTimeout : Option Nat
  tareTolerance : Option Nat
  motionLimit : Option Nat
  deriving DecidableEq, Repr

/-- A lane record of the Table Store (R49). -/
structure LaneRecord where
  direction : Direction
  deck : DeckId
  entryBarrier : StationId
  exitBarrier : StationId
  terminal : StationId
  reader : Option StationId
  unknownPolicy : UnknownPolicy
  cashCategory : Option CategoryNo
  referralTimeout : Nat
  tareTolerance : Nat
  motionLimit : Nat
  deriving DecidableEq, Repr

/-- Four values, one for each corner of a deck, corner 1 first (R5). -/
structure Corners (α : Type) where
  c1 : α
  c2 : α
  c3 : α
  c4 : α
  deriving DecidableEq, Repr

/-- The fields a LOAD-DECK carries, before any check (R55). -/
structure DeckLoad where
  digitizer : Nat
  zeros : Corners Int
  factors : Corners Nat
  scale : Nat
  division : Nat
  capacity : Nat
  refZero : Int
  nominalWindow : Option Nat
  transitWindow : Option Nat
  settleCount : Option Nat
  motionBand : Option Nat
  occupancyThreshold : Option Nat
  transitSpan : Option Nat
  restIdleTime : Option Nat
  zeroTracking : Option Bool
  deriving DecidableEq, Repr

/-- A deck record, held in its Deck Engine (R55). -/
structure DeckRecord where
  digitizer : StationId
  zeros : Corners Int
  factors : Corners Nat
  scale : Nat
  division : Nat
  capacity : Nat
  refZero : Int
  nominalWindow : Nat
  transitWindow : Nat
  settleCount : Nat
  motionBand : Nat
  occupancyThreshold : Nat
  transitSpan : Nat
  restIdleTime : Nat
  zeroTracking : Bool
  deriving DecidableEq, Repr

/-! ## Deck Engine (chapters 1 and 2) -/

/-- The eight deck states (R31). -/
inductive DeckState where
  | unconfigured | waiting | capturing | active | waking | warmRest | coldRest | fault
  deriving DecidableEq, Repr

/-- What the engine itself believes about its deck (R14). -/
inductive Judged where
  | filling | motion | stable | over | under | invalid
  deriving DecidableEq, Repr

/-- The state field of a reading record (R19). -/
inductive ReadingState where
  | filling | motion | stable | over | under | invalid | resting
  deriving DecidableEq, Repr

/-- The profile of a deck (R9). -/
inductive Profile where
  | nominal | transit
  deriving DecidableEq, Repr

/-- The occupancy of a deck (R16). -/
inductive Occupancy where
  | occupied | empty
  deriving DecidableEq, Repr

/-- One raw mass of the window ring with its gap count (R7). -/
structure RingEntry where
  mass : Int
  gap : Nat
  deriving DecidableEq, Repr

/-- The reading record of a deck (R19). -/
structure ReadingRecord where
  deck : DeckId
  state : ReadingState
  value : Option Int
  sample : Nat
  profile : Profile
  degraded : Bool
  zeroLimit : Bool
  stamp : Option Nat
  deriving DecidableEq, Repr

/-- The zero quantities Z0, Zc and T of a configured deck, in grams (R24). -/
structure Zeros where
  refZero : Int
  captured : Int
  tracked : Int
  deriving DecidableEq, Repr

/-- A sample group (R157): counts, the saturation flags the digitizer set, and the sequence number. -/
structure SampleGroup where
  sequence : Nat
  counts : Corners Int
  saturated : Corners Bool
  deriving DecidableEq, Repr

/-- The rest a successful rest attempt enters (R35). -/
inductive RestKind where
  | warm | cold
  deriving DecidableEq, Repr

/-! ## Lane Sequencer (chapter 4) -/

/-- The twelve lane states (R60). -/
inductive LaneState where
  | closed | recover | idle | identify | referred | refused | awaitDeck | entering | weighing
  | releasing | leaving | fault
  deriving DecidableEq, Repr

/-- The referral reasons (R68). -/
inductive ReferralReason where
  | noIdent | unknown | status | alreadyInYard | category | yardFull | notInYard | deckFault
  | entryIncomplete | noStable | inspect | negativeNet | tareMismatch | noTicketNumber
  deriving DecidableEq, Repr

/-- The passage of a vehicle over a lane (R59). -/
inductive Passage where
  | inbound | outbound
  deriving DecidableEq, Repr

/-- The claim field of a lane context (R59). -/
inductive Claim where
  | none | waiting | held
  deriving DecidableEq, Repr

/-- Which lane timer runs (R59). -/
inductive LaneTimerKind where
  | identWait | referral | entry | weigh
  deriving DecidableEq, Repr

/-- A running lane timer: the frames elapsed since its start and the frames at which it runs out. -/
structure LaneTimer where
  kind : LaneTimerKind
  elapsed : Nat
  limit : Nat
  deriving DecidableEq, Repr

/-- The vehicle field of a lane context (R59, R66). A vehicle known by its ident alone has no category. -/
structure Vehicle where
  ident : Text
  account : Nat
  tarePolicy : TarePolicy
  storedTare : Option Nat
  maxGross : Option Nat
  permitted : List CategoryNo
  category : Option CategoryNo
  cash : Bool
  deriving DecidableEq, Repr

/-- A captured weight with its details (R59, R76). -/
structure Weight where
  kg : Int
  deck : DeckId
  sample : Nat
  stamp : Option Nat
  degraded : Bool
  deriving DecidableEq, Repr

/-- Why a lane entered FAULT (R80). -/
inductive FaultCause where
  | stationLost (station : StationId)
  | barrierFault (station : StationId)
  | barrierManual (station : StationId)
  deriving DecidableEq, Repr

/-- The source field of an IDENT-READ (R65, R167). -/
inductive ReadSource where
  | tag | plate | card
  deriving DecidableEq, Repr

/-- The fields of an IDENT-READ (R167). -/
structure IdentRead where
  ident : Text
  source : ReadSource
  quality : Nat
  deriving DecidableEq, Repr

/-- The event a LANE report names as the reason of a change of lane state, where it is neither a referral reason nor a fault cause (R60). -/
inductive LaneEvent where
  | enabled | recovered | presenceArrive | presenceDepart | identRead | keyEntry
  | referralTimeout | officeAdmits | officeRefuses | officeReleases | officeRetries
  | granted | cancelled | closingDone | captured | deckEmpty | exitDown
  | disabled | resumed | yardReset
  deriving DecidableEq, Repr

/-- The reason field of a LANE report (R60). -/
inductive LaneReason where
  | referral (r : ReferralReason)
  | cause (c : FaultCause)
  | event (e : LaneEvent)
  deriving DecidableEq, Repr

/-- What a LANE report says of a station whose code goes to or from FAULT (R61). -/
inductive StationNotice where
  | terminalFault | terminalReady | readerFault | readerReady
  deriving DecidableEq, Repr

/-- Lane requests of a barrier, and the role a barrier plays in a lane (R54, R113). -/
inductive BarrierRole where
  | entry | exit
  deriving DecidableEq, Repr

/-! ## Barrier Controller (chapter 6) -/

/-- The taken position of a barrier (R103). -/
inductive Position where
  | unknown | down | up | rising | falling
  deriving DecidableEq, Repr

/-- The arm loop of a barrier (R103). -/
inductive ArmLoop where
  | clear | occupied
  deriving DecidableEq, Repr

/-- The state of a barrier (R103, R104). -/
inductive BarrierState where
  | unknown | down | raising | up | lowering | held | manual | fault
  deriving DecidableEq, Repr

/-- The command codes of a barrier drive (R103). -/
inductive BarrierCommand where
  | none | raise | lower | hold
  deriving DecidableEq, Repr

/-- An office order for a barrier (R115). -/
inductive BarrierOrder where
  | raise | lower | hold
  deriving DecidableEq, Repr

/-- The office mode of a barrier (R103). -/
inductive OfficeMode where
  | direct | stagedMsg | stagedLoop
  deriving DecidableEq, Repr

/-- The edge select of a barrier (R103). -/
inductive EdgeSelect where
  | arrive | depart | both | none
  deriving DecidableEq, Repr

/-- An arm-loop edge (R105). -/
inductive Edge where
  | arrive | depart
  deriving DecidableEq, Repr

/-- The reason field of a BARRIER report (R121). -/
inductive BarrierReason where
  | obstruction | motionTimeout | fault | manual | returned | lost
  | unexpectedPassage (edge : Edge)
  | orderApplied (order : BarrierOrder)
  | stagedDiscarded (order : BarrierOrder)
  deriving DecidableEq, Repr

/-- The outcome of one station of a GROUP-ORDER (R120). -/
inductive GroupOutcome where
  | notABarrier | skipped | applied | staged | refused
  deriving DecidableEq, Repr

/-! ## Visit Table and Ticket Stamper (chapters 5 and 7) -/

/-- The five visit states (R84). -/
inductive VisitState where
  | reserved | open_ | ticketed | closing | closed
  deriving DecidableEq, Repr

/-- The anomalies of a visit (R84, R96). -/
inductive Anomaly where
  | overload | negativeNet | tareCheckFail | forced | degraded
  deriving DecidableEq, Repr

/-- The reasons of NOT-PRINTED (R84). -/
inductive NotPrinted where
  | queueFull | noOutcome | noAnswer | jam | fault | terminalLost | reset | none
  deriving DecidableEq, Repr

/-- The print outcome of a visit (R84). -/
inductive PrintOutcome where
  | pending | printed | notPrinted (why : NotPrinted)
  deriving DecidableEq, Repr

/-- The tare of a visit with its source (R84). -/
inductive Tare where
  | stored (kg : Nat)
  | weighed (w : Weight)
  deriving DecidableEq, Repr

/-- A visit record (R84). `key` is the model's own name for the record, which the lane's reservation and
target fields and a ticket job's visit field hold: the manual ties them to the record without naming a field. -/
structure Visit where
  key : Nat
  ident : Text
  account : Nat
  category : Option CategoryNo
  tarePolicy : TarePolicy
  storedTare : Option Nat
  entryLane : LaneId
  state : VisitState
  gross : Option Weight
  tare : Option Tare
  net : Option Int
  exitWeight : Option Weight
  tareCheck : Option Bool
  exitLane : Option LaneId
  ticketNo : Option Nat
  outcome : Option PrintOutcome
  anomalies : List Anomaly
  closeTime : Option Nat
  deriving DecidableEq, Repr

/-- A selector of a visit request (5.9). -/
inductive Selector where
  | ticket (n : Nat)
  | ident (t : Text)
  | position (n : Nat)
  deriving DecidableEq, Repr

/-- A stored-tare update the Visit Table has asked of the Table Store (R93). -/
structure TareUpdate where
  ident : Text
  kg : Int
  stamp : Option Nat
  deriving DecidableEq, Repr

/-- The ticket counter (R123). -/
inductive TicketCounter where
  | notValid
  | valid (next : Nat)
  | exhausted
  deriving DecidableEq, Repr

/-- A ticket job (R126). -/
structure TicketJob where
  number : Nat
  lane : LaneId
  terminal : StationId
  ident : Text
  account : Nat
  categoryCode : Option Text
  gross : Int
  grossStamp : Option Nat
  tare : Tare
  net : Int
  anomalies : List Anomaly
  degraded : Bool
  issueTime : Option Nat
  visit : Nat
  deriving DecidableEq, Repr

/-- The tare of a ticket with its source, and for WEIGHED its time stamp when present (R126). -/
inductive TicketTare where
  | stored (kg : Nat)
  | weighed (kg : Int) (stamp : Option Nat)
  deriving DecidableEq, Repr

/-- The fields of a ticket job that a TICKET message carries: those of R126 except the terminal and the visit link (R129, R169). -/
structure TicketFields where
  number : Nat
  lane : LaneId
  ident : Text
  account : Nat
  categoryCode : Option Text
  gross : Int
  grossStamp : Option Nat
  tare : TicketTare
  net : Int
  anomalies : List Anomaly
  degraded : Bool
  issueTime : Option Nat
  deriving DecidableEq, Repr

/-- The delivery phase of a head job, with the frames of the print-outcome wait (R128). -/
inductive DeliveryPhase where
  | waiting | sending | awaitOutcome (elapsed : Nat) | held
  deriving DecidableEq, Repr

/-- The outcome a PRINT-OUTCOME message carries (R131). -/
inductive PrintReport where
  | printed | paperOut | jam | fault
  deriving DecidableEq, Repr

/-- The fields of a PRINT-OUTCOME (R167). -/
structure PrintMessage where
  number : Nat
  outcome : PrintReport
  deriving DecidableEq, Repr

/-! ## Yard loop (chapter 8) -/

/-- A command code of any kind of station (R148, R154). -/
inductive Command where
  | none | raise | lower | hold | full | reduced | off | arm | disarm
  | showOff | showIdle | showWait | showDriveOn | showGo | showStop | showRefer
  deriving DecidableEq, Repr

/-- The kinds of station (R171). -/
inductive StationKind where
  | digitizer | barrierDrive | identReader | terminal
  deriving DecidableEq, Repr

/-- The role kind of a station with the ability it requires (R51). -/
inductive Role where
  | digitizer | barrier | reader | terminal (needsCard : Bool)
  deriving DecidableEq, Repr

/-- A role of a station as the deck and lane records give it: a row of the table of R51 with its deck or its lane, and for a
barrier ENTRY or EXIT. -/
inductive RolePlace where
  | digitizer (deck : DeckId) | barrier (lane : LaneId) (role : BarrierRole) | reader (lane : LaneId) | terminal (lane : LaneId)
  deriving DecidableEq, Repr

/-- A unit mark (R158). -/
inductive Mark where
  | none | first | next
  deriving DecidableEq, Repr

/-- An answer field (R158). -/
inductive Answer where
  | none | taken0 | taken1 | abort
  deriving DecidableEq, Repr

/-- The unit fields of a slot record: mark, parity and unit. -/
structure UnitFields where
  mark : Mark
  parity : Bool
  unit : Byte
  deriving DecidableEq, Repr

/-- A good upstream record, its fields read (R156). -/
structure UpRecord where
  code : Code
  echo : Bool
  unit : UnitFields
  answer : Answer
  group : Option SampleGroup
  deriving DecidableEq, Repr

/-- The outcome of judging an upstream slot (R139). -/
inductive SlotOutcome where
  | missing | bad | good (r : UpRecord)
  deriving DecidableEq, Repr

/-! ## Station messages and enrolment (chapter 9) -/

/-- The upstream message kinds (R158). -/
inductive UpKind where
  | identRead | keyEntry | printOutcome | enrolPage | stationNote
  deriving DecidableEq, Repr

/-- A key entry (R79). The category number is unchecked. -/
inductive KeyEntry where
  | category (n : Nat)
  | callAttendant
  deriving DecidableEq, Repr

/-- The states of a station table entry (R171). -/
inductive StationState where
  | silent | alive | enrolling | enrolled | rejected | lost
  deriving DecidableEq, Repr

/-- The rejection reasons (R171). -/
inductive Rejection where
  | mismatch | noEnrol
  deriving DecidableEq, Repr

/-- The abilities of a station (R171). -/
structure Abilities where
  reducedRate : Bool
  off : Bool
  cardReader : Bool
  keypad : Bool
  deriving DecidableEq, Repr

/-- An ENROL-PAGE as it arrives, its values unchecked (R173). -/
inductive EnrolPage where
  | base (kind : StationKind) (abilities : Abilities) (revision follow : Nat) (toggle : Bool)
  | next (number : Nat) (chunk : Text) (toggle : Bool)
  deriving DecidableEq, Repr

/-- An ENROL-RESULT (R169). -/
inductive EnrolResult where
  | accepted
  | rejected (why : Rejection)
  deriving DecidableEq, Repr

/-- The source of a downstream message (R166). -/
inductive MessageSource where
  | enrolResult (r : EnrolResult)
  | ticket (lane : LaneId)
  | forward
  deriving DecidableEq, Repr

/-- A downstream message as its units are sent: kind, body (at most 60 units) and the source that is told (R164). -/
structure DownMessage where
  kind : Byte
  body : List Byte
  source : MessageSource
  deriving DecidableEq, Repr

/-- The phase of a send channel (R160). -/
inductive SendPhase where
  | idle | sending | gap
  deriving DecidableEq, Repr

/-- The message in progress of a send channel: the message with its source, the unit being sent counted from the kind
unit as 0, and the attempt number (R160). -/
structure Progress where
  msg : DownMessage
  unit : Nat
  attempt : Nat
  deriving DecidableEq, Repr

/-- The candidate of a receive channel: the fields of the last good upstream record, with its frame (R160). -/
structure Candidate where
  fields : UnitFields
  frame : Nat
  deriving DecidableEq, Repr

/-- The partial message of a receive channel (R160). -/
structure Partial where
  kind : UpKind
  length : Option Nat
  body : List Byte
  deriving DecidableEq, Repr

/-- The phase of a receive channel (R160). -/
inductive ReceivePhase where
  | idle
  | receiving (p : Partial)
  | aborting
  deriving DecidableEq, Repr

/-- A complete upstream message waiting to reach its owner (R167). -/
structure UpMessage where
  kind : UpKind
  body : List Byte
  deriving DecidableEq, Repr

/-- A phase of a channel as READ-STATION shows it (R178). -/
inductive ReceivePhaseName where
  | idle | receiving | aborting
  deriving DecidableEq, Repr

/-! ## Reports (R185) -/

/-- The barrier record as a BARRIER report carries it (R121). -/
structure BarrierSnapshot where
  station : StationId
  state : BarrierState
  commanded : BarrierCommand
  position : Position
  loop : Option ArmLoop
  pendingLower : Bool
  obstructions : Nat
  mode : OfficeMode
  staged : Option BarrierOrder
  lanes : List (LaneId × BarrierRole × LaneState)
  deriving DecidableEq, Repr

/-- What a VISIT-OPENED report carries (R89, R90). -/
structure VisitOpening where
  ticketNo : Option Nat
  position : Nat
  ident : Text
  account : Nat
  category : Option CategoryNo
  entryLane : LaneId
  gross : Option Weight
  anomalies : List Anomaly
  tare : Option Tare
  net : Option Int
  outcome : Option PrintOutcome
  deriving DecidableEq, Repr

/-- The message named by a MESSAGE-DROPPED report (R166, R170). -/
inductive DroppedMessage where
  | enrolResult | displayText
  deriving DecidableEq, Repr

/-- The body of a report, by the rule that posts it (R185). -/
inductive ReportBody where
  /-- LANE, on a change of lane state (R60); `read` is there when the change is made by a taken read (R65). -/
  | lane (lane : LaneId) (state : LaneState) (reason : LaneReason) (ident : Option Text) (read : Option IdentRead)
  /-- LANE, a station code to or from FAULT (R61). -/
  | laneStation (lane : LaneId) (station : StationId) (notice : StationNotice)
  /-- LANE, KEY-REFUSED (R66, R79). -/
  | laneKeyRefused (lane : LaneId) (category : CategoryNo)
  /-- LANE, CALL-ATTENDANT (R79). -/
  | laneCallAttendant (lane : LaneId)
  /-- LANE, a further fault cause (R80). -/
  | laneCause (lane : LaneId) (cause : FaultCause)
  /-- READING (R22). -/
  | reading (r : ReadingRecord)
  /-- CAPTURE (R76). -/
  | capture (lane : LaneId) (ident : Option Text) (passage : Option Passage) (weight : Weight)
  /-- VISIT-OPENED (R89, R90). -/
  | visitOpened (v : VisitOpening)
  /-- VISIT-CLOSED (R95). -/
  | visitClosed (position : Nat) (v : Visit)
  /-- TICKET, event ISSUED (R127). -/
  | ticketIssued (number : Nat) (lane : LaneId) (terminal : StationId) (ident : Text) (outcome : PrintOutcome)
      (jobs : Nat) (counter : TicketCounter)
  /-- TICKET, event OUTCOME (R130). -/
  | ticketOutcome (number : Nat) (lane : LaneId) (terminal : StationId) (outcome : PrintOutcome) (jobs : Nat)
  /-- TICKET, event HELD (R132). -/
  | ticketHeld (number : Nat) (lane : LaneId) (terminal : StationId) (jobs : Nat)
  /-- BARRIER (R121). -/
  | barrier (reason : BarrierReason) (record : BarrierSnapshot)
  /-- STATION, BAD-CODE (R146). -/
  | badCode (station : StationId) (value : Code)
  /-- STATION, DEGRADED (R151). -/
  | degraded (station : StationId) (periodErrors near far threshold : Nat)
  /-- STATION, DEGRADE-CLEARED (R151). -/
  | degradeCleared (station : StationId)
  /-- STATION, BAD-MESSAGE for an unknown kind or a length above 60 (R163). -/
  | badMessageValue (station : StationId) (value : Byte)
  /-- STATION, BAD-MESSAGE for a malformed body (R168). -/
  | badMessageKind (station : StationId) (kind : UpKind)
  /-- STATION, MESSAGE-DROPPED (R166, R170). -/
  | messageDropped (station : StationId) (which : DroppedMessage)
  /-- STATION, REJECTED with NO-ENROL (R172). -/
  | rejectedNoEnrol (station : StationId)
  /-- STATION, REJECTED on a role that does not fit (R174): the kind received, the role kind with the ability it requires, and
  the deck or the lanes that give the role. -/
  | rejectedMismatch (station : StationId) (kind : StationKind) (role : Option Role) (places : List RolePlace)
  /-- STATION, ENROLLED (R174). -/
  | enrolled (station : StationId) (kind : StationKind) (abilities : Abilities) (revision : Nat) (serial : Text)
  /-- STATION, LOST; `restarted` is the note RESTARTED (R175, R177). -/
  | lost (station : StationId) (restarted : Bool)
  /-- ANOMALY ZERO-FAIL (R27). -/
  | zeroFail (deck : DeckId)
  /-- ANOMALY ZERO-LIMIT (R29). -/
  | zeroLimit (deck : DeckId)
  /-- ANOMALY NO-STABLE (R70). -/
  | noStable (lane : LaneId) (ident : Option Text)
  /-- ANOMALY VISIT-GONE (R77, R102). -/
  | visitGone (lane : LaneId) (ident : Option Text)
  /-- ANOMALY of a visit (R96). -/
  | visitAnomaly (anomaly : Anomaly) (ident : Text) (ticketNo : Option Nat) (position : Nat) (lane : Option LaneId)
  /-- NOTE, a stray read; the lane is there when a lane names the station (R65, R167). -/
  | noteRead (lane : Option LaneId) (station : StationId) (read : IdentRead)
  /-- NOTE, a key entry no lane takes (R167). -/
  | noteKey (station : StationId) (entry : KeyEntry)
  /-- NOTE, a print outcome that matches no head job (R133). -/
  | notePrint (station : StationId) (m : PrintMessage)
  /-- NOTE, a STATION-NOTE (R167). -/
  | noteText (station : StationId) (text : Text)
  deriving DecidableEq, Repr

/-- A report of the report queue with the time stamp of its posting (R185). -/
structure Report where
  body : ReportBody
  stamp : Option Nat
  deriving DecidableEq, Repr

/-! ## Office line (chapter 10) -/

/-- The office line rates of the RATE pins (00_scope.md, section 9). -/
inductive LineRate where
  | b115200 | b230400 | b460800 | b921600
  deriving DecidableEq, Repr

/-- The reply codes (R184). -/
inductive ReplyCode where
  | ok | busy | bad | full | range | motion | unknown
  deriving DecidableEq, Repr

/-- What READ-DECK answers (R21). -/
structure DeckStatus where
  state : DeckState
  reading : ReadingRecord
  occupancy : Occupancy
  span : Nat
  stable : Nat
  fill : Nat
  streamInterval : Nat
  zeros : Option Zeros
  zeroLimit : Option Bool
  deriving DecidableEq, Repr

/-- What READ-STATION answers (R178). -/
structure StationStatus where
  state : StationState
  rejection : Option Rejection
  kind : Option StationKind
  abilities : Abilities
  revision : Option Nat
  serial : Option Text
  failed : Nat
  taken : Option Code
  near : Nat
  far : Nat
  periodErrors : Nat
  degraded : Bool
  threshold : Nat
  wasLost : Bool
  wasDegraded : Bool
  receivePhase : ReceivePhaseName
  sendPhase : SendPhase
  forwardHeld : Bool
  obstructions : Option Nat
  deriving DecidableEq, Repr

/-- The data a reply carries after its code and request number, by owning rule (R184). -/
inductive ReplyData where
  | none
  | vehicleCount (n : Nat)
  | vehicle (v : VehicleRecord) (n : Nat)
  | laneRecord (r : LaneRecord)
  | deckRecord (r : DeckRecord)
  | newZero (t : Int)
  | rest (k : RestKind)
  | deckStatus (d : DeckStatus)
  | ticketBase (before : TicketCounter) (next : Nat)
  | visit (v : Visit) (position held : Nat)
  | nextClosed (v : Option (Visit × Nat)) (held : Nat)
  | removedVisit (v : Visit) (held : Nat)
  | forcedVisit (v : Visit)
  | applied
  | staged
  | barrierMode (mode : OfficeMode) (edge : EdgeSelect) (staged : Option BarrierOrder)
  | group (outcomes : List (StationId × GroupOutcome))
  | station (s : StationStatus)
  | clock (before : Option Nat) (now : Nat)
  | identity (vendor family part : Text) (revision : Nat) (rate : LineRate) (clock : Option Nat)
  | yardReset (removed dropped : Nat)
  deriving DecidableEq, Repr

/-- A reply given by the owner of a request (R182, R184). -/
structure Reply where
  code : ReplyCode
  data : ReplyData
  deriving DecidableEq, Repr

/-- The frame kinds that arrive as requests (R180). -/
inductive RequestKind where
  | request | forward
  deriving DecidableEq, Repr

/-- A request of the request buffer, with its reply once the owner has given it (R181, R182). -/
structure Request where
  kind : RequestKind
  tag : Byte
  body : List Byte
  reply : Option Reply
  deriving DecidableEq, Repr

/-- The request a reply names: a request number, FORWARD, or 0 for an empty body (R184). -/
inductive RequestName where
  | number (n : Byte)
  | forward
  deriving DecidableEq, Repr

/-- An entry of the refusal list (R181). -/
structure RefusedRequest where
  tag : Byte
  name : RequestName
  deriving DecidableEq, Repr

/-- A frame the transmitter is sending, by its content: a BUSY reply of the refusal list, the reply of the head request, or
a report with the overrun note and the dropped count it takes along (R184, R185). -/
inductive OutFrame where
  | refusal (tag : Byte) (name : RequestName)
  | reply (tag : Byte) (name : RequestName) (reply : Reply)
  | report (r : Report) (overrun : Bool) (dropped : Nat)
  deriving DecidableEq, Repr

/-- The body of a command as its fields are read: the fields, or a body that does not hold them (R168, R182). -/
inductive Body (α : Type) where
  | fits (a : α)
  | misfit
  deriving DecidableEq, Repr

/-- The fields a STREAM-DECK carries (R22). -/
structure StreamLoad where
  deck : Nat
  interval : Nat
  deriving DecidableEq, Repr

/-- The fields an ADMIT carries (R69). -/
structure AdmitLoad where
  lane : Nat
  ident : Option Text
  account : Option Nat
  category : Option Nat
  deriving DecidableEq, Repr

/-- The fields a BARRIER-ORDER carries (R115). -/
structure OrderLoad where
  station : Nat
  order : BarrierOrder
  deriving DecidableEq, Repr

/-- The fields a SET-BARRIER-MODE carries (R119). -/
structure ModeLoad where
  station : Nat
  mode : OfficeMode
  edge : Option EdgeSelect
  deriving DecidableEq, Repr

/-- The fields a GROUP-ORDER carries (R120). -/
structure GroupLoad where
  stations : List Nat
  order : BarrierOrder
  deriving DecidableEq, Repr

/-- The fields a READ-STATION carries (R178). -/
structure StationLoad where
  station : Nat
  threshold : Option Nat
  deriving DecidableEq, Repr

/-- The fields a FORWARD carries (R170). -/
structure ForwardLoad where
  station : Nat
  text : Text
  deriving DecidableEq, Repr

/-- The fields a LOAD-LANE carries with its lane (R50). -/
structure LaneLoadRequest where
  lane : Nat
  record : LaneLoad
  deriving DecidableEq, Repr

/-- The fields a LOAD-DECK carries with its deck (R56). -/
structure DeckLoadRequest where
  deck : Nat
  record : DeckLoad
  deriving DecidableEq, Repr

end Sys2Proof.Machine
end

