-- ==== Sys2Proof/Syntax.lean ====
section
/-! DEFINITION. The commands of the block: one constructor for each row of spec/opcode_table.json. -/

namespace Sys2Proof

open Machine

/-- The commands of the block. A command of the field or of time names the slot, deck or lane it happens to;
an office request carries the fields of its body as its owner reads them (`Body`). -/
inductive Instr where
  /-- POWER_ON_RESET (R190): the RATE1 and RATE0 pins as they stand at the release of RSTN. -/
  | powerOnReset (rate1 rate0 : Bool)
  /-- DOWNSTREAM_FRAME (R138). -/
  | downstreamFrame
  /-- CLOCK_SECOND (R187). -/
  | clockSecond
  /-- UPSTREAM_SLOT (R140): the bytes that arrived at the slot's place, preamble first; none when nothing came. -/
  | upstreamSlot (slot : StationId) (arrived : List Byte)
  /-- SLOT_ALIVE (R142). -/
  | slotAlive (slot : StationId)
  /-- SLOT_SILENT (R142). -/
  | slotSilent (slot : StationId)
  /-- SUPERFRAME_END (R149). -/
  | superframeEnd
  /-- PERIOD_END (R151). -/
  | periodEnd
  /-- TRANSIT_SPAN_END (R18). -/
  | transitSpanEnd (deck : DeckId)
  /-- READING_STREAM (R22). -/
  | readingStream (deck : DeckId)
  /-- ZERO_FAIL (R27). -/
  | zeroFail (deck : DeckId)
  /-- TRACKING_STEP (R29). -/
  | trackingStep (deck : DeckId)
  /-- WAKING_COMPLETE (R38). -/
  | wakingComplete (deck : DeckId)
  /-- REST_ATTEMPT (R35). -/
  | restAttempt (deck : DeckId)
  /-- IDENT_WAIT_EXPIRY (R64). -/
  | identWaitExpiry (lane : LaneId)
  /-- REFERRAL_TIMEOUT (R68). -/
  | referralTimeout (lane : LaneId)
  /-- ENTRY_TIMEOUT (R74). -/
  | entryTimeout (lane : LaneId)
  /-- WEIGH_TIMEOUT (R75). -/
  | weighTimeout (lane : LaneId)
  /-- IDENT_READ (R65): the oldest complete message of the station reaches its owner. -/
  | identRead (station : StationId) (fields : Body IdentRead)
  /-- DECK_GRANT (R72). -/
  | deckGrant (deck : DeckId)
  /-- KEY_ENTRY (R79). -/
  | keyEntry (station : StationId) (fields : Body KeyEntry)
  /-- STORED_TARE_UPDATE (R46): the oldest update asked for reaches the Table Store. -/
  | storedTareUpdate
  /-- MOTION_TIMEOUT (R109). -/
  | motionTimeout (station : StationId)
  /-- RECEIVE_STALE (R163). -/
  | receiveStale (station : StationId)
  /-- STATION_NOTE (R167). -/
  | stationNote (station : StationId) (fields : Body Text)
  /-- SEND_START (R164). -/
  | sendStart (station : StationId)
  /-- UNIT_TIMER_EXPIRY (R165). -/
  | unitTimerExpiry (station : StationId)
  /-- GAP_END (R165). -/
  | gapEnd (station : StationId)
  /-- ENROL_PAGE (R173). -/
  | enrolPage (station : StationId) (fields : Body EnrolPage)
  /-- ENROL_WINDOW_EXPIRY (R172). -/
  | enrolWindowExpiry (station : StationId)
  /-- PRINT_OUTCOME (R131). -/
  | printOutcome (station : StationId) (fields : Body PrintMessage)
  /-- OUTCOME_WAIT_EXPIRY (R134). -/
  | outcomeWaitExpiry (lane : LaneId)
  /-- OFFICE_FRAME (R180): bytes that arrive on the office line with no gap of more than 2 byte times between them. -/
  | officeFrame (bytes : List Byte)
  /-- OFFICE_BYTE_GAP (R180). -/
  | officeByteGap
  /-- UNKNOWN_REQUEST (R182). -/
  | unknownRequest
  /-- TRANSMIT_START (R184). -/
  | transmitStart
  /-- OFFICE_FRAME_SENT (R184). -/
  | officeFrameSent
  /-- LOAD_VEHICLE (R43). -/
  | loadVehicle (fields : Body VehicleLoad)
  /-- DROP_VEHICLE (R44). -/
  | dropVehicle (fields : Body Text)
  /-- READ_VEHICLE (R44). -/
  | readVehicle (fields : Body Text)
  /-- LOAD_CATEGORY (R47). -/
  | loadCategory (fields : Body CategoryLoad)
  /-- LOAD_LANE (R50). -/
  | loadLane (fields : Body LaneLoadRequest)
  /-- ENABLE_LANE (R62). -/
  | enableLane (fields : Body Nat)
  /-- DISABLE_LANE (R82). -/
  | disableLane (fields : Body Nat)
  /-- RESUME_LANE (R81). -/
  | resumeLane (fields : Body Nat)
  /-- ADMIT (R69). -/
  | admitLane (fields : Body AdmitLoad)
  /-- REFUSE (R70). -/
  | refuseLane (fields : Body Nat)
  /-- RELEASE (R70). -/
  | releaseLane (fields : Body Nat)
  /-- RETRY (R70). -/
  | retryLane (fields : Body Nat)
  /-- LOAD_DECK (R32). -/
  | loadDeck (fields : Body DeckLoadRequest)
  /-- ZERO_DECK (R30). -/
  | zeroDeck (fields : Body Nat)
  /-- REST_DECK (R36). -/
  | restDeck (fields : Body Nat)
  /-- WAKE_DECK (R39). -/
  | wakeDeck (fields : Body Nat)
  /-- STREAM_DECK (R22). -/
  | streamDeck (fields : Body StreamLoad)
  /-- READ_DECK (R21). -/
  | readDeck (fields : Body Nat)
  /-- SET_TICKET_BASE (R124). -/
  | setTicketBase (fields : Body Nat)
  /-- READ_VISIT (R98). -/
  | readVisit (fields : Body Selector)
  /-- NEXT_CLOSED (R99). -/
  | nextClosed
  /-- CLEAR_VISIT (R100). -/
  | clearVisit (fields : Body Selector)
  /-- FORCE_CLOSE (R101). -/
  | forceClose (fields : Body Selector)
  /-- BARRIER_ORDER (R115). -/
  | barrierOrder (fields : Body OrderLoad)
  /-- SET_BARRIER_MODE (R119). -/
  | setBarrierMode (fields : Body ModeLoad)
  /-- RELEASE_STAGED (R117). -/
  | releaseStaged (fields : Body Nat)
  /-- GROUP_ORDER (R120). -/
  | groupOrder (fields : Body GroupLoad)
  /-- READ_STATION (R178). -/
  | readStation (fields : Body StationLoad)
  /-- FORWARD (R170). -/
  | forward (fields : Body ForwardLoad)
  /-- SET_CLOCK (R187). -/
  | setClock (fields : Body Nat)
  /-- IDENTIFY (R188). -/
  | identify
  /-- YARD_RESET (R189). -/
  | yardReset
  /-- DECK_YARD_RESET (R41). -/
  | deckYardReset (deck : DeckId)
  /-- LANE_YARD_RESET (R83). -/
  | laneYardReset
  /-- VISIT_YARD_RESET (R102). -/
  | visitYardReset
  /-- BARRIER_YARD_RESET (R122). -/
  | barrierYardReset
  /-- TICKET_YARD_RESET (R137). -/
  | ticketYardReset
  deriving DecidableEq, Repr

end Sys2Proof
end

