-- ==== Sys2Proof/Decode.lean ====
section
/-! DEFINITION. The command a word spells. The opcode table gives no row a bit, so no word spells a command. -/

namespace Sys2Proof

/-- The command a word of the opcode table spells: none, because no row of spec/opcode_table.json has bits. -/
def decodeTableWord (nbits w : Nat) : Option Instr :=
  match nbits, w with
  | _, _ => none

end Sys2Proof
end

