-- ==== Sys2Proof/Config.lean ====
section
/-! DEFINITION. The values the part fixes (00_scope.md, section 8, and the owning rules) and the free values: what the manual leaves unstated. -/

namespace Sys2Proof.Config

open Machine

/-- Frames in a second (00_scope.md, section 6). -/
abbrev second : Nat := 1000

/-- Superframes in a period (R151). -/
abbrev period : Nat := 1000

/-- Good slots that make a slot ALIVE (R142). -/
abbrev aliveRun : Nat := 3

/-- Bad or missing slots that make a slot SILENT (R142). -/
abbrev silentRun : Nat := 6

/-- Degrade threshold after power-on reset (R152). -/
abbrev defaultThreshold : Nat := 16

/-- Top of the error counters and of the obstruction count (R103, R149). -/
abbrev counterTop : Nat := 255

/-- Window ring capacity (R7). -/
abbrev ringCapacity : Nat := 64

/-- Top of the sample number (R20) and of the yard clock (R187). -/
abbrev wordTop : Nat := 4294967295

/-- Groups of a capture that fails (R27). -/
abbrev captureLimit : Nat := 1250

/-- Qualifying groups of a tracking step (R29). -/
abbrev trackingRun : Nat := 125

/-- Vehicle table capacity (R43). -/
abbrev vehicleCapacity : Nat := 1024

/-- Visit Table capacity (R85). -/
abbrev visitCapacity : Nat := 64

/-- Ticket queue capacity (R128). -/
abbrev ticketCapacity : Nat := 8

/-- Highest ticket number (R123). -/
abbrev ticketTop : Nat := 99999999

/-- Report queue capacity (R185). -/
abbrev reportCapacity : Nat := 32

/-- Request buffer and refusal list capacity (R181). -/
abbrev requestCapacity : Nat := 4

/-- Ident wait in seconds (R64). -/
abbrev identWait : Nat := 30

/-- Entry timer in seconds (R74). -/
abbrev entryTime : Nat := 60

/-- Weigh timer in seconds (R75). -/
abbrev weighTime : Nat := 60

/-- Frames of the print-outcome wait, 20 s (R129). -/
abbrev outcomeWait : Nat := 20000

/-- Frames within which the same ident is a repeat (R65). -/
abbrev repeatFrames : Nat := 3000

/-- Frames of the sender's unit timer (R165). -/
abbrev unitTimer : Nat := 32

/-- Records of the quiet gap (R165). -/
abbrev gapRecords : Nat := 4

/-- Attempts of a downstream message (R165). -/
abbrev sendAttempts : Nat := 3

/-- Stale limit of a receive channel (R163). -/
abbrev staleLimit : Nat := 64

/-- Body units of a message at most (R163). -/
abbrev bodyLimit : Nat := 60

/-- Frames of an enrolment attempt window (R172). -/
abbrev attemptWindow : Nat := 2000

/-- Failed attempts that reject a station (R172). -/
abbrev attemptLimit : Nat := 7

/-- Sum of gap counts above which the gap latch is set (R12). -/
abbrev gapLimit : Nat := 4

/-- Cap of the pending gap (R3). -/
abbrev pendingGapTop : Nat := 254

/-- Body bytes of an office frame at most (R159). -/
abbrev frameBodyLimit : Nat := 1024

/-- FREE VALUE: the body bytes of a TICKET message. R129 and R169 give its fields and its limit of 60 units, no layout (log entry 1). -/
opaque ticketBody : TicketFields → List Byte

/-- FREE VALUE: the body bytes of a DISPLAY-TEXT. R169 gives its text, no byte layout (log entry 1). -/
opaque displayBody : Text → List Byte

/-- FREE VALUE: the body bytes of an ENROL-RESULT. R169 gives its fields, no byte layout (log entry 1). -/
opaque enrolResultBody : EnrolResult → List Byte

/-- FREE VALUE: the bytes of a reply code. R184 names the codes, no value (log entry 42). -/
opaque replyCodeBytes : ReplyCode → List Byte

/-- FREE VALUE: the bytes by which a reply names FORWARD, where R184 gives no value (log entry 42). -/
opaque forwardNameBytes : List Byte

/-- FREE VALUE: the bytes of the data of a reply. The owning rules give the data, no layout (log entry 42). -/
opaque replyDataBytes : ReplyData → List Byte

/-- FREE VALUE: the body bytes of a report with its OVERRUN flag and dropped count. R185 gives the contents, no layout (log entry 42). -/
opaque reportBody : Report → Bool → Nat → List Byte

end Sys2Proof.Config
end

