-- ==== Sys2Proof/Machine/State.lean ====
section
/-! DEFINITION. The state of the block as plain data: every register, buffer, timer, counter and queue the manual gives each of the nine blocks, its value after reset, and the reasons a step can stop. -/

namespace Sys2Proof.Machine

/-- No command of this block stops the machine: the type has no constructor, so no fault can be raised (safe). -/
inductive Fault where
  deriving DecidableEq, Repr

/-- Why a command has no meaning in the model. -/
inductive Refusal where
  /-- Raised by `exec` alone, for a command whose meaning is not written yet (safe). Every command has its meaning, so no arm raises it. -/
  | notModelled (mnemonic : String)
  deriving DecidableEq, Repr

/-- What the Loop Port keeps for one slot (R142–R151). -/
structure LoopSlot where
  alive : Bool
  goodRun : Nat
  badRun : Nat
  /-- The taken status code (R144). -/
  taken : Option Code
  /-- The code of the good record of the frame before, absent after a bad or missing slot (R144). -/
  lastCode : Option Code
  command : Command
  echo : Bool
  near : Nat
  far : Nat
  periodErrors : Nat
  degraded : Bool
  threshold : Nat
  /-- The slot was ALIVE at the start of the superframe's frame 0 (R149). -/
  aliveAtStart : Bool
  /-- A slot of this superframe was bad or missing (R149). -/
  nearHit : Bool
  /-- A good record of this superframe carried its echo flag set (R150). -/
  farHit : Bool
  /-- The slot of the frame in hand has not been judged yet (R139). -/
  awaited : Bool
  deriving DecidableEq, Repr

/-- The receive channel of a station (R160). -/
structure ReceiveChannel where
  phase : ReceivePhase
  answer : Answer
  /-- Absent after a bad or missing slot. -/
  candidate : Option Candidate
  lastTaken : Option (Mark × Bool)
  stale : Nat
  deriving DecidableEq, Repr

/-- The send channel of a station (R160). -/
structure SendChannel where
  phase : SendPhase
  /-- The message in progress; present in SENDING and GAP. -/
  message : Option Progress
  /-- Frames since the unit being sent was first shown, 0–32. -/
  timer : Nat
  /-- Frames of the quiet gap shown so far, 0–4. -/
  gap : Nat
  /-- A good record showing answer NONE has come since the attempt began. -/
  noneSeen : Bool
  /-- The waiting enrolment result. -/
  waiting : Option EnrolResult
  /-- Downstream records in a row that showed mark NONE, up to 2 (R164). -/
  noneShown : Nat
  /-- Good upstream records of frames in a row that showed answer NONE, up to 2 (R164). -/
  noneHeard : Nat
  deriving DecidableEq, Repr

/-- What the SMC keeps for one station: its table entry, channels, forward buffer, and the complete messages
that have not reached their owner yet (R160, R167, R171). -/
structure Station where
  state : StationState
  rejection : Option Rejection
  kind : Option StationKind
  abilities : Abilities
  revision : Option Nat
  serial : Option Text
  failed : Nat
  window : Nat
  pages : List EnrolPage
  wasLost : Bool
  wasDegraded : Bool
  receive : ReceiveChannel
  send : SendChannel
  forward : Option Text
  complete : List UpMessage
  deriving DecidableEq, Repr

/-- A barrier record (R103). Its lanes field is the lane table's, read by `State.barrierLanes`. -/
structure BarrierRecord where
  commanded : BarrierCommand
  position : Position
  /-- The taken position the lanes naming the barrier were last told (R105). -/
  told : Position
  loop : Option ArmLoop
  state : BarrierState
  faultPosition : Option Position
  pendingLower : Bool
  mode : OfficeMode
  edge : EdgeSelect
  staged : Option BarrierOrder
  limit : Nat
  timer : Option Nat
  obstructions : Nat
  /-- The station was lost and its first code is still to come (R112). -/
  awaitingReturn : Bool
  deriving DecidableEq, Repr

/-- A Deck Engine (R8, R19, R23, R24, R41). The fill count is the length of the ring. -/
structure DeckEngine where
  state : DeckState
  record : Option DeckRecord
  zeros : Option Zeros
  zeroLimit : Bool
  /-- The window ring, newest first. -/
  ring : List RingEntry
  last : Option Nat
  pendingGap : Nat
  gapLatch : Bool
  overload : Bool
  stable : Nat
  judged : Judged
  value : Option Int
  occupancy : Occupancy
  profile : Profile
  span : Nat
  captureCount : Nat
  trackingCount : Nat
  /-- Frames the rest idle timer has run; absent while it is stopped. -/
  restIdle : Option Nat
  streamInterval : Nat
  streamCount : Nat
  sample : Nat
  reading : ReadingRecord
  deriving DecidableEq, Repr

/-- The deck hold arbiter of one deck (R72). -/
structure Arbiter where
  holder : Option LaneId
  claims : List LaneId
  deriving DecidableEq, Repr

/-- A lane context (R59). -/
structure LaneContext where
  state : LaneState
  present : Bool
  reason : Option ReferralReason
  vehicle : Option Vehicle
  passage : Option Passage
  /-- The key of the RESERVED visit record. -/
  reservation : Option Nat
  /-- The key of the OPEN or TICKETED visit the vehicle leaves against. -/
  target : Option Nat
  noVisit : Bool
  pendingCategory : Option CategoryNo
  claim : Claim
  captured : Option Weight
  /-- The net check of this capture referred and was released (R76). -/
  negativeReleased : Bool
  timer : Option LaneTimer
  departSeen : Bool
  closing : Bool
  lastRead : Option (Text × Nat)
  causes : List FaultCause
  deriving DecidableEq, Repr

/-- A ticket queue, head first, with the phase of its head job (R128). An empty queue has no head phase (R137): its field
stands at WAITING, DESIGN CHOICE (log entry 38). -/
structure TicketQueue where
  jobs : List TicketJob
  phase : DeliveryPhase
  deriving DecidableEq, Repr

/-- The yard clock (R187). -/
structure YardClock where
  set : Bool
  seconds : Nat
  frames : Nat
  deriving DecidableEq, Repr

/-- Yard resets handed to the blocks and not yet taken by them (R189). -/
structure ResetsDue where
  decks : Vector Bool 4
  lanes : Bool
  visits : Bool
  barriers : Bool
  tickets : Bool
  deriving DecidableEq, Repr

/-- The whole block. -/
structure State where
  slots : Vector LoopSlot 24
  stations : Vector Station 24
  barriers : Vector (Option BarrierRecord) 24
  decks : Vector DeckEngine 4
  arbiters : Vector Arbiter 4
  laneTable : Vector (Option LaneRecord) 4
  lanes : Vector LaneContext 4
  vehicles : List VehicleRecord
  categories : Vector CategoryRecord 16
  visits : List Visit
  /-- The key the next visit record takes. The model's own. -/
  nextVisitKey : Nat
  /-- Stored-tare updates asked for and not yet made (R93). -/
  tareUpdates : List TareUpdate
  counter : TicketCounter
  queues : Vector TicketQueue 4
  /-- The number of the next downstream frame (R138). -/
  nextFrame : Nat
  /-- The number of the frame whose upstream slots are answered now; absent before the first frame. -/
  frameInHand : Option Nat
  /-- The superframe that ended with the frame in hand has not been accounted yet (R149). -/
  superframeDue : Bool
  /-- Superframes accounted in this period, 0–999 (R151). -/
  periodCount : Nat
  /-- The period that ended with the last superframe accounted has not been judged yet (R151). -/
  periodDue : Bool
  /-- The bytes of the last downstream frame on LDOP and LDON; none before the first. -/
  sentFrame : List Byte
  rate : LineRate
  /-- The bytes of the frame being received after its start byte; absent while the receiver hunts (R180). -/
  receiver : Option (List Byte)
  buffer : List Request
  refusals : List RefusedRequest
  reports : List Report
  overrun : Bool
  dropped : Nat
  /-- The frame the transmitter is sending; absent while the line is free (R184). -/
  line : Option OutFrame
  /-- The bytes of the last office frame started on the line; none before the first (R159, R184). -/
  sentOffice : List Byte
  clock : YardClock
  resetsDue : ResetsDue
  /-- The commands that are waiting, first in, first out. The model's own. -/
  pending : List Instr
  deriving DecidableEq, Repr

/-- No yard reset waits to be taken (R189). -/
def ResetsDue.clear : ResetsDue :=
  { decks := Vector.replicate 4 false, lanes := false, visits := false, barriers := false, tickets := false }

/-- A slot after power-on reset (R153). -/
def LoopSlot.reset : LoopSlot :=
  { alive := false, goodRun := 0, badRun := 0, taken := none, lastCode := none, command := .none, echo := false,
    near := 0, far := 0, periodErrors := 0, degraded := false, threshold := Config.defaultThreshold,
    aliveAtStart := false, nearHit := false, farHit := false, awaited := false }

/-- A receive channel that is IDLE with answer NONE (R160, R179). -/
def ReceiveChannel.reset : ReceiveChannel :=
  { phase := .idle, answer := .none, candidate := none, lastTaken := none, stale := 0 }

/-- A send channel after power-on reset (R179). -/
def SendChannel.reset : SendChannel :=
  { phase := .idle, message := none, timer := 0, gap := 0, noneSeen := false, waiting := none, noneShown := 0, noneHeard := 0 }

/-- A station table entry after power-on reset (R171, R179). -/
def Station.reset : Station :=
  { state := .silent, rejection := none, kind := none,
    abilities := { reducedRate := false, off := false, cardReader := false, keypad := false },
    revision := none, serial := none, failed := 0, window := 0, pages := [], wasLost := false, wasDegraded := false,
    receive := .reset, send := .reset, forward := none, complete := [] }

/-- A Deck Engine after power-on reset (R23, R24, R41). -/
def DeckEngine.reset (d : DeckId) : DeckEngine :=
  { state := .unconfigured, record := none, zeros := none, zeroLimit := false, ring := [], last := none, pendingGap := 0,
    gapLatch := false, overload := false, stable := 0, judged := .invalid, value := none, occupancy := .empty,
    profile := .nominal, span := 0, captureCount := 0, trackingCount := 0, restIdle := none, streamInterval := 0,
    streamCount := 0, sample := 0,
    reading := { deck := d, state := .invalid, value := none, sample := 0, profile := .nominal, degraded := false,
                 zeroLimit := false, stamp := none } }

/-- A lane context after power-on reset (R59, R83). -/
def LaneContext.reset : LaneContext :=
  { state := .closed, present := false, reason := none, vehicle := none, passage := none, reservation := none,
    target := none, noVisit := false, pendingCategory := none, claim := .none, captured := none,
    negativeReleased := false, timer := none, departSeen := false, closing := false, lastRead := none, causes := [] }

/-- The block after power-on reset (R23, R41, R58, R83, R102, R122, R137, R153, R179, R190). The line rate is that
of RATE1 and RATE0 both low: DESIGN CHOICE, the manual gives no pin levels (log entry 2). Fields to which their rule gives no
content, the head phase of an empty ticket queue among them, stand as log entry 38 says (DESIGN CHOICE). -/
def State.reset : State :=
  { slots := Vector.replicate 24 LoopSlot.reset
    stations := Vector.replicate 24 Station.reset
    barriers := Vector.replicate 24 none
    decks := #v[DeckEngine.reset 0, DeckEngine.reset 1, DeckEngine.reset 2, DeckEngine.reset 3]
    arbiters := Vector.replicate 4 { holder := none, claims := [] }
    laneTable := Vector.replicate 4 none
    lanes := Vector.replicate 4 LaneContext.reset
    vehicles := []
    categories := Vector.replicate 16 { code := none, enabled := false, inspect := false }
    visits := []
    nextVisitKey := 0
    tareUpdates := []
    counter := .notValid
    queues := Vector.replicate 4 { jobs := [], phase := .waiting }
    nextFrame := 0
    frameInHand := none
    superframeDue := false
    periodCount := 0
    periodDue := false
    sentFrame := []
    rate := .b115200
    receiver := none
    buffer := []
    refusals := []
    reports := []
    overrun := false
    dropped := 0
    line := none
    sentOffice := []
    clock := { set := false, seconds := 0, frames := 0 }
    resetsDue := .clear
    pending := [] }

end Sys2Proof.Machine
end

