-- ==== Sys2Proof/Machine/Ops.lean ====
section
/-! DEFINITION. The shared operations over the state: reading and writing one slot, station, barrier, deck, lane or queue; the station roles; posting a report; the command a slot carries; giving a reply. -/

namespace Sys2Proof.Machine

/-- The lanes 1–4 in order. -/
def allLanes : List LaneId := [0, 1, 2, 3]

/-- The decks A–D in order. -/
def allDecks : List DeckId := [0, 1, 2, 3]

/-- The stations 1–24 in slot order. -/
def allStations : List StationId := List.finRange 24

/-! ## One element of a table -/

def State.slot (s : State) (n : StationId) : LoopSlot := s.slots[n]
def State.setSlot (s : State) (n : StationId) (x : LoopSlot) : State := { s with slots := s.slots.set n x }
def State.station (s : State) (n : StationId) : Station := s.stations[n]
def State.setStation (s : State) (n : StationId) (x : Station) : State := { s with stations := s.stations.set n x }
def State.barrier (s : State) (n : StationId) : Option BarrierRecord := s.barriers[n]
def State.setBarrier (s : State) (n : StationId) (x : Option BarrierRecord) : State :=
  { s with barriers := s.barriers.set n x }
def State.deck (s : State) (d : DeckId) : DeckEngine := s.decks[d]
def State.setDeck (s : State) (d : DeckId) (x : DeckEngine) : State := { s with decks := s.decks.set d x }
def State.arbiter (s : State) (d : DeckId) : Arbiter := s.arbiters[d]
def State.setArbiter (s : State) (d : DeckId) (x : Arbiter) : State := { s with arbiters := s.arbiters.set d x }
def State.laneRecord (s : State) (l : LaneId) : Option LaneRecord := s.laneTable[l]
def State.setLaneRecord (s : State) (l : LaneId) (x : Option LaneRecord) : State :=
  { s with laneTable := s.laneTable.set l x }
def State.lane (s : State) (l : LaneId) : LaneContext := s.lanes[l]
def State.setLane (s : State) (l : LaneId) (x : LaneContext) : State := { s with lanes := s.lanes.set l x }
def State.category (s : State) (c : CategoryNo) : CategoryRecord := s.categories[c]
def State.setCategory (s : State) (c : CategoryNo) (x : CategoryRecord) : State :=
  { s with categories := s.categories.set c x }
def State.queue (s : State) (l : LaneId) : TicketQueue := s.queues[l]
def State.setQueue (s : State) (l : LaneId) (x : TicketQueue) : State := { s with queues := s.queues.set l x }

/-- Change one slot by a function. -/
def State.updateSlot (s : State) (n : StationId) (f : LoopSlot → LoopSlot) : State := s.setSlot n (f (s.slot n))
/-- Change one station entry by a function. -/
def State.updateStation (s : State) (n : StationId) (f : Station → Station) : State := s.setStation n (f (s.station n))
/-- Change one Deck Engine by a function. -/
def State.updateDeck (s : State) (d : DeckId) (f : DeckEngine → DeckEngine) : State := s.setDeck d (f (s.deck d))
/-- Change one lane context by a function. -/
def State.updateLane (s : State) (l : LaneId) (f : LaneContext → LaneContext) : State := s.setLane l (f (s.lane l))

/-- Run a change of the state for each member of a list in turn. -/
def forEach {α : Type} (xs : List α) (f : α → State → State) (s : State) : State := xs.foldl (fun t x => f x t) s

/-- A set grows by a member it does not hold; a set holds each member at most once (00_scope.md, section 6). -/
def insertNew {α : Type} [DecidableEq α] (x : α) (xs : List α) : List α := if x ∈ xs then xs else xs ++ [x]

/-- One more, stopping at a top value: a counter said to saturate (00_scope.md, section 6). -/
def countUp (top n : Nat) : Nat := min top (n + 1)

/-! ## The yard clock and reports -/

/-- The seconds count of the yard clock, absent while it is not set (R187). -/
def State.now (s : State) : Option Nat := if s.clock.set then some s.clock.seconds else none

/-- Post a report: it joins the queue, or is dropped with the dropped count raised and the overrun note set (R185). -/
def State.post (s : State) (b : ReportBody) : State :=
  if s.reports.length < Config.reportCapacity then
    { s with reports := s.reports ++ [{ body := b, stamp := s.now }] }
  else
    { s with dropped := countUp Config.counterTop s.dropped, overrun := true }

/-! ## Command codes -/

/-- An owner sets the command code a slot carries (R147). -/
def State.setCommand (s : State) (n : StationId) (c : Command) : State :=
  s.updateSlot n fun x => { x with command := c }

/-! ## Station roles (R51) -/

/-- The lane record names the station as entry or exit barrier. -/
def LaneRecord.namesBarrier (r : LaneRecord) (n : StationId) : Bool := r.entryBarrier == n || r.exitBarrier == n

/-- The lane record names the station in any place. -/
def LaneRecord.names (r : LaneRecord) (n : StationId) : Bool :=
  r.namesBarrier n || r.terminal == n || r.reader == some n

/-- Lanes whose record meets a test, in lane order. -/
def State.lanesWhere (s : State) (p : LaneRecord → Bool) : List LaneId :=
  allLanes.filter fun l => (s.laneRecord l).any p

/-- The lane whose record names the station as terminal; by R52 there is at most one. -/
def State.laneOfTerminal (s : State) (n : StationId) : Option LaneId := (s.lanesWhere fun r => r.terminal == n).head?

/-- The lane whose record names the station as reader; by R52 there is at most one. -/
def State.laneOfReader (s : State) (n : StationId) : Option LaneId := (s.lanesWhere fun r => r.reader == some n).head?

/-- The deck whose record names the station as digitizer; by R52 there is at most one. -/
def State.deckOfDigitizer (s : State) (n : StationId) : Option DeckId :=
  (allDecks.filter fun d => (s.deck d).record.any fun r => r.digitizer == n).head?

/-- The lanes whose record names the deck, in lane order. -/
def State.deckLanes (s : State) (d : DeckId) : List LaneId := s.lanesWhere fun r => r.deck == d

/-- The lanes naming a barrier station with its role in each (R54, R103). -/
def State.barrierLanes (s : State) (n : StationId) : List (LaneId × BarrierRole) :=
  allLanes.filterMap fun l =>
    match s.laneRecord l with
    | none => none
    | some r =>
      if r.entryBarrier == n then some (l, .entry) else if r.exitBarrier == n then some (l, .exit) else none

/-- The deck the lanes of a barrier name (R114). -/
def State.barrierDeck (s : State) (n : StationId) : Option DeckId :=
  ((s.lanesWhere fun r => r.namesBarrier n).head?.bind s.laneRecord).map LaneRecord.deck

/-- The role kind of a station by the lane and deck records as they stand, with the ability it requires (R51). -/
def State.role (s : State) (n : StationId) : Option Role :=
  if (s.deckOfDigitizer n).isSome then some .digitizer
  else if !(s.lanesWhere fun r => r.namesBarrier n).isEmpty then some .barrier
  else if (s.laneOfReader n).isSome then some .reader
  else match (s.laneOfTerminal n).bind s.laneRecord with
    | some r => some (.terminal r.reader.isNone)
    | none => none

/-- The roles of a station with the deck or the lane that gives each, by the records as they stand: every row of the table of R51
that names it. A barrier shared by a crosswise pair has a role in both lanes, given in lane order: DEDUCED from R51, R52 and R103
(log entry 64). -/
def State.rolePlaces (s : State) (n : StationId) : List RolePlace :=
  (allDecks.filter fun d => (s.deck d).record.any fun r => r.digitizer == n).map .digitizer
    ++ (s.barrierLanes n).map (fun x => .barrier x.1 x.2)
    ++ (s.lanesWhere fun r => r.reader == some n).map .reader
    ++ (s.lanesWhere fun r => r.terminal == n).map .terminal

/-- The kind of station a role requires (R51). -/
def Role.kind : Role → StationKind
  | .digitizer => .digitizer
  | .barrier => .barrierDrive
  | .reader => .identReader
  | .terminal _ => .terminal

/-- A station of this kind and these abilities fits the role; a station with no role fits any kind (R51, R174). -/
def fitsRole (kind : StationKind) (abilities : Abilities) : Option Role → Bool
  | none => true
  | some r => kind == r.kind && (r != .terminal true || abilities.cardReader)

/-- The station is ENROLLED in the station table. -/
def State.enrolled (s : State) (n : StationId) : Bool := (s.station n).state == .enrolled

/-! ## Deck hold -/

/-- The lane holds the deck (R72). -/
def State.holds (s : State) (l : LaneId) (d : DeckId) : Bool := (s.arbiter d).holder == some l

/-- Some lane holds the deck. -/
def State.deckHeld (s : State) (d : DeckId) : Bool := (s.arbiter d).holder.isSome

/-! ## Barrier reports -/

/-- The barrier record as a report carries it (R121). -/
def State.barrierSnapshot (s : State) (n : StationId) (b : BarrierRecord) : BarrierSnapshot :=
  { station := n, state := b.state, commanded := b.commanded, position := b.position, loop := b.loop,
    pendingLower := b.pendingLower, obstructions := b.obstructions, mode := b.mode, staged := b.staged,
    lanes := (s.barrierLanes n).map fun p => (p.1, p.2, (s.lane p.1).state) }

/-- Post a BARRIER report with the record as it stands (R121). -/
def State.postBarrier (s : State) (n : StationId) (why : BarrierReason) : State :=
  match s.barrier n with
  | none => s
  | some b => s.post (.barrier why (s.barrierSnapshot n b))

/-! ## Requests and replies (R182) -/

/-- Every block has taken the yard reset handed to it, so that the requests behind a YARD-RESET find the state it has
left (R189; that they wait for it is log entry 54, DEDUCED). -/
def State.resetsTaken (s : State) : Bool := decide (s.resetsDue = .clear)

/-- The head request is unhandled and is a REQUEST frame of this number, and no yard reset before it is still to be
taken. -/
def State.owes (s : State) (number : Nat) : Bool :=
  match s.buffer with
  | [] => false
  | r :: _ => s.resetsTaken && r.kind == .request && r.reply.isNone && r.body.head? == some (BitVec.ofNat 8 number)

/-- The head request is unhandled and is a FORWARD frame, and no yard reset before it is still to be taken. -/
def State.owesForward (s : State) : Bool :=
  match s.buffer with
  | [] => false
  | r :: _ => s.resetsTaken && r.kind == .forward && r.reply.isNone

/-- The body of the head request holds the request number and nothing after it. -/
def State.headBodyBare (s : State) : Bool :=
  match s.buffer with
  | [] => false
  | r :: _ => r.body.length == 1

/-- The owner gives the reply of the head request. -/
def State.giveReply (s : State) (r : Reply) : State :=
  match s.buffer with
  | [] => s
  | h :: t => { s with buffer := { h with reply := some r } :: t }

/-- The owner handles the head request when it is the request of this number, in one handling, and gives its
reply; when it is not, the command finds nothing to handle and changes nothing (R182, log entry 4). -/
def State.serve (s : State) (number : Nat) (handle : State → State × Reply) : State :=
  if s.owes number then (handle s).1.giveReply (handle s).2 else s

/-- A reply that carries no data. -/
def Reply.plain (c : ReplyCode) : Reply := { code := c, data := .none }

/-- A request refused, changing nothing. -/
def refuse (s : State) (c : ReplyCode) : State × Reply := (s, .plain c)

/-- A request answered OK with data. -/
def accept (s : State) (d : ReplyData) : State × Reply := (s, { code := .ok, data := d })

/-- A body whose fields do not fit is answered BAD and changes nothing; else the request is handled on its fields (R182). -/
def withBody {α : Type} (b : Body α) (handle : α → State → State × Reply) (s : State) : State × Reply :=
  match b with
  | .misfit => refuse s .bad
  | .fits a => handle a s

end Sys2Proof.Machine
end

