-- ==== Sys2Proof/Machine/Operands.lean ====
section
/-! DEFINITION. The operand forms: numbers that name a lane, deck, station or category, character rules, and the checks, defaults and clamps of the loaded records. -/

namespace Sys2Proof.Machine

/-! ## Numbers and characters -/

/-- A number from 1 up to n as a position of a table of n. -/
def oneBased (n : Nat) (k : Nat) : Option (Fin n) :=
  if h : 1 ≤ k ∧ k ≤ n then some ⟨k - 1, by omega⟩ else none

def laneOf (k : Nat) : Option LaneId := oneBased 4 k
def deckOf (k : Nat) : Option DeckId := oneBased 4 k
def stationOf (k : Nat) : Option StationId := oneBased 24 k
def categoryOf (k : Nat) : Option CategoryNo := oneBased 16 k

/-- A–Z, 0–9 and hyphen (00_scope.md, section 6). -/
def identChar (c : Char) : Bool := ('A' ≤ c && c ≤ 'Z') || ('0' ≤ c && c ≤ '9') || c == '-'

/-- The characters of a STATION-NOTE or DISPLAY-TEXT (R168). -/
def textChar (c : Char) : Bool := identChar c || c == ' ' || c == '.' || c == ',' || c == ':' || c == '/'

/-- An ident: 1–16 characters of the ident rule (00_scope.md, section 6; R42). -/
def validIdent (t : Text) : Bool := 1 ≤ t.length && t.length ≤ 16 && t.all identChar

/-- A category code: 1–8 characters of the ident rule (R47). -/
def validCode (t : Text) : Bool := 1 ≤ t.length && t.length ≤ 8 && t.all identChar

/-- A text of 0–40 allowed characters (R167, R169). -/
def validText (t : Text) : Bool := t.length ≤ 40 && t.all textChar

/-- The value lies in a range that includes both ends. -/
def inRange (low high n : Nat) : Bool := low ≤ n && n ≤ high

/-- An absent value meets any range. -/
def optInRange (low high : Nat) : Option Nat → Bool
  | none => true
  | some n => inRange low high n

/-- A timing or tuning value clamped into its range, its default taken when it is absent (R49, R55). -/
def clampOr (default low high : Nat) (v : Option Nat) : Nat := max low (min high (v.getD default))

/-- The members of a set of category numbers, each once; none when a number is outside 1–16. -/
def categorySet (xs : List Nat) : Option (List CategoryNo) :=
  if xs.all (fun n => inRange 1 16 n) then some ((List.finRange 16).filter fun c => (c.val + 1) ∈ xs) else none

/-! ## Vehicle record (R42) -/

/-- The record a LOAD-VEHICLE stores, or none when it breaks a requirement of R42. -/
def vehicleRecord (v : VehicleLoad) : Option VehicleRecord := do
  let account ← v.account
  let status ← v.status
  let policy ← v.tarePolicy
  let permitted ← categorySet v.permitted
  let default ← v.defaultCategory.bind categoryOf
  if validIdent v.ident && inRange 1 999999 account
      && (policy == .weighEach || v.storedTare.isSome)
      && optInRange 1 200000 v.storedTare
      && (v.tareStamp.isNone || v.storedTare.isSome)
      && optInRange 0 Config.wordTop v.tareStamp
      && optInRange 1 200000 v.maxGross
      && !permitted.isEmpty && permitted.contains default then
    some { ident := v.ident, account := account, status := status, tarePolicy := policy, storedTare := v.storedTare,
           tareStamp := v.tareStamp, maxGross := v.maxGross, permitted := permitted, defaultCategory := default }
  else none

/-! ## Lane record (R49) -/

/-- An optional number that must name a member when present. -/
def optNumber {n : Nat} : Option Nat → Option (Option (Fin n))
  | none => some none
  | some k => (oneBased n k).map some

/-- The record a LOAD-LANE stores with its clamps and defaults, or none when R49 refuses a field. -/
def laneRecordOf (v : LaneLoad) : Option LaneRecord := do
  let direction ← v.direction
  let deck ← deckOf v.deck
  let entry ← stationOf v.entryBarrier
  let exit ← stationOf v.exitBarrier
  let terminal ← stationOf v.terminal
  let reader ← optNumber (n := 24) v.reader
  let policy ← v.unknownPolicy
  let cash ← optNumber (n := 16) v.cashCategory
  if policy == .refer || cash.isSome then
    some { direction := direction, deck := deck, entryBarrier := entry, exitBarrier := exit, terminal := terminal,
           reader := reader, unknownPolicy := policy, cashCategory := cash,
           referralTimeout := clampOr 120 10 600 v.referralTimeout,
           tareTolerance := clampOr 5 0 50 v.tareTolerance,
           motionLimit := clampOr 6 1 15 v.motionLimit }
  else none

/-! ## Deck record (R55) -/

/-- A signed 24-bit count (R55). -/
def validCount (z : Int) : Bool := -8388608 ≤ z && z ≤ 8388607

/-- Every corner meets a test. -/
def Corners.all {α : Type} (c : Corners α) (p : α → Bool) : Bool := p c.c1 && p c.c2 && p c.c3 && p c.c4

/-- The record a LOAD-DECK stores with its clamps and defaults, or none when R55 refuses a field. A zero count
outside 24 bits does not fit the format. -/
def deckRecordOf (v : DeckLoad) : Option DeckRecord := do
  let digitizer ← stationOf v.digitizer
  let nn := v.nominalWindow.getD 32
  let nt := v.transitWindow.getD 8
  if v.zeros.all validCount
      && v.factors.all (inRange 32768 131072)
      && inRange 1 65535 v.scale
      && [1, 2, 5, 10, 20, 50].contains v.division
      && inRange 1000 200000 v.capacity
      && v.capacity % v.division == 0
      && inRange 500 10000 (v.capacity / v.division)
      && v.refZero.natAbs ≤ 1000 * v.capacity
      && [8, 16, 32, 64].contains nn
      && [4, 8, 16].contains nt then
    some { digitizer := digitizer, zeros := v.zeros, factors := v.factors, scale := v.scale, division := v.division,
           capacity := v.capacity, refZero := v.refZero, nominalWindow := nn, transitWindow := min nt nn,
           settleCount := clampOr 50 1 255 v.settleCount,
           motionBand := clampOr 4 1 20 v.motionBand,
           occupancyThreshold := min (clampOr 50 5 1000 v.occupancyThreshold) (v.capacity / v.division),
           transitSpan := clampOr 250 0 2000 v.transitSpan,
           restIdleTime := clampOr 120 0 255 v.restIdleTime,
           zeroTracking := v.zeroTracking.getD true }
  else none

/-! ## Enrolment pages (R173) -/

/-- The abilities a kind of station defines (R171). -/
def abilitiesFit (kind : StationKind) (a : Abilities) : Bool :=
  match kind with
  | .digitizer => !a.cardReader && !a.keypad
  | .terminal => !a.reducedRate && !a.off
  | .barrierDrive | .identReader => !a.reducedRate && !a.off && !a.cardReader && !a.keypad

/-- The page holds values of the kinds R173 gives (R168). -/
def EnrolPage.wellFormed : EnrolPage → Bool
  | .base kind abilities revision follow _ => abilitiesFit kind abilities && revision ≤ 255 && follow ≤ 3
  | .next number chunk _ => inRange 1 3 number && chunk.length ≤ 8 && chunk.all identChar

/-- The toggle of a page (R173). -/
def EnrolPage.toggle : EnrolPage → Bool
  | .base _ _ _ _ t => t
  | .next _ _ t => t

/-! ## Message fields (R168) -/

/-- The fields of an IDENT-READ lie within R167. -/
def IdentRead.wellFormed (r : IdentRead) : Bool := validIdent r.ident && r.quality ≤ 100

/-- The fields of a KEY-ENTRY lie within R167. -/
def KeyEntry.wellFormed : KeyEntry → Bool
  | .category n => inRange 1 16 n
  | .callAttendant => true

/-- The fields of a PRINT-OUTCOME lie within R167. -/
def PrintMessage.wellFormed (m : PrintMessage) : Bool := inRange 1 Config.ticketTop m.number

/-! ## Selectors (5.9) -/

/-- The form of a selector is right: a ticket number of 1–99,999,999, an ident of the character rule, a position of 1–64. -/
def Selector.wellFormed : Selector → Bool
  | .ticket n => inRange 1 Config.ticketTop n
  | .ident t => validIdent t
  | .position n => inRange 1 Config.visitCapacity n

end Sys2Proof.Machine
end

