-- ==== Sys2Proof/Machine/Flags.lean ====
section
/-! DEFINITION. What the codes and flags say: the values of the status and command codes of each kind of station (R148, R154), the fault code an undefined value counts as (R146), and the flags a reading record carries (R19). -/

namespace Sys2Proof.Machine

/-- A barrier drive's status code (chapter 6). -/
inductive BarrierStatus where
  | shows (position : Position) (loop : ArmLoop)
  | manual
  | fault
  deriving DecidableEq, Repr

/-- The readiness part of a terminal's status code (R148). -/
inductive Readiness where
  | ready | low | out
  deriving DecidableEq, Repr

/-- A lane terminal's status code (R148). -/
inductive TerminalStatus where
  | shows (readiness : Readiness) (present : Bool)
  | fault
  deriving DecidableEq, Repr

/-- The status values a kind of station defines (R154). -/
def codeDefined (kind : StationKind) (c : Code) : Bool :=
  match kind with
  | .barrierDrive => c.toNat ≤ 9
  | .digitizer => c.toNat ≤ 2 || c.toNat == 9
  | .identReader => c.toNat ≤ 1 || c.toNat == 9
  | .terminal => c.toNat ≤ 5 || c.toNat == 9

/-- A barrier status value; one that is not defined counts as FAULT (R146, R154). -/
def barrierStatus (c : Code) : BarrierStatus :=
  match c.toNat with
  | 0 => .shows .down .clear
  | 1 => .shows .down .occupied
  | 2 => .shows .up .clear
  | 3 => .shows .up .occupied
  | 4 => .shows .rising .clear
  | 5 => .shows .rising .occupied
  | 6 => .shows .falling .clear
  | 7 => .shows .falling .occupied
  | 8 => .manual
  | _ => .fault

/-- A terminal status value; one that is not defined counts as FAULT (R146, R154). -/
def terminalStatus (c : Code) : TerminalStatus :=
  match c.toNat with
  | 0 => .shows .ready false
  | 1 => .shows .ready true
  | 2 => .shows .low false
  | 3 => .shows .low true
  | 4 => .shows .out false
  | 5 => .shows .out true
  | _ => .fault

/-- A digitizer status value says EXCITATION-FAULT; so does one that is not defined (R146, R154). -/
def digitizerFault (c : Code) : Bool := 3 ≤ c.toNat

/-- A reader status value says FAULT; so does one that is not defined (R146, R154). -/
def readerFault (c : Code) : Bool := 2 ≤ c.toNat

/-- The value of a command code on the loop (R154). -/
def commandValue : Command → Code
  | .none => 0
  | .raise | .full | .arm | .showOff => 1
  | .lower | .reduced | .disarm | .showIdle => 2
  | .hold | .off | .showWait => 3
  | .showDriveOn => 4
  | .showGo => 5
  | .showStop => 6
  | .showRefer => 7

/-- The command code of a barrier drive (R103). -/
def BarrierCommand.code : BarrierCommand → Command
  | .none => .none
  | .raise => .raise
  | .lower => .lower
  | .hold => .hold

/-- The taken status code of the deck's ENROLLED digitizer says EXCITATION-FAULT (R4, R146). -/
def State.excited (s : State) (d : DeckId) : Bool :=
  match (s.deck d).record with
  | none => false
  | some r => s.enrolled r.digitizer && (s.slot r.digitizer).taken.any digitizerFault

/-- The DEGRADED flag of the deck's digitizer station (R19). -/
def State.deckDegraded (s : State) (d : DeckId) : Bool :=
  match (s.deck d).record with
  | none => false
  | some r => (s.slot r.digitizer).degraded

/-- The state a reading record publishes for a judged state (R19). -/
def Judged.reading : Judged → ReadingState
  | .filling => .filling
  | .motion => .motion
  | .stable => .stable
  | .over => .over
  | .under => .under
  | .invalid => .invalid

/-- Quiet lane states, in which an office order is accepted (R115). -/
def LaneState.quiet : LaneState → Bool
  | .closed | .idle | .referred | .refused | .fault | .recover => true
  | .identify | .awaitDeck | .entering | .weighing | .releasing | .leaving => false

/-- Referral reasons raised before entry (R68). -/
def ReferralReason.beforeEntry : ReferralReason → Bool
  | .noIdent | .unknown | .status | .alreadyInYard | .category | .yardFull | .notInYard | .deckFault => true
  | .entryIncomplete | .noStable | .inspect | .negativeNet | .tareMismatch | .noTicketNumber => false

end Sys2Proof.Machine
end

