-- ==== Sys2Proof/Machine/Wire.lean ====
section
/-! DEFINITION. The wire formats (8.9): the slot check and the office check, downstream records and frames, upstream records, sample groups. -/

namespace Sys2Proof.Machine

/-! ## Checks (R141, R159) -/

/-- One bit of the slot check (R141, step 3). -/
def slotCheckBit (reg : BitVec 8) (b : Bool) : BitVec 8 :=
  if reg.msb == b then reg <<< 1 else (reg <<< 1) ^^^ 0x07#8

/-- The bits of a byte, most significant first. -/
def byteBits (b : Byte) : List Bool :=
  [b.getLsbD 7, b.getLsbD 6, b.getLsbD 5, b.getLsbD 4, b.getLsbD 3, b.getLsbD 2, b.getLsbD 1, b.getLsbD 0]

/-- The 8-bit slot check over the bytes of a record (R141). -/
def slotCheck (bytes : List Byte) : Byte := (bytes.flatMap byteBits).foldl slotCheckBit 0xFF#8

/-- One bit of the office check (R159). -/
def officeCheckBit (reg : BitVec 16) (b : Bool) : BitVec 16 :=
  if reg.msb == b then reg <<< 1 else (reg <<< 1) ^^^ 0x1021#16

/-- The 16-bit check of an office frame over its length, kind, tag and body (R159). -/
def officeCheck (bytes : List Byte) : BitVec 16 := (bytes.flatMap byteBits).foldl officeCheckBit 0xFFFF#16

/-! ## Fields (R158) -/

def markValue : Mark → BitVec 2
  | .none => 0
  | .first => 1
  | .next => 2

def answerValue : Answer → BitVec 2
  | .none => 0
  | .taken0 => 1
  | .taken1 => 2
  | .abort => 3

/-- The mark a field value names; the value 11 names none (R158). -/
def markOf (v : BitVec 2) : Option Mark :=
  match v.toNat with
  | 0 => some .none
  | 1 => some .first
  | 2 => some .next
  | _ => none

def answerOf (v : BitVec 2) : Answer :=
  match v.toNat with
  | 0 => .none
  | 1 => .taken0
  | 2 => .taken1
  | _ => .abort

/-- TAKEN with a parity (9.1). -/
def takenAnswer (parity : Bool) : Answer := if parity then .taken1 else .taken0

/-- The upstream kind a kind unit names (R158). -/
def upKindOf (b : Byte) : Option UpKind :=
  match b.toNat with
  | 0x11 => some .identRead
  | 0x12 => some .keyEntry
  | 0x13 => some .printOutcome
  | 0x14 => some .enrolPage
  | 0x15 => some .stationNote
  | _ => none

/-- The kind unit of an upstream kind (R158). -/
def UpKind.byte : UpKind → Byte
  | .identRead => 0x11
  | .keyEntry => 0x12
  | .printOutcome => 0x13
  | .enrolPage => 0x14
  | .stationNote => 0x15

/-! ## Downstream (R155) -/

/-- The number of a slot as its records carry it, 1–24. -/
def slotNumber (n : StationId) : BitVec 5 := BitVec.ofNat 5 (n.val + 1)

/-- A downstream slot record of 4 bytes (R155). -/
def downstreamRecord (n : StationId) (command : Command) (echo : Bool) (u : UnitFields) (answer : Answer) : List Byte :=
  let b0 : Byte := commandValue command ++ BitVec.ofBool echo ++ markValue u.mark ++ BitVec.ofBool u.parity
  let b2 : Byte := answerValue answer ++ 0#1 ++ slotNumber n
  [b0, u.unit, b2, slotCheck [b0, u.unit, b2]]

/-- The sync word, inverted in frame 0 (R138, R155). -/
def syncWord (frame : Nat) : List Byte := if frame = 0 then [0xB1#8, 0xE4#8] else [0x4E#8, 0x1B#8]

/-! ## Upstream (R139, R156, R157) -/

/-- The preamble byte of an upstream slot (R156). -/
def preamble : Byte := 0x6C#8

/-- A signed 24-bit count, most significant byte first (R157). -/
def signed24 (a b c : Byte) : Int := (a ++ b ++ c : BitVec 24).toInt

/-- The 14 bytes of a sample group (R157). -/
def sampleGroupOf (b : List Byte) : Option SampleGroup :=
  match b with
  | [sq, f, a1, b1, c1, a2, b2, c2, a3, b3, c3, a4, b4, c4] =>
    some { sequence := sq.toNat,
           counts := ⟨signed24 a1 b1 c1, signed24 a2 b2 c2, signed24 a3 b3 c3, signed24 a4 b4 c4⟩,
           saturated := ⟨f.getLsbD 0, f.getLsbD 1, f.getLsbD 2, f.getLsbD 3⟩ }
  | _ => none

/-- The unit fields of a good record; with mark NONE the parity and the unit are sent as 0 and ignored (R158). -/
def unitFields (mark : Mark) (parity : Bool) (unit : Byte) : UnitFields :=
  match mark with
  | .none => { mark := .none, parity := false, unit := 0 }
  | .first | .next => { mark := mark, parity := parity, unit := unit }

/-- Bytes of an upstream record, preamble apart: 18 with a sample group, 4 without, by the group-present flag of byte 2 (R156). -/
def recordLength (b2 : Byte) : Nat := if b2.getLsbD 5 then 18 else 4

/-- Judge the bytes that arrived at a slot's place in a frame (R139). -/
def judgeSlot (n : StationId) (frame : Nat) (arrived : List Byte) : SlotOutcome :=
  match arrived with
  | p :: b0 :: b1 :: b2 :: rest =>
    if p != preamble then .missing
    else
      let len := recordLength b2
      let body := (b0 :: b1 :: b2 :: rest).take (len - 1)
      match (b0 :: b1 :: b2 :: rest)[len - 1]? with
      | none => .missing
      | some check =>
        if check != slotCheck body then .bad
        else if b2.extractLsb' 0 5 != slotNumber n then .bad
        else match markOf (b0.extractLsb' 1 2) with
          | none => .bad
          | some mark =>
            if b2.getLsbD 5 && frame != 0 then .bad
            else .good { code := b0.extractLsb' 4 4, echo := b0.getLsbD 3,
                         unit := unitFields mark (b0.getLsbD 0) b1,
                         answer := answerOf (b2.extractLsb' 6 2),
                         group := if b2.getLsbD 5 then sampleGroupOf (body.drop 3) else none }
  | _ => .missing

/-- A signed value as a 24-bit two's complement count, most significant byte first (R157). -/
def countBytes (c : Int) : List Byte :=
  let w : BitVec 24 := BitVec.ofInt 24 c
  [w.extractLsb' 16 8, w.extractLsb' 8 8, w.extractLsb' 0 8]

/-- The 14 bytes of a sample group (R157). -/
def SampleGroup.bytes (g : SampleGroup) : List Byte :=
  let flags : Byte := 0#4 ++ BitVec.ofBool g.saturated.c4 ++ BitVec.ofBool g.saturated.c3 ++ BitVec.ofBool g.saturated.c2
    ++ BitVec.ofBool g.saturated.c1
  [BitVec.ofNat 8 g.sequence, flags] ++ countBytes g.counts.c1 ++ countBytes g.counts.c2 ++ countBytes g.counts.c3
    ++ countBytes g.counts.c4

/-- The bytes a station sends in its slot for a record: preamble, record, slot check (R156). -/
def UpRecord.bytes (n : StationId) (r : UpRecord) : List Byte :=
  let b0 : Byte := r.code ++ BitVec.ofBool r.echo ++ markValue r.unit.mark ++ BitVec.ofBool r.unit.parity
  let b2 : Byte := answerValue r.answer ++ BitVec.ofBool r.group.isSome ++ slotNumber n
  let body := [b0, r.unit.unit, b2] ++ ((r.group.map SampleGroup.bytes).getD [])
  preamble :: body ++ [slotCheck body]

/-! ## Office frames (R159) -/

/-- The start byte of an office frame. -/
def startByte : Byte := 0xC3#8

/-- The frame kind bytes that arrive as requests (R159, R180). -/
def requestKindOf (b : Byte) : Option RequestKind :=
  match b.toNat with
  | 0x51 => some .request
  | 0x54 => some .forward
  | _ => none

/-- The frame kind byte of a request (R159). -/
def RequestKind.byte : RequestKind → Byte
  | .request => 0x51
  | .forward => 0x54

/-- The bytes of a frame of a kind byte, start byte and check included (R159). -/
def officeFrameBytes (kind tag : Byte) (body : List Byte) : List Byte :=
  let w : BitVec 16 := BitVec.ofNat 16 (body.length + 2)
  let covered := [w.extractLsb' 8 8, w.extractLsb' 0 8, kind, tag] ++ body
  let check := officeCheck covered
  startByte :: covered ++ [check.extractLsb' 8 8, check.extractLsb' 0 8]

/-- The length field of an office frame. -/
def officeLength (hi lo : Byte) : Nat := hi.toNat * 256 + lo.toNat

end Sys2Proof.Machine
end

