-- ==== Sys2Proof/Machine/Weigh.lean ====
section
/-! DEFINITION. Chapter 1, Deck Weighing Arithmetic: from the corner counts of a sample group to the judged state, the occupancy, the profile and the reading record. -/

namespace Sys2Proof.Machine

/-! ## Exact arithmetic -/

/-- The quotient n / d rounded half away from zero (00_scope.md, section 6). -/
def roundDiv (n : Int) (d : Nat) : Int := n.sign * (((2 * n.natAbs + d) / (2 * d) : Nat) : Int)

/-- The corrected count of one corner (R5). -/
def cornerCount (c z : Int) (k : Nat) : Int := roundDiv ((c - z) * k) 65536

/-- The raw mass of a group, grams (R5, R6). -/
def rawMass (r : DeckRecord) (c : Corners Int) : Int :=
  let sum := cornerCount c.c1 r.zeros.c1 r.factors.c1 + cornerCount c.c2 r.zeros.c2 r.factors.c2
    + cornerCount c.c3 r.zeros.c3 r.factors.c3 + cornerCount c.c4 r.zeros.c4 r.factors.c4
  roundDiv (sum * r.scale) 1024

/-- A corner is saturated by its flag or by an end value of its count (R2). -/
def cornerSaturated (flag : Bool) (c : Int) : Bool := flag || c == 8388607 || c == -8388608

/-- A group with one or more saturated corners (R2). -/
def SampleGroup.isSaturated (g : SampleGroup) : Bool :=
  cornerSaturated g.saturated.c1 g.counts.c1 || cornerSaturated g.saturated.c2 g.counts.c2
    || cornerSaturated g.saturated.c3 g.counts.c3 || cornerSaturated g.saturated.c4 g.counts.c4

/-! ## The window -/

/-- The active window N (R9). -/
def activeWindow (r : DeckRecord) (p : Profile) : Nat :=
  match p with
  | .nominal => r.nominalWindow
  | .transit => r.transitWindow

/-- The fill count: raw masses entered since the window was last cleared, at most 64 (R7). -/
def DeckEngine.fill (e : DeckEngine) : Nat := e.ring.length

/-- The newest N entries of the ring, or all of them when there are fewer. -/
def DeckEngine.newest (e : DeckEngine) (n : Nat) : List RingEntry := e.ring.take n

/-- The rounded average of the newest N raw masses, the quantity W_f + T (R10). -/
def DeckEngine.average (e : DeckEngine) (n : Nat) : Int := roundDiv ((e.newest n).map RingEntry.mass).sum n

/-- The tracked zero the engine holds, grams (R24). -/
def DeckEngine.tracked (e : DeckEngine) : Int := (e.zeros.map Zeros.tracked).getD 0

/-- The filtered mass W_f (R10). -/
def DeckEngine.filtered (e : DeckEngine) (r : DeckRecord) : Int :=
  e.average (activeWindow r e.profile) - e.tracked

/-- The span of a list of masses: its largest less its smallest (R11). -/
def massSpan (xs : List Int) : Int :=
  match xs with
  | [] => 0
  | x :: t => t.foldl max x - t.foldl min x

/-- Motion over the newest N raw masses: the span exceeds B quarter-divisions (R11). -/
def DeckEngine.inMotion (e : DeckEngine) (r : DeckRecord) : Bool :=
  massSpan ((e.newest (activeWindow r e.profile)).map RingEntry.mass) > 250 * r.motionBand * r.division

/-- The gap latch after the test of R12 over the newest N entries. -/
def DeckEngine.latchTest (e : DeckEngine) (r : DeckRecord) : Bool :=
  let n := activeWindow r e.profile
  let gaps := (e.newest n).map RingEntry.gap
  if gaps.sum > Config.gapLimit then true
  else if e.gapLatch && n ≤ e.fill && gaps.all (· == 0) then false
  else e.gapLatch

/-- The division-rounded mass W_d, grams (R13). -/
def DeckEngine.rounded (e : DeckEngine) (r : DeckRecord) : Int :=
  1000 * r.division * roundDiv (e.filtered r) (1000 * r.division)

/-- The judged state and its value by the first line of R14 that applies; the overload note stands for the line
of a saturated group (R15). -/
def DeckEngine.judge (e : DeckEngine) (r : DeckRecord) : Judged × Option Int :=
  if e.overload then (.over, none)
  else if e.gapLatch then (.invalid, none)
  else if e.fill < activeWindow r e.profile then (.filling, none)
  else if e.rounded r > 1000 * (r.capacity + 9 * r.division) then (.over, none)
  else if e.rounded r < -(20000 * r.division) then (.under, none)
  else if e.stable ≥ r.settleCount then (.stable, some (e.rounded r))
  else (.motion, some (e.rounded r))

/-- The engine with its judged state settled (R14). -/
def DeckEngine.settled (e : DeckEngine) (r : DeckRecord) : DeckEngine :=
  { e with judged := (e.judge r).1, value := (e.judge r).2 }

/-- Re-judgement of the ring as it stands, on a change of the active window (R15). While the digitizer's code is
EXCITATION-FAULT the judged state is INVALID (R4). -/
def DeckEngine.rejudged (e : DeckEngine) (r : DeckRecord) (excited : Bool) : DeckEngine :=
  if excited then { e with judged := .invalid, value := none }
  else { e with gapLatch := e.latchTest r }.settled r

/-- A window clear (R8); the tracking count becomes 0 (R28), and the capture count while the deck stays in CAPTURING (R25). -/
def DeckEngine.windowCleared (e : DeckEngine) (excited : Bool) : DeckEngine :=
  { e with ring := [], stable := 0, pendingGap := 0, gapLatch := false, overload := false, last := none,
           judged := if excited then .invalid else .filling, value := none, trackingCount := 0,
           captureCount := if e.state = .capturing then 0 else e.captureCount }

/-! ## The sequence check (R3) -/

/-- The outcome of the sequence check: none for a duplicate, else the missing samples counted. -/
def sequenceCheck (last : Option Nat) (number : Nat) : Option Nat :=
  match last with
  | none => some 0
  | some k => if number = k then none else some ((number + 512 - k - 1) % 256)

/-- An accepted group becomes "last" and its missing samples join the pending gap (R3). -/
def DeckEngine.counted (e : DeckEngine) (number missing : Nat) : DeckEngine :=
  { e with last := some number, pendingGap := min Config.pendingGapTop (e.pendingGap + missing) }

/-- A saturated group: no raw mass, stable count 0, overload note set (R2). -/
def DeckEngine.saturatedGroup (e : DeckEngine) : DeckEngine := { e with stable := 0, overload := true }

/-- A raw mass enters the ring with the pending gap (R7). -/
def DeckEngine.entered (e : DeckEngine) (mass : Int) : DeckEngine :=
  { e with ring := ({ mass := mass, gap := e.pendingGap } :: e.ring).take Config.ringCapacity, pendingGap := 0,
           overload := false }

/-- The stable count after a group that entered the ring (R3, R11). -/
def DeckEngine.stableAfter (e : DeckEngine) (r : DeckRecord) (missing : Nat) : Nat :=
  if missing ≠ 0 then 0
  else if e.fill < activeWindow r e.profile then e.stable
  else if e.inMotion r then 0
  else countUp Config.counterTop e.stable

/-- A group that is not saturated: ring entry, gap latch, motion test (R5–R12). -/
def DeckEngine.weighedGroup (e : DeckEngine) (r : DeckRecord) (mass : Int) (missing : Nat) : DeckEngine :=
  let e := e.entered mass
  let e := { e with gapLatch := e.latchTest r }
  { e with stable := e.stableAfter r missing }

/-! ## Occupancy and profile -/

/-- The occupancy after a group, from its judged state (R16). -/
def DeckEngine.occupancyAfter (e : DeckEngine) (r : DeckRecord) : Occupancy :=
  match e.judged, e.value with
  | .over, _ => .occupied
  | .under, _ => .empty
  | _, some w =>
    if w ≥ 1000 * r.occupancyThreshold * r.division then .occupied
    else if w < 500 * r.occupancyThreshold * r.division then .empty
    else e.occupancy
  | _, none => e.occupancy

/-- A profile switch or restart: TRANSIT with span Ts, stable count 0 and the ring re-judged; with Ts 0 nothing (R17). -/
def DeckEngine.switched (e : DeckEngine) (r : DeckRecord) (excited : Bool) : DeckEngine :=
  if r.transitSpan = 0 then e
  else { e with profile := .transit, span := r.transitSpan, stable := 0 }.rejudged r excited

/-- The profile returns to NOMINAL, the stable count becomes 0 and the ring is re-judged (R18). -/
def DeckEngine.returned (e : DeckEngine) (r : DeckRecord) (excited : Bool) : DeckEngine :=
  { e with profile := .nominal, stable := 0 }.rejudged r excited

/-- An accepted group reduces the remaining transit span; at 0 the profile returns (R18). -/
def DeckEngine.spanCounted (e : DeckEngine) (r : DeckRecord) : DeckEngine :=
  match e.profile with
  | .nominal => e
  | .transit =>
    let e := { e with span := e.span - 1 }
    if e.span = 0 then e.returned r false else e

/-- An occupancy change switches the profile and restarts the rest idle timer of an ACTIVE deck (R16, R17, R34). -/
def DeckEngine.occupancyTold (e : DeckEngine) (r : DeckRecord) (before : Occupancy) : DeckEngine :=
  if e.occupancy = before then e
  else
    let e := e.switched r false
    { e with restIdle := if e.state = .active then some 0 else e.restIdle }

/-- The weighing of one accepted group: judged state, occupancy, transit span, switch and sample number, in the order of R14, R18 and R20. -/
def DeckEngine.accepted (e : DeckEngine) (r : DeckRecord) (g : SampleGroup) (missing : Nat) : DeckEngine :=
  let before := e.occupancy
  let e := e.counted g.sequence missing
  let e := if g.isSaturated then e.saturatedGroup else e.weighedGroup r (rawMass r g.counts) missing
  let e := e.settled r
  let e := { e with occupancy := e.occupancyAfter r }
  let e := e.spanCounted r
  let e := e.occupancyTold r before
  { e with sample := countUp Config.wordTop e.sample }

/-! ## The reading record -/

/-- The state and value a reading record publishes (R19). -/
def DeckEngine.published (e : DeckEngine) : ReadingState × Option Int :=
  match e.state with
  | .active => (e.judged.reading, e.value)
  | .capturing | .waking | .warmRest | .coldRest => (.resting, none)
  | .unconfigured | .waiting | .fault => (.invalid, none)

/-- The engine replaces its reading record (R19, R20). -/
def State.replaceReading (s : State) (d : DeckId) : State :=
  let e := s.deck d
  s.setDeck d { e with reading :=
    { deck := d, state := e.published.1, value := e.published.2, sample := e.sample, profile := e.profile,
      degraded := s.deckDegraded d, zeroLimit := e.zeroLimit, stamp := s.now } }

/-- The deck states that accept groups (R1). -/
def DeckState.acceptsGroups : DeckState → Bool
  | .capturing | .active | .waking | .warmRest => true
  | .waiting | .coldRest | .fault | .unconfigured => false

/-! ## Stream (R22) -/

/-- The stream count has reached the stream interval of an ACTIVE deck. -/
def DeckEngine.streamDue (e : DeckEngine) : Bool :=
  e.state == .active && e.streamInterval != 0 && e.streamInterval ≤ e.streamCount

/-- A READING report is posted and the stream count returns to 0 (R22). -/
def State.postStream (s : State) (d : DeckId) : State :=
  if (s.deck d).streamDue then
    (s.setDeck d { s.deck d with streamCount := 0 }).post (.reading (s.deck d).reading)
  else s

/-- A group accepted while the deck is ACTIVE counts towards the stream (R22). -/
def State.streamGroup (s : State) (d : DeckId) : State :=
  if (s.deck d).streamInterval = 0 then s
  else (s.setDeck d { s.deck d with streamCount := (s.deck d).streamCount + 1 }).postStream d

/-! ## Requests (R21, R22) -/

/-- What READ-DECK shows of an engine (R21). -/
def DeckEngine.status (e : DeckEngine) : DeckStatus :=
  { state := e.state, reading := e.reading, occupancy := e.occupancy, span := e.span, stable := e.stable,
    fill := e.fill, streamInterval := e.streamInterval, zeros := e.zeros,
    zeroLimit := if e.state = .unconfigured then none else some e.zeroLimit }

/-- READ-DECK (R21). -/
def readDeck (deck : Nat) (s : State) : State × Reply :=
  match deckOf deck with
  | none => refuse s .bad
  | some d => accept s (.deckStatus (s.deck d).status)

/-- STREAM-DECK (R22). -/
def streamDeck (v : StreamLoad) (s : State) : State × Reply :=
  match deckOf v.deck with
  | none => refuse s .bad
  | some d =>
    if v.interval > 255 then refuse s .bad
    else accept (s.setDeck d { s.deck d with streamInterval := v.interval, streamCount := 0 }) .none

end Sys2Proof.Machine
end

