-- ==== Sys2Proof/Machine/Zero.lean ====
section
/-! DEFINITION. Chapter 2, Zero, Capture and Deck Rest: zero capture and tracking, the deck states, rest and wake. The lanes are told of what a deck did by Machine/Lanes.lean. -/

namespace Sys2Proof.Machine

/-! ## Deck states (R31, R40) -/

/-- The digitizer command code of each deck state (R31). -/
def deckCommand : DeckState → Command
  | .unconfigured => .none
  | .waiting | .coldRest | .fault => .off
  | .capturing | .active | .waking => .full
  | .warmRest => .reduced

/-- The engine sets the digitizer's command code, in the slot of the station its record names (R31, R147). -/
def State.commandDigitizer (s : State) (d : DeckId) : State :=
  match (s.deck d).record with
  | none => s
  | some r => s.setCommand r.digitizer (deckCommand (s.deck d).state)

/-- What entry into a deck state does to the engine: the tracking count becomes 0 on each change (R28), the rest
idle timer runs in ACTIVE alone (R34), CAPTURING and WAKING start from a cleared window (R25, R37), ACTIVE starts
its counts from 0 (R40). -/
def DeckEngine.enters (e : DeckEngine) (st : DeckState) (excited : Bool) : DeckEngine :=
  let e := { e with state := st, trackingCount := 0, restIdle := none }
  match st with
  | .capturing => { (e.windowCleared excited) with captureCount := 0 }
  | .waking => e.windowCleared excited
  | .active => { e with sample := 0, streamCount := 0, restIdle := some 0 }
  | _ => e

/-- The deck enters a state: command code set, reading record replaced (R20, R31). -/
def State.enterDeckState (s : State) (d : DeckId) (st : DeckState) : State :=
  ((s.setDeck d ((s.deck d).enters st (s.excited d))).commandDigitizer d).replaceReading d

/-- A window clear with the reading record replaced (R8, R20). -/
def State.clearDeckWindow (s : State) (d : DeckId) : State :=
  (s.setDeck d ((s.deck d).windowCleared (s.excited d))).replaceReading d

/-! ## Zero capture (R25–R27) -/

/-- The average lies within a bound of a zero, either way, the bound itself allowed. -/
def within (bound : Nat) (x y : Int) : Bool := (x - y).natAbs ≤ bound

/-- The capture test of R26 passes: STABLE, with the candidate within 10 % of capacity of Z0. -/
def DeckEngine.captureTest (e : DeckEngine) (r : DeckRecord) : Bool :=
  e.judged == .stable && within (100 * r.capacity) (e.average (activeWindow r e.profile)) ((e.zeros.map Zeros.refZero).getD 0)

/-- Zc and T take the candidate of a capture (R26). -/
def Zeros.atCapture (candidate : Int) (z : Zeros) : Zeros := { z with captured := candidate, tracked := candidate }

/-- A zero capture: Zc and T take the candidate, ZERO-LIMIT is cleared, the window is cleared and the deck enters
ACTIVE, the reading record replaced once (R26). -/
def State.captureZero (s : State) (d : DeckId) (r : DeckRecord) : State :=
  let e := s.deck d
  let candidate := e.average (activeWindow r e.profile)
  let e := { e with zeros := e.zeros.map (Zeros.atCapture candidate), zeroLimit := false }
  (s.setDeck d (e.windowCleared (s.excited d))).enterDeckState d .active

/-- The capture count has reached 1,250 in CAPTURING (R27). -/
def DeckEngine.captureFailed (e : DeckEngine) : Bool :=
  e.state == .capturing && Config.captureLimit ≤ e.captureCount

/-- The deck enters FAULT with ZERO-FAIL and an ANOMALY is posted (R27). -/
def State.failZero (s : State) (d : DeckId) : State :=
  if (s.deck d).captureFailed then (s.enterDeckState d .fault).post (.zeroFail d) else s

/-- The end of a group's handling in CAPTURING: the count, the capture test, the failure (R25–R27). -/
def State.capturingGroup (s : State) (d : DeckId) (r : DeckRecord) : State :=
  let s := s.setDeck d { s.deck d with captureCount := (s.deck d).captureCount + 1, trackingCount := 0 }
  if (s.deck d).captureTest r then s.captureZero d r
  else if (s.deck d).captureFailed then s.failZero d
  else s.replaceReading d

/-! ## Zero tracking (R28, R29) -/

/-- A group just handled qualifies for zero tracking (R28). -/
def State.qualifies (s : State) (d : DeckId) (r : DeckRecord) : Bool :=
  let e := s.deck d
  r.zeroTracking && !e.zeroLimit && (e.state == .active || e.state == .warmRest)
    && e.judged == .stable && e.value == some 0 && !s.deckHeld d

/-- A value clamped to a limit either way. -/
def clampSigned (limit x : Int) : Int := max (-limit) (min limit x)

/-- A tracking step: T moves by the clamped W_f, or is set to the bound with ZERO-LIMIT and an ANOMALY (R29). -/
def State.trackZero (s : State) (d : DeckId) (r : DeckRecord) : State :=
  let e := s.deck d
  match e.zeros with
  | none => s
  | some z =>
    let moved := z.tracked + clampSigned (250 * r.division) (e.filtered r)
    let bound : Int := 20 * r.capacity
    if within (20 * r.capacity) moved z.captured then
      s.setDeck d { e with zeros := some { z with tracked := moved }, trackingCount := 0 }
    else
      (s.setDeck d { e with zeros := some { z with tracked := z.captured + clampSigned bound (moved - z.captured) },
                            trackingCount := 0, zeroLimit := true }).post (.zeroLimit d)

/-- The tracking count has reached 125 on a configured deck (R29). -/
def DeckEngine.trackingDue (e : DeckEngine) : Bool := Config.trackingRun ≤ e.trackingCount

/-- The tracking of one accepted group, after its reading record was replaced (R28, R29). -/
def State.trackGroup (s : State) (d : DeckId) (r : DeckRecord) : State :=
  if s.qualifies d r then
    let s := s.setDeck d { s.deck d with trackingCount := (s.deck d).trackingCount + 1 }
    if (s.deck d).trackingDue then s.trackZero d r else s
  else s.setDeck d { s.deck d with trackingCount := 0 }

/-! ## Waking (R37, R38) -/

/-- A WAKING deck whose fill count is N or more (R38). A presence ARRIVE that lowers N to the fill count makes it so with no
group handled, and WAKING_COMPLETE then ends WAKING: DESIGN CHOICE, R38 speaks of a group's handling alone (log entry 45). -/
def DeckEngine.wakingDone (e : DeckEngine) : Bool :=
  e.state == .waking && e.record.any fun r => activeWindow r e.profile ≤ e.fill

/-- The deck enters ACTIVE with the state judged for its last group (R38). -/
def State.completeWaking (s : State) (d : DeckId) : State :=
  if (s.deck d).wakingDone then s.enterDeckState d .active else s

/-- A wake event (R37). -/
def State.wakeDeckEvent (s : State) (d : DeckId) : State :=
  match (s.deck d).state with
  | .warmRest => s.enterDeckState d .waking
  | .coldRest => s.enterDeckState d .capturing
  | _ => s

/-- The rest idle timer restarts from 0 while the deck is ACTIVE (R34). -/
def State.restartIdle (s : State) (d : DeckId) : State :=
  if (s.deck d).state = .active then s.setDeck d { s.deck d with restIdle := some 0 } else s

/-- A terminal presence ARRIVE passed to the engine: profile switch, idle timer, wake event (R17, R34, R37). -/
def State.deckArrive (s : State) (d : DeckId) : State :=
  match (s.deck d).record with
  | none => s
  | some r =>
    let t := if r.transitSpan = 0 then s
      else (s.setDeck d ((s.deck d).switched r (s.excited d))).replaceReading d
    (t.restartIdle d).wakeDeckEvent d

/-- An ident read passed to the engine: idle timer, wake event (R34, R37). -/
def State.deckRead (s : State) (d : DeckId) : State := (s.restartIdle d).wakeDeckEvent d

/-! ## Sample groups (R1–R4) -/

/-- What follows the weighing of an accepted group, by the deck state that accepted it (R20, R22, R25–R29, R37, R38). READING
is posted before the ANOMALY ZERO-LIMIT of the same group, DESIGN CHOICE (log entry 43); the group that ends WAKING leaves
the tracking count 0, DESIGN CHOICE (log entry 44). -/
def State.afterGroup (s : State) (d : DeckId) (r : DeckRecord) : State :=
  match (s.deck d).state with
  | .capturing => s.capturingGroup d r
  | .active => ((s.replaceReading d).streamGroup d).trackGroup d r
  | .waking =>
    let s := s.setDeck d { s.deck d with trackingCount := 0 }
    if (s.deck d).wakingDone then s.completeWaking d else s.replaceReading d
  | .warmRest =>
    let s := (s.replaceReading d).trackGroup d r
    if (s.deck d).occupancy = .occupied then s.wakeDeckEvent d else s
  | _ => s

/-- The engine handles a sample group it is handed (R1, R3, R4): by the deck state, the excitation test and the
sequence check it is discarded, or accepted. -/
def State.deckGroup (s : State) (d : DeckId) (g : SampleGroup) : State :=
  match (s.deck d).record with
  | none => s
  | some r =>
    if !(s.deck d).state.acceptsGroups || s.excited d then s
    else match sequenceCheck (s.deck d).last g.sequence with
      | none => s
      | some missing => (s.setDeck d ((s.deck d).accepted r g missing)).afterGroup d r

/-- The remaining transit span of a TRANSIT deck has reached 0 (R18). -/
def DeckEngine.spanEnded (e : DeckEngine) : Bool := e.profile == .transit && e.span == 0

/-- The end of the transit span outside a group's handling: NOMINAL, stable count 0, re-judgement, record replaced (R15, R18, R20). -/
def State.endSpan (s : State) (d : DeckId) : State :=
  match (s.deck d).record with
  | none => s
  | some r => (s.setDeck d ((s.deck d).returned r (s.excited d))).replaceReading d

/-! ## The digitizer's code and enrolment (R4, R33) -/

/-- The engine is handed the digitizer's taken code; `before` is the code taken before it (R4). EXCITATION-FAULT
clears the window and judges INVALID; any other code after it judges FILLING. -/
def State.deckCode (s : State) (d : DeckId) (before : Option Code) (c : Code) : State :=
  if digitizerFault c then s.clearDeckWindow d
  else if before.any digitizerFault then
    (s.setDeck d { s.deck d with judged := .filling, value := none }).replaceReading d
  else s

/-- The digitizer becomes ENROLLED: a WAITING deck enters CAPTURING (R33). -/
def State.digitizerEnrolled (s : State) (n : StationId) : State :=
  match s.deckOfDigitizer n with
  | none => s
  | some d => if (s.deck d).state = .waiting then s.enterDeckState d .capturing else s

/-- The digitizer leaves ENROLLED: the window is cleared and the deck enters WAITING, judged INVALID (R33). -/
def State.digitizerLost (s : State) (n : StationId) : State :=
  match s.deckOfDigitizer n with
  | none => s
  | some d =>
    if (s.deck d).state = .unconfigured ∨ (s.deck d).state = .waiting then s
    else
      (s.setDeck d { ((s.deck d).windowCleared (s.excited d)) with judged := .invalid }).enterDeckState d .waiting

/-! ## Rest (R34–R36) -/

/-- Some lane naming the deck has direction OUT or BOTH, and some visit is OPEN or TICKETED (R35). -/
def State.restChoice (s : State) (d : DeckId) : RestKind :=
  if (s.deckLanes d).any (fun l => (s.laneRecord l).any fun r => r.direction != .inward)
      && s.visits.any (fun v => v.state == .open_ || v.state == .ticketed) then .warm
  else .cold

/-- The conditions of a rest attempt hold (R35). -/
def State.mayRest (s : State) (d : DeckId) : Bool :=
  let e := s.deck d
  e.state == .active && !s.deckHeld d && e.occupancy == .empty && e.reading.state == .stable
    && (s.deckLanes d).all (fun l => (s.lane l).state == .idle || (s.lane l).state == .closed)

/-- The digitizer has the ability a rest needs (R35). -/
def State.restAbility (s : State) (d : DeckId) (k : RestKind) : Bool :=
  match (s.deck d).record with
  | none => false
  | some r =>
    match k with
    | .warm => (s.station r.digitizer).abilities.reducedRate
    | .cold => (s.station r.digitizer).abilities.off

/-- The deck state a rest enters. -/
def RestKind.deckState : RestKind → DeckState
  | .warm => .warmRest
  | .cold => .coldRest

/-- The rest an attempt enters, or none when the attempt fails (R35). -/
def State.restOutcome (s : State) (d : DeckId) : Option RestKind :=
  if s.mayRest d && s.restAbility d (s.restChoice d) then some (s.restChoice d) else none

/-- A rest attempt: the deck rests, or stays as it is with its rest idle timer restarted (R34, R35). -/
def State.attemptRest (s : State) (d : DeckId) : State :=
  match s.restOutcome d with
  | some k => s.enterDeckState d k.deckState
  | none => s.restartIdle d

/-- The rest idle timer of an ACTIVE deck has reached the rest idle time, which is not 0 (R34). -/
def DeckEngine.restDue (e : DeckEngine) : Bool :=
  e.state == .active && e.record.any fun r =>
    r.restIdleTime != 0 && e.restIdle.any fun f => r.restIdleTime * Config.second ≤ f

/-- REST-DECK (R36). -/
def restDeck (deck : Nat) (s : State) : State × Reply :=
  match deckOf deck with
  | none => refuse s .bad
  | some d =>
    match s.restOutcome d with
    | some k => accept (s.attemptRest d) (.rest k)
    | none => refuse (s.attemptRest d) .busy

/-- WAKE-DECK (R39). -/
def wakeDeck (deck : Nat) (s : State) : State × Reply :=
  match deckOf deck with
  | none => refuse s .bad
  | some d =>
    match (s.deck d).state with
    | .warmRest | .coldRest => accept (s.wakeDeckEvent d) .none
    | .fault => accept (s.enterDeckState d .capturing) .none
    | .capturing | .waking | .active => accept s .none
    | .unconfigured | .waiting => refuse s .busy

/-- ZERO-DECK (R30). -/
def zeroDeck (deck : Nat) (s : State) : State × Reply :=
  match deckOf deck with
  | none => refuse s .bad
  | some d =>
    let e := s.deck d
    match e.record, e.zeros with
    | some r, some z =>
      if e.state ≠ .active ∨ s.deckHeld d then refuse s .busy
      else if e.reading.state ≠ .stable then refuse s .motion
      else
        let average := e.average (activeWindow r e.profile)
        if !within (20 * r.capacity) average z.captured then refuse s .range
        else accept (s.setDeck d { e with zeros := some { z with tracked := average }, zeroLimit := false, trackingCount := 0 })
          (.newZero average)
    | _, _ => refuse s .busy

/-! ## Yard reset (R23, R41) -/

/-- A Deck Engine takes the yard reset (R23, R41). -/
def State.resetDeckYard (s : State) (d : DeckId) : State :=
  let e := (s.deck d).windowCleared (s.excited d)
  (s.setDeck d { e with streamCount := 0, captureCount := 0, trackingCount := 0,
                        restIdle := if e.state = .active then some 0 else none }).replaceReading d

end Sys2Proof.Machine
end

