-- ==== Sys2Proof/Machine/Visits.lean ====
section
/-! DEFINITION. Chapter 5, The Visit Table: the records in their order, reservation, freeing, anomalies, closing, print outcomes, and the office requests on visits. The commits stand in Machine/Tickets.lean, since they ask for stamps. -/

namespace Sys2Proof.Machine

/-! ## The table (R85) -/

/-- The record of a key. -/
def State.visit (s : State) (k : Nat) : Option Visit := s.visits.find? fun v => v.key == k

/-- The position of a record in the order, from 1 for the oldest (R85). -/
def State.visitPosition (s : State) (k : Nat) : Nat := (s.visits.map Visit.key).idxOf k + 1

/-- Change the record of a key; it keeps its place (R85). -/
def State.updateVisit (s : State) (k : Nat) (f : Visit → Visit) : State :=
  { s with visits := s.visits.map fun v => if v.key = k then f v else v }

/-- Remove the record of a key; the records after it move up (R85). -/
def State.removeVisit (s : State) (k : Nat) : State := { s with visits := s.visits.filter fun v => v.key != k }

/-- OPEN or TICKETED: the vehicle is in the yard. -/
def VisitState.out : VisitState → Bool
  | .open_ | .ticketed => true
  | .reserved | .closing | .closed => false

/-- RESERVED, OPEN or TICKETED. -/
def VisitState.standing : VisitState → Bool
  | .reserved | .open_ | .ticketed => true
  | .closing | .closed => false

/-- The ident's record in state OPEN or TICKETED (R97). -/
def State.outVisit (s : State) (t : Text) : Option Visit := s.visits.find? fun v => v.ident == t && v.state.out

/-- The ident has a record in state RESERVED, OPEN or TICKETED (R97). -/
def State.inYard (s : State) (t : Text) : Bool := s.visits.any fun v => v.ident == t && v.state.standing

/-- The table holds 64 records (R97). -/
def State.yardFull (s : State) : Bool := Config.visitCapacity ≤ s.visits.length

/-! ## Reservation (R86, R87) -/

/-- The answer to a reservation (R86). -/
inductive ReserveAnswer where
  | alreadyInYard | yardFull | reserved (key : Nat)
  deriving DecidableEq, Repr

/-- A new RESERVED record with the fields of the request (R84, R86). -/
def newVisit (key : Nat) (l : LaneId) (v : Vehicle) : Visit :=
  { key := key, ident := v.ident, account := v.account, category := v.category, tarePolicy := v.tarePolicy,
    storedTare := v.storedTare, entryLane := l, state := .reserved, gross := none, tare := none, net := none,
    exitWeight := none, tareCheck := none, exitLane := none, ticketNo := none, outcome := none, anomalies := [],
    closeTime := none }

/-- A lane asks to reserve a record for its vehicle: the answer of the first line of R86 that applies, and the table after it. -/
def State.reserveVisit (s : State) (l : LaneId) (v : Vehicle) : ReserveAnswer × State :=
  if s.inYard v.ident then (.alreadyInYard, s)
  else if s.yardFull then (.yardFull, s)
  else (.reserved s.nextVisitKey,
    { s with visits := s.visits ++ [newVisit s.nextVisitKey l v], nextVisitKey := s.nextVisitKey + 1 })

/-- A lane frees its reservation: the record leaves when it is still RESERVED and tied to that lane (R87). -/
def State.freeVisit (s : State) (l : LaneId) (k : Nat) : State :=
  match s.visit k with
  | none => s
  | some v => if v.state = .reserved ∧ v.entryLane = l then s.removeVisit k else s

/-! ## Closing, outcomes and anomalies (R94–R96) -/

/-- A visit enters CLOSED: close time written, VISIT-CLOSED posted (R95). -/
def State.closeVisit (s : State) (k : Nat) : State :=
  let s := s.updateVisit k fun v => { v with state := .closed, closeTime := s.now }
  match s.visit k with
  | none => s
  | some v => s.post (.visitClosed (s.visitPosition k) v)

/-- An outcome is written into a visit; a CLOSING visit closes on one other than PENDING (R94). -/
def State.writeOutcome (s : State) (k : Nat) (o : PrintOutcome) : State :=
  let s := s.updateVisit k fun v => { v with outcome := some o }
  match s.visit k with
  | none => s
  | some v => if v.state = .closing ∧ o ≠ .pending then s.closeVisit k else s

/-- A visit moves to CLOSING while its outcome is PENDING, and straight to CLOSED when it is known (R91, R92, R101). -/
def State.finishVisit (s : State) (k : Nat) : State :=
  match s.visit k with
  | none => s
  | some v =>
    if v.outcome = some .pending then s.updateVisit k fun v => { v with state := .closing } else s.closeVisit k

/-- Anomalies join a visit's set; one ANOMALY report is posted for each member newly added (R96). -/
def State.addAnomalies (s : State) (k : Nat) (xs : List Anomaly) (l : Option LaneId) : State :=
  match s.visit k with
  | none => s
  | some v =>
    let fresh := xs.filter fun a => !v.anomalies.contains a
    let s := s.updateVisit k fun v => { v with anomalies := v.anomalies ++ fresh }
    forEach fresh (fun a t => t.post (.visitAnomaly a v.ident v.ticketNo (s.visitPosition k) l)) s

/-! ## Net (R88) -/

/-- The kilograms of a tare. -/
def Tare.kg : Tare → Int
  | .stored kg => kg
  | .weighed w => w.kg

/-- The net once the gross and the tare are both present (R88). -/
def Visit.withNet (v : Visit) : Visit :=
  match v.gross, v.tare with
  | some g, some t => { v with net := some (g.kg - t.kg) }
  | _, _ => v

/-! ## Office requests (R98–R101) -/

/-- The oldest record bearing a ticket number. -/
def State.visitByTicket (s : State) (n : Nat) : Option Visit := s.visits.find? fun v => v.ticketNo == some n

/-- The newest record with an ident. -/
def State.newestVisit (s : State) (t : Text) : Option Visit := s.visits.reverse.find? fun v => v.ident == t

/-- READ-VISIT (R98). -/
def readVisit (sel : Selector) (s : State) : State × Reply :=
  if !sel.wellFormed then refuse s .bad
  else
    let found := match sel with
      | .position n => s.visits[n - 1]?
      | .ticket n => s.visitByTicket n
      | .ident t => s.newestVisit t
    match found with
    | none => refuse s .bad
    | some v => accept s (.visit v (s.visitPosition v.key) s.visits.length)

/-- NEXT-CLOSED (R99); a body with anything after the request number is refused (R183). -/
def nextClosed (s : State) : State × Reply :=
  if !s.headBodyBare then refuse s .bad
  else
    match s.visits.find? fun v => v.state == .closed with
    | none => accept s (.nextClosed none s.visits.length)
    | some v => accept s (.nextClosed (some (v, s.visitPosition v.key)) s.visits.length)

/-- The record a CLEAR-VISIT removes, or the reply that refuses it (R100). -/
def State.clearChoice (s : State) (sel : Selector) : Visit ⊕ ReplyCode :=
  match sel with
  | .position _ => .inr .bad
  | .ticket n =>
    match s.visitByTicket n with
    | none => .inr .bad
    | some v => if v.state = .closed then .inl v else .inr .busy
  | .ident t =>
    if s.visits.any (fun v => v.ident == t) then
      match s.visits.find? fun v => v.ident == t && v.state == .closed with
      | none => .inr .busy
      | some v => .inl v
    else .inr .bad

/-- CLEAR-VISIT (R100). -/
def clearVisit (sel : Selector) (s : State) : State × Reply :=
  if !sel.wellFormed then refuse s .bad
  else
    match s.clearChoice sel with
    | .inr c => refuse s c
    | .inl v => accept (s.removeVisit v.key) (.removedVisit v (s.removeVisit v.key).visits.length)

/-- The record a FORCE-CLOSE names (R101). -/
def State.forceChoice (s : State) (sel : Selector) : Option Visit :=
  match sel with
  | .position _ => none
  | .ticket n => s.visitByTicket n
  | .ident t =>
    match s.visits.find? fun v => v.ident == t && v.state.standing with
    | some v => some v
    | none => s.newestVisit t

/-- The effect of FORCE-CLOSE on an OPEN or TICKETED visit: FORCED is added, an OPEN visit gets NOT-PRINTED(NONE), and
the visit closes or goes CLOSING by its outcome (R101). -/
def State.forceVisit (s : State) (v : Visit) : State :=
  let s := s.addAnomalies v.key [.forced] none
  let s := if v.state = .open_ then s.updateVisit v.key fun v => { v with outcome := some (.notPrinted .none) } else s
  s.finishVisit v.key

/-- FORCE-CLOSE (R101). -/
def forceClose (sel : Selector) (s : State) : State × Reply :=
  if !sel.wellFormed then refuse s .bad
  else
    match s.forceChoice sel with
    | none => refuse s .bad
    | some v =>
      if v.state.out then
        match (s.forceVisit v).visit v.key with
        | none => refuse s .bad
        | some w => accept (s.forceVisit v) (.forcedVisit w)
      else refuse s .busy

/-! ## Yard reset (R102) -/

/-- The Visit Table takes the yard reset: RESERVED records leave, the rest keep their order (R102). -/
def State.resetVisitsYard (s : State) : State := { s with visits := s.visits.filter fun v => v.state != .reserved }

end Sys2Proof.Machine
end

