-- ==== Sys2Proof/Machine/Tickets.lean ====
section
/-! DEFINITION. Chapter 7, Ticket Stamping and Delivery: the counter, the stamp, the four ticket queues and the print outcomes; and the commits of chapter 5, which ask for stamps. -/

namespace Sys2Proof.Machine

/-! ## The counter (R123, R124) -/

/-- The number a stamp takes, and the counter after it (R123). -/
def TicketCounter.take : TicketCounter → Option (Nat × TicketCounter)
  | .valid n => some (n, if n < Config.ticketTop then .valid (n + 1) else .exhausted)
  | .notValid | .exhausted => none

/-- The ticket number check passes: the counter is VALID (R125). -/
def State.numberReady (s : State) : Bool := s.counter.take.isSome

/-- SET-TICKET-BASE (R124). -/
def setTicketBase (base : Nat) (s : State) : State × Reply :=
  if inRange 1 Config.ticketTop base then accept { s with counter := .valid base } (.ticketBase s.counter base)
  else refuse s .bad

/-! ## Stamping (R126, R127) -/

/-- The time stamp, if any, and the DEGRADED flag of a tare (R126). -/
def Tare.degraded : Tare → Bool
  | .stored _ => false
  | .weighed w => w.degraded

/-- The ticket job built from a visit record (R126). -/
def ticketJob (s : State) (number : Nat) (l : LaneId) (terminal : StationId) (v : Visit) (gross : Weight) (tare : Tare)
    (net : Int) : TicketJob :=
  { number := number, lane := l, terminal := terminal, ident := v.ident, account := v.account,
    categoryCode := v.category.bind fun c => (s.category c).code, gross := gross.kg, grossStamp := gross.stamp,
    tare := tare, net := net, anomalies := v.anomalies, degraded := gross.degraded || tare.degraded,
    issueTime := s.now, visit := v.key }

/-- The tare as a ticket shows it (R126). -/
def Tare.onTicket : Tare → TicketTare
  | .stored kg => .stored kg
  | .weighed w => .weighed w.kg w.stamp

/-- The fields of a job that its TICKET message carries, all but the terminal and the visit link (R129, R169). -/
def TicketJob.fields (j : TicketJob) : TicketFields :=
  { number := j.number, lane := j.lane, ident := j.ident, account := j.account, categoryCode := j.categoryCode,
    gross := j.gross, grossStamp := j.grossStamp, tare := j.tare.onTicket, net := j.net, anomalies := j.anomalies,
    degraded := j.degraded, issueTime := j.issueTime }

/-- The outcome a stamped job is placed with (R127). -/
def State.placement (s : State) (l : LaneId) (terminal : StationId) : PrintOutcome :=
  if !s.enrolled terminal then .notPrinted .terminalLost
  else if Config.ticketCapacity ≤ (s.queue l).jobs.length then .notPrinted .queueFull
  else .pending

/-- A job joins the tail of its lane's queue, in phase WAITING when it is the head (R127, R128). -/
def TicketQueue.joined (q : TicketQueue) (j : TicketJob) : TicketQueue :=
  { jobs := q.jobs ++ [j], phase := if q.jobs.isEmpty then .waiting else q.phase }

/-- A stamp for a visit, asked for with the stamping lane: number, job, placement, the visit's ticket number and
outcome, TICKET ISSUED (R126, R127). -/
def State.stampTicket (s : State) (k : Nat) (l : LaneId) : State :=
  match s.counter.take, s.visit k, s.laneRecord l with
  | some (n, counter), some v, some r =>
    match v.gross, v.tare, v.net with
    | some g, some t, some net =>
      let job := ticketJob s n l r.terminal v g t net
      let placed := s.placement l r.terminal
      let s := { s with counter := counter }
      let s := if placed = .pending then s.setQueue l ((s.queue l).joined job) else s
      let s := s.updateVisit k fun v => { v with ticketNo := some n, outcome := some placed }
      s.post (.ticketIssued n l r.terminal v.ident placed (s.queue l).jobs.length s.counter)
    | _, _, _ => s
  | _, _, _ => s

/-! ## Commits (R89–R93) -/

/-- What a capture hands the Visit Table (5.4). -/
structure Commit where
  lane : LaneId
  weight : Weight
  anomalies : List Anomaly
  deriving DecidableEq, Repr

/-- Post VISIT-OPENED for a record as it stands (R89, R90). -/
def State.postOpened (s : State) (k : Nat) : State :=
  match s.visit k with
  | none => s
  | some v => s.post (.visitOpened
      { ticketNo := v.ticketNo, position := s.visitPosition k, ident := v.ident, account := v.account,
        category := v.category, entryLane := v.entryLane, gross := v.gross, anomalies := v.anomalies, tare := v.tare,
        net := v.net, outcome := v.outcome })

/-- An inbound commit on the RESERVED record tied to the lane (R89, R90). Its ANOMALY reports are posted as the anomalies
join the record, before the stamp that R90 asks for after them, so with no ticket number: DESIGN CHOICE, R96 places them
only before VISIT-OPENED (log entry 50). -/
def State.commitInbound (s : State) (k : Nat) (c : Commit) (account : Nat) (category : Option CategoryNo) : State :=
  match s.visit k with
  | none => s
  | some v =>
    if v.tarePolicy = .weighEach then
      let s := s.updateVisit k fun v =>
        { v with account := account, category := category, gross := some c.weight, state := .open_ }
      (s.addAnomalies k c.anomalies (some c.lane)).postOpened k
    else
      let s := s.updateVisit k fun v =>
        { v with account := account, category := category, gross := some c.weight,
                 tare := v.storedTare.map Tare.stored }.withNet
      let s := (s.addAnomalies k c.anomalies (some c.lane)).stampTicket k v.entryLane
      (s.updateVisit k fun v => { v with state := .ticketed }).postOpened k

/-- An outbound commit against an OPEN visit (R91). Its ANOMALY reports are posted before the stamp, with no ticket number:
DESIGN CHOICE (log entry 50). -/
def State.commitOutboundOpen (s : State) (k : Nat) (c : Commit) : State :=
  let s := s.updateVisit k fun v =>
    { v with tare := some (.weighed c.weight), exitLane := some c.lane }.withNet
  ((s.addAnomalies k c.anomalies (some c.lane)).stampTicket k c.lane).finishVisit k

/-- An outbound commit against a TICKETED visit, with the tare check as the lane judged it; a PASS under STORED-AUTO
asks for the stored-tare update (R92, R93). -/
def State.commitOutboundTicketed (s : State) (k : Nat) (c : Commit) (pass : Bool) : State :=
  let s := s.updateVisit k fun v =>
    { v with exitWeight := some c.weight, exitLane := some c.lane, tareCheck := some pass }
  let s := (s.addAnomalies k c.anomalies (some c.lane)).finishVisit k
  match s.visit k with
  | none => s
  | some v =>
    if pass ∧ v.tarePolicy = .storedAuto then
      { s with tareUpdates := s.tareUpdates ++ [{ ident := v.ident, kg := c.weight.kg, stamp := c.weight.stamp }] }
    else s

/-! ## Leaving a queue (R130, R134–R137) -/

/-- The head job leaves its lane's queue with an outcome: removed, TICKET OUTCOME posted, the outcome written into
its visit, the next job head in phase WAITING (R130). -/
def State.jobLeaves (s : State) (l : LaneId) (o : PrintOutcome) : State :=
  match (s.queue l).jobs with
  | [] => s
  | j :: rest =>
    let s := s.setQueue l { jobs := rest, phase := .waiting }
    (s.post (.ticketOutcome j.number j.lane j.terminal o rest.length)).writeOutcome j.visit o

/-- The send channel returns to IDLE with no message in progress (R164, R165). -/
def SendChannel.idled (c : SendChannel) : SendChannel :=
  { c with phase := .idle, message := none, timer := 0, gap := 0, noneSeen := false }

/-- A ticket message of the lane in progress on a station's send channel is withdrawn: the channel returns to IDLE (R165). -/
def State.withdrawTicket (s : State) (n : StationId) (l : LaneId) : State :=
  s.updateStation n fun x =>
    if x.send.message.any fun p => p.msg.source == .ticket l then { x with send := x.send.idled } else x

/-- A queue is flushed head to tail with a reason; a TICKET message in progress is abandoned (R136, R137). -/
def State.flushQueue (s : State) (l : LaneId) (why : NotPrinted) : State :=
  let s := match (s.queue l).jobs with
    | [] => s
    | j :: _ => s.withdrawTicket j.terminal l
  forEach (s.queue l).jobs (fun _ t => t.jobLeaves l (.notPrinted why)) s

/-- A terminal leaves ENROLLED: its lane's queue is flushed (R136). -/
def State.terminalLost (s : State) (n : StationId) : State :=
  match s.laneOfTerminal n with
  | none => s
  | some l => s.flushQueue l .terminalLost

/-! ## Print outcomes (R131–R134) -/

/-- The head job that a PRINT-OUTCOME of a station is matched to: the station is a lane's terminal, the head job of
that lane's queue is in AWAIT-OUTCOME and bears the number (R131). -/
def State.matchedQueue (s : State) (n : StationId) (number : Nat) : Option LaneId :=
  match s.laneOfTerminal n with
  | none => none
  | some l =>
    match (s.queue l).jobs, (s.queue l).phase with
    | j :: _, .awaitOutcome _ => if j.number = number then some l else none
    | _, _ => none

/-- FAILED(PAPER-OUT) holds the head job; TICKET HELD is posted (R132). -/
def State.holdJob (s : State) (l : LaneId) : State :=
  match (s.queue l).jobs with
  | [] => s
  | j :: rest =>
    (s.setQueue l { s.queue l with phase := .held }).post (.ticketHeld j.number j.lane j.terminal (rest.length + 1))

/-- A PRINT-OUTCOME message (R131, R133). -/
def State.printReported (s : State) (n : StationId) (m : PrintMessage) : State :=
  match s.matchedQueue n m.number with
  | none => s.post (.notePrint n m)
  | some l =>
    match m.outcome with
    | .printed => s.jobLeaves l .printed
    | .jam => s.jobLeaves l (.notPrinted .jam)
    | .fault => s.jobLeaves l (.notPrinted .fault)
    | .paperOut => s.holdJob l

/-- The Ticket Stamper is handed a terminal's taken code: a READY or LOW code returns a HELD head job to WAITING (R132). -/
def State.ticketCode (s : State) (n : StationId) (c : Code) : State :=
  match s.laneOfTerminal n, terminalStatus c with
  | some l, .shows .ready _ | some l, .shows .low _ =>
    if (s.queue l).phase = .held then s.setQueue l { s.queue l with phase := .waiting } else s
  | _, _ => s

/-- The print-outcome wait of the head job has run 20 s (R134). -/
def TicketQueue.waitOver (q : TicketQueue) : Bool :=
  !q.jobs.isEmpty && match q.phase with
    | .awaitOutcome f => Config.outcomeWait ≤ f
    | _ => false

/-- The wait runs out: the job leaves with NO-OUTCOME (R134). -/
def State.endOutcomeWait (s : State) (l : LaneId) : State :=
  if (s.queue l).waitOver then s.jobLeaves l (.notPrinted .noOutcome) else s

/-- The Ticket Stamper takes the yard reset: every queue is flushed with RESET, the queues in lane order (R137, log entry 27). -/
def State.resetTicketsYard (s : State) : State := forEach allLanes (fun l t => t.flushQueue l .reset) s

end Sys2Proof.Machine
end

