-- ==== Sys2Proof/Machine/Barriers.lean ====
section
/-! DEFINITION. Chapter 6, Barriers and Interlocks: the barrier record, the interlock, motions and their timer, FAULT and MANUAL, lane requests, and office orders. What the lanes do when they are told stands in Machine/Lanes.lean. -/

namespace Sys2Proof.Machine

/-! ## The record (R103, R104) -/

/-- A new barrier record (R103). -/
def newBarrier (limit : Nat) : BarrierRecord :=
  { commanded := .none, position := .unknown, told := .unknown, loop := none, state := .unknown,
    faultPosition := none, pendingLower := false, mode := .direct, edge := .none, staged := none, limit := limit, timer := none,
    obstructions := 0, awaitingReturn := false }

/-- The state that follows from a commanded code and a taken position (R104). -/
def barrierState : BarrierCommand → Position → BarrierState
  | .none, .unknown => .unknown
  | .none, .down => .down
  | .none, .up => .up
  | .none, _ => .held
  | .raise, .up => .up
  | .raise, _ => .raising
  | .lower, .down => .down
  | .lower, _ => .lowering
  | .hold, _ => .held

/-- The barrier is in FAULT or MANUAL. -/
def BarrierRecord.outOfService (b : BarrierRecord) : Bool := b.state == .fault || b.state == .manual

/-- The state settled afresh outside FAULT and MANUAL (R104). -/
def BarrierRecord.settled (b : BarrierRecord) : BarrierRecord :=
  if b.outOfService then b else { b with state := barrierState b.commanded b.position }

/-! ## Sending and applying (R106, R107, R116) -/

/-- RAISE is sent: command, limit, and the motion timer afresh unless the arm is taken UP already (R106). -/
def BarrierRecord.sendRaise (b : BarrierRecord) (limit : Nat) : BarrierRecord :=
  BarrierRecord.settled { b with commanded := .raise, limit := limit, timer := if b.position = .up then none else some 0 }

/-- LOWER is sent: command, limit, and the motion timer afresh unless the arm is taken DOWN already (R106). -/
def BarrierRecord.sendLower (b : BarrierRecord) (limit : Nat) : BarrierRecord :=
  BarrierRecord.settled { b with commanded := .lower, limit := limit, timer := if b.position = .down then none else some 0 }

/-- RAISE is applied: a motion under way is kept, with its timer afresh while RAISING; pending-lower is cleared (R106). -/
def BarrierRecord.applyRaise (b : BarrierRecord) (limit : Nat) : BarrierRecord :=
  let b := { b with pendingLower := false }
  if b.commanded = .raise then (if b.state = .up then b else { b with timer := some 0 })
  else b.sendRaise limit

/-- LOWER is applied: held back as pending-lower on an OCCUPIED loop, else sent, or kept when it is under way (R106, R107). -/
def BarrierRecord.applyLower (b : BarrierRecord) (limit : Nat) : BarrierRecord :=
  if b.loop = some .occupied then { b with pendingLower := true }
  else
    let b := { b with pendingLower := false }
    if b.commanded = .lower then (if b.state = .down then b else { b with timer := some 0 })
    else b.sendLower limit

/-- HOLD is applied; in FAULT and MANUAL nothing changes (R116). -/
def BarrierRecord.applyHold (b : BarrierRecord) : BarrierRecord :=
  if b.outOfService then b
  else BarrierRecord.settled { b with commanded := .hold, pendingLower := false, timer := none }

/-! ## A taken position code (R105, R107–R109, R111, R112) -/

/-- The arm-loop edge a taken loop brings; none when the loop had no value before (R105). -/
def loopEdge (before : Option ArmLoop) (now : ArmLoop) : Option Edge :=
  match before, now with
  | some .clear, .occupied => some .arrive
  | some .occupied, .clear => some .depart
  | _, _ => none

/-- The interlock reverses the barrier: the loop is taken OCCUPIED under LOWER (R108). -/
def BarrierRecord.obstructedBy (b : BarrierRecord) (loop : ArmLoop) : Bool := loop == .occupied && b.commanded == .lower

/-- The interlock applied to a new arm loop (R107, R108). -/
def BarrierRecord.interlocked (b : BarrierRecord) (loop : ArmLoop) : BarrierRecord :=
  if b.obstructedBy loop then
    { (b.sendRaise b.limit) with pendingLower := true, obstructions := countUp Config.counterTop b.obstructions }
  else if loop = .clear ∧ b.pendingLower then { (b.sendLower b.limit) with pendingLower := false }
  else b

/-- The motion timer after a taken position: afresh when the arm leaves the end it was commanded to, stopped when it
reaches that end (R109). -/
def BarrierRecord.timed (b : BarrierRecord) (before : Position) : BarrierRecord :=
  if (b.commanded = .raise ∧ b.position = .up) ∨ (b.commanded = .lower ∧ b.position = .down) then { b with timer := none }
  else if (b.commanded = .raise ∧ before = .up) ∨ (b.commanded = .lower ∧ before = .down) then { b with timer := some 0 }
  else b

/-- A position code returns the barrier to service: out of FAULT or MANUAL by R111, or the first code after a loss (R112). -/
def BarrierRecord.returns (b : BarrierRecord) (p : Position) : Bool :=
  b.awaitingReturn || (b.outOfService && b.faultPosition != some p)

/-- The record back in service: NONE, no fault position, state settled (R111). -/
def BarrierRecord.returned (b : BarrierRecord) : BarrierRecord :=
  { b with commanded := .none, faultPosition := none, awaitingReturn := false, timer := none,
           state := barrierState .none b.position }

/-- The record after a taken position code (R105, steps 1–5). -/
def BarrierRecord.takes (b : BarrierRecord) (p : Position) (loop : ArmLoop) : BarrierRecord :=
  let t := ({ b with position := p, loop := some loop }.interlocked loop).timed b.position
  if b.returns p then t.returned else t.settled

/-- The record on a FAULT or MANUAL code (R110). -/
def BarrierRecord.stops (b : BarrierRecord) (st : BarrierState) : BarrierRecord :=
  { b with state := st, commanded := .hold, pendingLower := false, timer := none, faultPosition := none,
           awaitingReturn := false }

/-- The record when its station leaves ENROLLED (R112). The lanes learn of the loss from the station table, so the
position last told them is UNKNOWN as well (log entry 10). -/
def BarrierRecord.lost (b : BarrierRecord) : BarrierRecord :=
  { b with commanded := .none, pendingLower := false, timer := none, position := .unknown, told := .unknown, loop := none,
           state := .unknown, faultPosition := none, awaitingReturn := true }

/-- The motion timer has reached the motion limit in force (R109). -/
def BarrierRecord.motionDue (b : BarrierRecord) : Bool := b.timer.any fun f => b.limit * Config.second ≤ f

/-- The record in FAULT by its motion timer (R109). -/
def BarrierRecord.timedOut (b : BarrierRecord) : BarrierRecord :=
  { b with state := .fault, commanded := .hold, pendingLower := false, timer := none,
           faultPosition := some b.position }

/-! ## Over the state -/

/-- Write a barrier record and place its commanded code in the slot (R103). -/
def State.putBarrier (s : State) (n : StationId) (b : BarrierRecord) : State :=
  (s.setBarrier n (some b)).setCommand n b.commanded.code

/-- The smallest barrier motion limit among the lanes naming the barrier (R54). -/
def State.smallestLimit (s : State) (n : StationId) : Nat :=
  match (s.lanesWhere fun r => r.namesBarrier n).filterMap s.laneRecord with
  | [] => 15
  | r :: t => t.foldl (fun m q => min m q.motionLimit) r.motionLimit

/-- Every lane naming the barrier is in a quiet state (R115). -/
def State.lanesQuiet (s : State) (n : StationId) : Bool :=
  (s.lanesWhere fun r => r.namesBarrier n).all fun l => (s.lane l).state.quiet

/-- A barrier is taken as DOWN: the position the lanes naming it were last told is DOWN (R105). -/
def State.barrierDown (s : State) (n : StationId) : Bool := (s.barrier n).any fun b => b.told == .down

/-- A barrier is in FAULT or MANUAL (R81). -/
def State.barrierStopped (s : State) (n : StationId) : Bool := (s.barrier n).any BarrierRecord.outOfService

/-! ## Lane requests (R113) -/

/-- A motion a lane asks of a barrier. -/
inductive Motion where
  | raise | lower
  deriving DecidableEq, Repr

/-- The station a barrier role names in a lane record. -/
def LaneRecord.barrierAt (r : LaneRecord) : BarrierRole → StationId
  | .entry => r.entryBarrier
  | .exit => r.exitBarrier

/-- The Barrier Controller takes a lane's request: the lane holds the deck, or it asks a recovery LOWER while no lane does (R113). -/
def State.takesRequest (s : State) (l : LaneId) (d : DeckId) (m : Motion) : Bool :=
  s.holds l d || ((s.lane l).state == .recover && m == .lower && !s.deckHeld d)

/-- A motion applied to a barrier in service; in FAULT and MANUAL the command stays HOLD (R113). -/
def BarrierRecord.applyMotion (b : BarrierRecord) (m : Motion) (limit : Nat) : BarrierRecord :=
  if b.outOfService then b
  else match m with
    | .raise => b.applyRaise limit
    | .lower => b.applyLower limit

/-- A lane asks a motion of one of its barriers; a request that is not taken has no effect (R113). -/
def State.askBarrier (s : State) (l : LaneId) (role : BarrierRole) (m : Motion) : State :=
  match s.laneRecord l with
  | none => s
  | some r =>
    match s.barrier (r.barrierAt role) with
    | none => s
    | some b =>
      if s.takesRequest l r.deck m then s.putBarrier (r.barrierAt role) (b.applyMotion m r.motionLimit) else s

/-! ## Office orders (R115–R120) -/

/-- An office order applied, with its ORDER-APPLIED report; a HOLD in FAULT or MANUAL changes nothing and posts nothing (R116). -/
def State.applyOrder (s : State) (n : StationId) (b : BarrierRecord) (o : BarrierOrder) : State :=
  let limit := s.smallestLimit n
  match o with
  | .raise => (s.putBarrier n (b.applyRaise limit)).postBarrier n (.orderApplied o)
  | .lower => (s.putBarrier n (b.applyLower limit)).postBarrier n (.orderApplied o)
  | .hold => if b.outOfService then s else (s.putBarrier n b.applyHold).postBarrier n (.orderApplied o)

/-- How an order to a barrier with a record is dealt with (R115). -/
inductive OrderOutcome where
  | applied | staged | busy
  deriving DecidableEq, Repr

/-- The outcome of an order by the first line of R115 that applies. -/
def State.orderOutcome (s : State) (n : StationId) (b : BarrierRecord) (o : BarrierOrder) : OrderOutcome :=
  if b.outOfService then (if o = .hold then .applied else .busy)
  else if !s.lanesQuiet n then (if o = .hold then .applied else .busy)
  else if b.mode = .direct then .applied
  else .staged

/-- The effect of an order by its outcome (R115). -/
def State.dealOrder (s : State) (n : StationId) (b : BarrierRecord) (o : BarrierOrder) : State :=
  match s.orderOutcome n b o with
  | .applied => s.applyOrder n b o
  | .staged => s.setBarrier n (some { b with staged := some o })
  | .busy => s

/-- The barrier record a request names by its station number. -/
def State.namedBarrier (s : State) (station : Nat) : Option (StationId × BarrierRecord) :=
  match stationOf station with
  | none => none
  | some n => (s.barrier n).map fun b => (n, b)

/-- BARRIER-ORDER (R115). -/
def barrierOrder (v : OrderLoad) (s : State) : State × Reply :=
  match s.namedBarrier v.station with
  | none => refuse s .bad
  | some (n, b) =>
    match s.orderOutcome n b v.order with
    | .busy => refuse s .busy
    | .applied => accept (s.dealOrder n b v.order) .applied
    | .staged => accept (s.dealOrder n b v.order) .staged

/-- A staged order that falls due may be applied (R117). -/
def State.dueOrderApplies (s : State) (n : StationId) (b : BarrierRecord) (o : BarrierOrder) : Bool :=
  s.lanesQuiet n && (o == .hold || !b.outOfService)

/-- A staged order falls due: it leaves the record, and is applied or discarded (R117, R118). -/
def State.orderDue (s : State) (n : StationId) (b : BarrierRecord) (o : BarrierOrder) : State :=
  let cleared := { b with staged := none }
  let s := s.setBarrier n (some cleared)
  if s.dueOrderApplies n b o then s.applyOrder n cleared o else s.postBarrier n (.stagedDiscarded o)

/-- RELEASE-STAGED (R117). -/
def releaseStaged (station : Nat) (s : State) : State × Reply :=
  match s.namedBarrier station with
  | none => refuse s .bad
  | some (n, b) =>
    match b.staged with
    | none => refuse s .bad
    | some o =>
      if b.mode ≠ .stagedMsg then refuse s .bad
      else if s.dueOrderApplies n b o then accept (s.orderDue n b o) .none
      else refuse (s.orderDue n b o) .busy

/-- The edge select matches an edge (R118). -/
def EdgeSelect.selects : EdgeSelect → Edge → Bool
  | .arrive, .arrive | .depart, .depart | .both, _ => true
  | _, _ => false

/-- An edge of a STAGED-LOOP barrier brings its staged order due when the edge select matches it (R118). -/
def State.edgeDue (s : State) (n : StationId) (edge : Edge) : State :=
  match s.barrier n with
  | none => s
  | some b =>
    match b.staged with
    | none => s
    | some o => if b.mode = .stagedLoop ∧ b.edge.selects edge then s.orderDue n b o else s

/-- SET-BARRIER-MODE (R119). -/
def setBarrierMode (v : ModeLoad) (s : State) : State × Reply :=
  match s.namedBarrier v.station with
  | none => refuse s .bad
  | some (n, b) =>
    let staged := if v.mode = .direct then none else b.staged
    let edge := v.edge.getD b.edge
    let t := s.setBarrier n (some { b with mode := v.mode, edge := edge, staged := staged })
    let t := match v.mode, b.staged with
      | .direct, some o => t.postBarrier n (.stagedDiscarded o)
      | _, _ => t
    accept t (.barrierMode v.mode edge staged)

/-- The outcome of one station of a GROUP-ORDER (R120). -/
def State.groupOutcome (s : State) (n : StationId) (o : BarrierOrder) : GroupOutcome :=
  match s.barrier n with
  | none => .notABarrier
  | some b =>
    if b.outOfService then .skipped
    else match s.orderOutcome n b o with
      | .applied => .applied
      | .staged => .staged
      | .busy => .refused

/-- One station of a GROUP-ORDER is dealt with as though it had its own BARRIER-ORDER (R120). -/
def State.groupStep (s : State) (n : StationId) (o : BarrierOrder) : State :=
  match s.barrier n with
  | none => s
  | some b => if b.outOfService then s else s.dealOrder n b o

/-- The stations of a GROUP-ORDER in slot order. The order in which the barriers of a set are dealt with, and so that of
their ORDER-APPLIED reports, is DESIGN CHOICE (log entry 53): R120 gives none. -/
def groupMembers (v : GroupLoad) : List StationId := allStations.filter fun n => v.stations.contains (n.val + 1)

/-- GROUP-ORDER (R120). -/
def groupOrder (v : GroupLoad) (s : State) : State × Reply :=
  if v.stations.isEmpty || !v.stations.all (inRange 1 24) then refuse s .bad
  else
    accept (forEach (groupMembers v) (fun n t => t.groupStep n v.order) s)
      (.group ((groupMembers v).map fun n => (n, s.groupOutcome n v.order)))

/-! ## Yard reset (R122) -/

/-- The Barrier Controller takes the yard reset: every staged order is discarded without a report (R122). -/
def State.resetBarriersYard (s : State) : State :=
  { s with barriers := s.barriers.map fun x => x.map fun b => { b with staged := none } }

end Sys2Proof.Machine
end

