-- ==== Sys2Proof/Machine/Lanes.lean ====
section
/-! DEFINITION. Chapter 4, Lane Sequence and Deck Hold: the lane states, the arbiter, admission, entry, weighing, the capture steps, release, recovery and fault; and what the lanes do when a deck, a barrier or a station tells them of a change. -/

namespace Sys2Proof.Machine

/-! ## What a lane state fixes (R60) -/

/-- The terminal display code of a lane state. -/
def LaneState.display : LaneState → Command
  | .closed => .showOff
  | .recover => .showStop
  | .idle => .showIdle
  | .identify => .showWait
  | .referred => .showRefer
  | .refused => .showStop
  | .awaitDeck => .showWait
  | .entering => .showDriveOn
  | .weighing => .showWait
  | .releasing => .showGo
  | .leaving => .showGo
  | .fault => .showStop

/-- The reader code of a lane state. -/
def LaneState.readerCode : LaneState → Command
  | .identify => .arm
  | .closed | .recover | .idle | .referred | .refused | .awaitDeck | .entering | .weighing | .releasing | .leaving
  | .fault => .disarm

/-- The lane timer a state starts on entry; the referral timer's limit is the lane record's as it stands, for a
reason raised before entry (R60, R68). -/
def laneTimerOf (st : LaneState) (r : LaneRecord) (reason : Option ReferralReason) : Option LaneTimer :=
  let start (k : LaneTimerKind) (seconds : Nat) : Option LaneTimer :=
    some { kind := k, elapsed := 0, limit := seconds * Config.second }
  match st with
  | .identify => start .identWait Config.identWait
  | .referred => if reason.any ReferralReason.beforeEntry then start .referral r.referralTimeout else none
  | .entering => start .entry Config.entryTime
  | .weighing => start .weigh Config.weighTime
  | .closed | .recover | .idle | .refused | .awaitDeck | .releasing | .leaving | .fault => none

/-- The states on whose entry a held reservation is freed (R59). -/
def LaneState.frees : LaneState → Bool
  | .idle | .refused | .recover | .closed => true
  | .identify | .referred | .awaitDeck | .entering | .weighing | .releasing | .leaving | .fault => false

/-- The states on whose entry the vehicle fields are cleared (R59). -/
def LaneState.clears : LaneState → Bool
  | .idle | .recover | .closed => true
  | .identify | .referred | .refused | .awaitDeck | .entering | .weighing | .releasing | .leaving | .fault => false

/-- The vehicle, passage, target visit, no-visit, pending category and captured weight fields cleared (R59). -/
def LaneContext.cleared (c : LaneContext) : LaneContext :=
  { c with vehicle := none, passage := none, target := none, noVisit := false, pendingCategory := none,
           captured := none, negativeReleased := false }

/-- The lane context as it enters a state, its reservation apart: timer, referral reason, the fields the state
clears (R59, R60, R64, R74, R78, R82). -/
def LaneContext.enters (c : LaneContext) (st : LaneState) (r : LaneRecord) (reason : Option ReferralReason) :
    LaneContext :=
  let c := if st.clears then c.cleared else c
  { c with
    state := st
    reason := if st = .referred then reason else none
    timer := laneTimerOf st r reason
    pendingCategory := if st = .identify then none else c.pendingCategory
    departSeen := if st = .entering ∨ st = .releasing then false else c.departSeen
    closing := if st = .entering then false else c.closing
    lastRead := if st = .closed then none else c.lastRead
    causes := if st = .closed ∨ st = .recover then [] else c.causes }

/-- Set the terminal and reader codes of a lane for its state; a lane that names no reader sets none (R60). -/
def State.setLaneCodes (s : State) (l : LaneId) (r : LaneRecord) : State :=
  let s := s.setCommand r.terminal (s.lane l).state.display
  match r.reader with
  | none => s
  | some n => s.setCommand n (s.lane l).state.readerCode

/-- A waiting claim of the lane leaves the list and its claim field (R72). -/
def State.withdrawClaim (s : State) (l : LaneId) (d : DeckId) : State :=
  if (s.lane l).claim = .waiting then
    (s.setArbiter d { s.arbiter d with claims := (s.arbiter d).claims.filter (· != l) }).updateLane l
      fun c => { c with claim := .none }
  else s

/-- The reservation the lane holds is freed and its field becomes absent (R59, R87). -/
def State.freeReservation (s : State) (l : LaneId) : State :=
  match (s.lane l).reservation with
  | none => s
  | some k => (s.freeVisit l k).updateLane l fun c => { c with reservation := none }

/-- The referral reason a LANE report reason names. -/
def LaneReason.referral? : LaneReason → Option ReferralReason
  | .referral r => some r
  | .cause _ | .event _ => none

/-- A change of lane state, with everything entry brings to the lane itself: a waiting claim is withdrawn, the
reservation freed where the state frees it, the context and the codes set, the LANE report posted (R59, R60, R72).
The ident is in the report when the vehicle field is present after the change. -/
def State.enterLane (s : State) (l : LaneId) (st : LaneState) (why : LaneReason) (read : Option IdentRead := none) :
    State :=
  match s.laneRecord l with
  | none => s
  | some r =>
    let s := s.withdrawClaim l r.deck
    let s := if st.frees then s.freeReservation l else s
    let s := s.updateLane l fun c => c.enters st r why.referral?
    let s := s.setLaneCodes l r
    s.post (.lane l st why ((s.lane l).vehicle.map Vehicle.ident) read)

/-- The lane enters IDLE, and goes straight on to IDENTIFY when its presence is PRESENT (R64). The LANE report of that
IDENTIFY gives the presence ARRIVE as its reason: DESIGN CHOICE, no edge came and R60 names no reason (log entry 48). -/
def State.enterIdle (s : State) (l : LaneId) (why : LaneReason) : State :=
  let s := s.enterLane l .idle why
  if (s.lane l).present then s.enterLane l .identify (.event .presenceArrive) else s

/-- The lane enters REFERRED with a reason (R68). A lane already REFERRED that is referred again, by an ADMIT, a category key or a
resumed capture (R69, R70, R79), enters it anew with a LANE report: DESIGN CHOICE, R60 asks for a report on each change of lane
state, which leaves open whether a new reason is one (log entry 65). -/
def State.refer (s : State) (l : LaneId) (why : ReferralReason) (read : Option IdentRead := none) : State :=
  s.enterLane l .referred (.referral why) read

/-! ## The arbiter (R72) -/

/-- The claim the arbiter would grant: the oldest, when the deck is ACTIVE and has no holder. -/
def State.grantable (s : State) (d : DeckId) : Option LaneId :=
  if (s.deck d).state = .active ∧ (s.arbiter d).holder = none then (s.arbiter d).claims.head? else none

/-- The grant test of a deck: the oldest claim is granted, its lane enters ENTERING and asks its entry barrier to
RAISE (R72–R74). -/
def State.grantDeck (s : State) (d : DeckId) : State :=
  match s.grantable d with
  | none => s
  | some l =>
    let s := s.setArbiter d { holder := some l, claims := (s.arbiter d).claims.tail }
    let s := s.updateLane l fun c => { c with claim := .held }
    (s.enterLane l .entering (.event .granted)).askBarrier l .entry .raise

/-- The lane's hold on its deck is given up; nothing else is told yet (R72). -/
def State.clearHold (s : State) (l : LaneId) (d : DeckId) : State :=
  if s.holds l d then
    (s.setArbiter d { s.arbiter d with holder := none }).updateLane l fun c => { c with claim := .none }
  else s

/-! ## Recovery (R63) -/

/-- Some lane other than this one holds the deck. -/
def State.heldByOther (s : State) (l : LaneId) (d : DeckId) : Bool :=
  (s.arbiter d).holder.any fun h => h != l

/-- Every station the lane record names is ENROLLED (R63, R81). -/
def State.stationsEnrolled (s : State) (r : LaneRecord) : Bool :=
  s.enrolled r.entryBarrier && s.enrolled r.exitBarrier && s.enrolled r.terminal && r.reader.all s.enrolled

/-- Neither of the lane's barriers is in FAULT or MANUAL (R63, R81, R122). -/
def State.barriersServe (s : State) (r : LaneRecord) : Bool :=
  !s.barrierStopped r.entryBarrier && !s.barrierStopped r.exitBarrier

/-- Both the lane's barriers are taken as DOWN. -/
def State.bothDown (s : State) (r : LaneRecord) : Bool := s.barrierDown r.entryBarrier && s.barrierDown r.exitBarrier

/-- The lane is in RECOVER and the conditions to leave it hold; a barrier in FAULT or MANUAL keeps it there, whatever its
taken position (R63, R122). -/
def State.recovered (s : State) (l : LaneId) (r : LaneRecord) : Bool :=
  (s.lane l).state == .recover && s.stationsEnrolled r && s.barriersServe r && s.bothDown r && !s.heldByOther l r.deck
    && (!s.holds l r.deck || (s.deck r.deck).occupancy == .empty)

/-- The recovery LOWERs of a lane in RECOVER, asked of both its barriers unless the partner holds the deck (R63). -/
def State.askRecovery (s : State) (l : LaneId) : State :=
  match s.laneRecord l with
  | none => s
  | some r =>
    if (s.lane l).state = .recover ∧ ¬ s.heldByOther l r.deck then
      (s.askBarrier l .entry .lower).askBarrier l .exit .lower
    else s

/-- A lane in RECOVER that holds no hold goes IDLE when its conditions hold. -/
def State.recoverFree (s : State) (l : LaneId) : State :=
  match s.laneRecord l with
  | none => s
  | some r => if s.recovered l r ∧ ¬ s.holds l r.deck then s.enterIdle l (.event .recovered) else s

/-- What follows the release of a hold: lanes of the deck still in RECOVER ask their recovery LOWERs and test their
conditions, then the arbiter tests for a grant (R63, R72). The lanes act in lane order: DESIGN CHOICE (log entry 56). -/
def State.afterRelease (s : State) (d : DeckId) : State :=
  (forEach (s.deckLanes d) (fun l t => (t.askRecovery l).recoverFree l) s).grantDeck d

/-- The recovery test of a lane: it leaves RECOVER for IDLE, releasing the hold it may have (R63). -/
def State.testRecover (s : State) (l : LaneId) : State :=
  match s.laneRecord l with
  | none => s
  | some r =>
    if s.recovered l r then
      if s.holds l r.deck then ((s.clearHold l r.deck).enterIdle l (.event .recovered)).afterRelease r.deck
      else s.enterIdle l (.event .recovered)
    else s

/-- Entry into RECOVER: the state, the recovery LOWERs, the test (R63). -/
def State.enterRecover (s : State) (l : LaneId) (why : LaneReason) : State :=
  ((s.enterLane l .recover why).askRecovery l).testRecover l

/-! ## The deck's division and threshold -/

/-- The reading of the lane's deck is STABLE at or above the capture threshold, with the deck ACTIVE and held and
both barriers taken as DOWN, in WEIGHING (R75). -/
def State.captureReady (s : State) (l : LaneId) (r : LaneRecord) : Bool :=
  let e := s.deck r.deck
  (s.lane l).state == .weighing && e.state == .active && s.holds l r.deck && s.bothDown r
    && e.reading.state == .stable
    && e.record.any fun k => e.reading.value.any fun w => decide (((1000 * k.occupancyThreshold * k.division : Nat) : Int) ≤ w)

/-- The division of the lane's deck in kilograms, as its record stands (R49, R77). -/
def State.division (s : State) (d : DeckId) : Nat := ((s.deck d).record.map DeckRecord.division).getD 0

/-- A category is permitted for a vehicle: a member of its permitted set, and enabled now (R48). -/
def State.permits (s : State) (v : Vehicle) (c : CategoryNo) : Bool := v.permitted.contains c && (s.category c).enabled

/-! ## Capture steps (R76, R77) -/

/-- A step of a capture. The commit carries the tare check as it was judged. -/
inductive CaptureStep where
  | netCheck | inspect | numberCheck | tareCheck | commit (pass : Bool)
  deriving DecidableEq, Repr

/-- The outbound target when it is still OPEN or TICKETED (R77, R97). -/
def State.liveTarget (s : State) (l : LaneId) : Option Visit :=
  ((s.lane l).target.bind s.visit).filter fun v => v.state.out

/-- The steps of a fresh capture, by the passage, the tare policy and the target as it stands. -/
def State.captureSteps (s : State) (l : LaneId) : List CaptureStep :=
  let c := s.lane l
  match c.passage with
  | some .inbound =>
    if c.vehicle.any fun v => v.tarePolicy == .weighEach then [.inspect, .commit true]
    else [.netCheck, .inspect, .numberCheck, .commit true]
  | some .outbound =>
    match s.liveTarget l with
    | some v => if v.state = .open_ then [.netCheck, .numberCheck, .commit true] else [.tareCheck, .commit true]
    | none => [.commit true]
  | none => [.commit true]

/-- The steps left after a step that referred, for a capture of the same kind. -/
def stepsAfter (x : CaptureStep) : List CaptureStep → List CaptureStep
  | [] => [.commit true]
  | y :: t => if x = y then t else stepsAfter x t

/-- The referral a check makes, or none when it passes (R76, R77). -/
def State.checkFails (s : State) (l : LaneId) (r : LaneRecord) (w : Weight) : CaptureStep → Option ReferralReason
  | .netCheck =>
    let c := s.lane l
    match c.passage with
    | some .inbound => if c.vehicle.any (fun v => v.storedTare.any fun t => decide (w.kg < t)) then some .negativeNet else none
    | _ => if (s.liveTarget l).any (fun v => v.gross.any fun g => decide (g.kg - w.kg < 0)) then some .negativeNet else none
  | .inspect =>
    if (s.lane l).vehicle.any (fun v => v.category.any fun k => (s.category k).inspect) then some .inspect else none
  | .numberCheck => if s.numberReady then none else some .noTicketNumber
  | .tareCheck =>
    if (s.liveTarget l).any (fun v => v.storedTare.any fun t =>
        decide ((w.kg - t).natAbs ≤ r.tareTolerance * s.division r.deck)) then none
    else some .tareMismatch
  | .commit _ => none

/-- The anomalies a capture has earned, in the order of the table of R96. That the ANOMALY reports of one commit stand in this
order is DESIGN CHOICE: R96 and R185 do not order them (log entry 57). -/
def earnedAnomalies (c : LaneContext) (w : Weight) (pass : Bool) : List Anomaly :=
  (if c.passage = some .inbound ∧ c.vehicle.any (fun v => v.maxGross.any fun m => decide (m < w.kg)) then [.overload] else [])
    ++ (if c.negativeReleased then [.negativeNet] else [])
    ++ (if pass then [] else [.tareCheckFail])
    ++ (if w.degraded then [.degraded] else [])

/-- The lane enters RELEASING and asks its exit barrier to RAISE (R78). -/
def State.enterReleasing (s : State) (l : LaneId) (why : LaneReason) : State :=
  (s.enterLane l .releasing why).askBarrier l .exit .raise

/-- The inbound commit on the RESERVED record tied to the lane; when YARD-RESET has removed it, VISIT-GONE (R76, R102). -/
def State.commitIn (s : State) (l : LaneId) (w : Weight) (pass : Bool) : State :=
  let c := s.lane l
  let t := s.updateLane l fun c => { c with reservation := none }
  match c.vehicle, (c.reservation.bind s.visit).filter fun v => v.state == .reserved && v.entryLane == l with
  | some v, some x =>
    t.commitInbound x.key { lane := l, weight := w, anomalies := earnedAnomalies c w pass } v.account v.category
  | _, _ => t.post (.visitGone l (c.vehicle.map Vehicle.ident))

/-- The outbound commit against the target visit (R77, R91, R92). -/
def State.commitOut (s : State) (l : LaneId) (w : Weight) (pass : Bool) (v : Visit) : State :=
  let commit : Commit := { lane := l, weight := w, anomalies := earnedAnomalies (s.lane l) w pass }
  if v.state = .open_ then s.commitOutboundOpen v.key commit else s.commitOutboundTicketed v.key commit pass

/-- The target visit is no longer OPEN or TICKETED: VISIT-GONE, and the passage goes on as one with no visit (R77). -/
def State.targetGone (s : State) (l : LaneId) : State :=
  (s.updateLane l fun c => { c with target := none, noVisit := true }).post
    (.visitGone l ((s.lane l).vehicle.map Vehicle.ident))

/-- A capture step of an outbound passage with a target finds it gone. -/
def State.findsGone (s : State) (l : LaneId) : Bool :=
  (s.lane l).passage == some .outbound && (s.lane l).target.isSome && (s.liveTarget l).isNone

/-- The commit of a capture (R76, R77). -/
def State.commitCapture (s : State) (l : LaneId) (w : Weight) (pass : Bool) : State :=
  match (s.lane l).passage with
  | some .inbound => s.commitIn l w pass
  | some .outbound =>
    match s.liveTarget l with
    | some v => s.commitOut l w pass v
    | none => s
  | none => s

/-- Work through capture steps in order: a check may refer; the commit is followed by RELEASING; a target found gone
ends the steps with the commit of a passage without a visit (R76, R77). -/
def runSteps (l : LaneId) (r : LaneRecord) (w : Weight) (why : LaneReason) : List CaptureStep → State → State
  | [], s => s.enterReleasing l why
  | .commit pass :: _, s =>
    if s.findsGone l then (s.targetGone l).enterReleasing l why
    else (s.commitCapture l w pass).enterReleasing l why
  | x :: rest, s =>
    if s.findsGone l then (s.targetGone l).enterReleasing l why
    else match s.checkFails l r w x with
      | some reason => s.refer l reason
      | none => runSteps l r w why rest s

/-- The captured weight a reading record gives (R76). -/
def capturedWeight (x : ReadingRecord) (value : Int) : Weight :=
  { kg := value / 1000, deck := x.deck, sample := x.sample, stamp := x.stamp, degraded := x.degraded }

/-- A capture: the reading is frozen, the timer stops, CAPTURE is posted, and the steps are worked through (R75, R76). -/
def State.capture (s : State) (l : LaneId) (r : LaneRecord) (value : Int) : State :=
  let w := capturedWeight (s.deck r.deck).reading value
  let s := s.updateLane l fun c => { c with captured := some w, negativeReleased := false, timer := none }
  let s := s.post (.capture l ((s.lane l).vehicle.map Vehicle.ident) (s.lane l).passage w)
  runSteps l r w (.event .captured) (s.captureSteps l) s

/-! ## Entry, weighing and release (R74, R75, R78) -/

/-- The capture test of a lane (R75). -/
def State.tryCapture (s : State) (l : LaneId) : State :=
  match s.laneRecord l with
  | none => s
  | some r =>
    if s.captureReady l r then
      match (s.deck r.deck).reading.value with
      | none => s
      | some v => s.capture l r v
    else s

/-- The lane enters WEIGHING, and tests for a capture (R75). -/
def State.enterWeighing (s : State) (l : LaneId) (why : LaneReason) : State :=
  (s.enterLane l .weighing why).tryCapture l

/-- The closing phase ends as soon as both barriers are taken as DOWN (R74). -/
def State.closingTest (s : State) (l : LaneId) : State :=
  match s.laneRecord l with
  | none => s
  | some r =>
    if (s.lane l).state = .entering ∧ (s.lane l).closing ∧ s.bothDown r then s.enterWeighing l (.event .closingDone) else s

/-- The closing phase begins: closing set, entry timer stopped, the entry barrier asked to LOWER (R74). -/
def State.beginClosing (s : State) (l : LaneId) : State :=
  ((s.updateLane l fun c => { c with closing := true, timer := none }).askBarrier l .entry .lower).closingTest l

/-- Depart seen and an OCCUPIED deck begin the closing phase of an ENTERING lane (R74). -/
def State.enteringTest (s : State) (l : LaneId) : State :=
  match s.laneRecord l with
  | none => s
  | some r =>
    if (s.lane l).state = .entering ∧ ¬ (s.lane l).closing ∧ (s.lane l).departSeen ∧ (s.deck r.deck).occupancy = .occupied then
      s.beginClosing l
    else s

/-- In LEAVING, the exit barrier taken as DOWN ends the passage: hold released, IDLE (R78). -/
def State.leavingTest (s : State) (l : LaneId) : State :=
  match s.laneRecord l with
  | none => s
  | some r =>
    if (s.lane l).state = .leaving ∧ s.barrierDown r.exitBarrier then
      ((s.clearHold l r.deck).enterIdle l (.event .exitDown)).afterRelease r.deck
    else s

/-- The lane enters LEAVING and asks its exit barrier to LOWER (R78). The LANE report gives the EMPTY deck as its reason,
also when the exit barrier's DEPART came last: DESIGN CHOICE, R60 and R78 name no reason (log entry 47). -/
def State.enterLeaving (s : State) (l : LaneId) : State :=
  ((s.enterLane l .leaving (.event .deckEmpty)).askBarrier l .exit .lower).leavingTest l

/-- Depart seen and an EMPTY deck take a RELEASING lane to LEAVING (R78). -/
def State.releasingTest (s : State) (l : LaneId) : State :=
  match s.laneRecord l with
  | none => s
  | some r =>
    if (s.lane l).state = .releasing ∧ (s.lane l).departSeen ∧ (s.deck r.deck).occupancy = .empty then s.enterLeaving l
    else s

/-- The entry timer ran out on an EMPTY deck: the entry barrier is asked to LOWER, the hold released, and the lane
enters IDLE with CANCELLED (R74). -/
def State.cancelEntry (s : State) (l : LaneId) (r : LaneRecord) : State :=
  (((s.askBarrier l .entry .lower).clearHold l r.deck).enterIdle l (.event .cancelled)).afterRelease r.deck

/-! ## What a lane does when its deck has replaced its record (R63, R72–R75, R78) -/

/-- A lane waiting for a deck that is in FAULT is referred with DECK-FAULT (R73). -/
def State.deckFaultTest (s : State) (l : LaneId) : State :=
  match s.laneRecord l with
  | none => s
  | some r => if (s.lane l).state = .awaitDeck ∧ (s.deck r.deck).state = .fault then s.refer l .deckFault else s

/-- One lane looks at its deck's record, state and occupancy. Each test is of one lane state. -/
def State.deckSeen (s : State) (l : LaneId) : State :=
  match (s.lane l).state with
  | .awaitDeck => s.deckFaultTest l
  | .entering => s.enteringTest l
  | .weighing => s.tryCapture l
  | .releasing => s.releasingTest l
  | .recover => s.testRecover l
  | .closed | .idle | .identify | .referred | .refused | .leaving | .fault => s

/-- The lanes of a deck see a replacement of its reading record, and the arbiter tests for a grant (R20, R72). Two lanes of one
deck see it in lane order: DESIGN CHOICE, R20 and R73 give no order between them (log entry 56). -/
def State.deckTold (s : State) (d : DeckId) : State :=
  (forEach (s.deckLanes d) (fun l t => t.deckSeen l) s).grantDeck d

/-! ## Admission (R66–R69) -/

/-- The lane enters AWAIT-DECK and makes its claim, which is a wake event for the deck; a deck in FAULT refers it,
else the arbiter tests for a grant (R37, R72, R73). -/
def State.awaitDeck (s : State) (l : LaneId) (why : LaneReason) (read : Option IdentRead) : State :=
  match s.laneRecord l with
  | none => s
  | some r =>
    let d := r.deck
    let s := s.enterLane l .awaitDeck why read
    let s := s.setArbiter d { s.arbiter d with claims := (s.arbiter d).claims ++ [l] }
    let s := s.updateLane l fun c => { c with claim := .waiting }
    let s := s.wakeDeckEvent d
    if (s.deck d).state = .fault then s.refer l .deckFault else s.grantDeck d

/-- The passage a decision fixes for an ident (R67). -/
def State.passageFor (s : State) (r : LaneRecord) (t : Text) : Passage :=
  match r.direction with
  | .inward => .inbound
  | .outward => .outbound
  | .both => if (s.outVisit t).isSome then .outbound else .inbound

/-- The YARD-FULL check and the reservation (R67, R86). -/
def State.reserveAndWait (s : State) (l : LaneId) (v : Vehicle) (why : LaneReason) (read : Option IdentRead) : State :=
  if s.yardFull then s.refer l .yardFull read
  else match s.reserveVisit l v with
    | (.alreadyInYard, _) => s.refer l .alreadyInYard read
    | (.yardFull, _) => s.refer l .yardFull read
    | (.reserved k, t) => (t.updateLane l fun c => { c with reservation := some k }).awaitDeck l why read

/-- The decision goes on at R67: the passage and the yard check. -/
def State.yardCheck (s : State) (l : LaneId) (why : LaneReason) (read : Option IdentRead) : State :=
  match s.laneRecord l, (s.lane l).vehicle with
  | some r, some v =>
    let passage := s.passageFor r v.ident
    let s := s.updateLane l fun c => { c with passage := some passage }
    match passage with
    | .inbound =>
      if s.inYard v.ident then s.refer l .alreadyInYard read
      else if !v.category.any (s.permits v) then s.refer l .category read
      else s.reserveAndWait l v why read
    | .outbound =>
      match s.outVisit v.ident with
      | none => s.refer l .notInYard read
      | some x => (s.updateLane l fun c => { c with target := some x.key }).awaitDeck l why read
  | _, _ => s

/-- The vehicle field filled from a vehicle record (R66). -/
def VehicleRecord.vehicle (v : VehicleRecord) : Vehicle :=
  { ident := v.ident, account := v.account, tarePolicy := v.tarePolicy, storedTare := v.storedTare,
    maxGross := v.maxGross, permitted := v.permitted, category := some v.defaultCategory, cash := false }

/-- A cash vehicle (R66). -/
def cashVehicle (t : Text) (category : Option CategoryNo) : Vehicle :=
  { ident := t, account := 0, tarePolicy := .weighEach, storedTare := none, maxGross := none,
    permitted := category.toList, category := category, cash := true }

/-- A vehicle known by its ident alone (R66). -/
def bareVehicle (t : Text) : Vehicle :=
  { ident := t, account := 0, tarePolicy := .weighEach, storedTare := none, maxGross := none, permitted := [],
    category := none, cash := false }

/-- The vehicle record of an ident (R45). -/
def State.lookup (s : State) (t : Text) : Option VehicleRecord := s.vehicles.find? fun v => v.ident == t

/-- How a lookup ends: the vehicle field, and where the lane goes when the decision does not go on (R66). -/
inductive LookupEnd where
  | refused | referred (why : ReferralReason) | goesOn
  deriving DecidableEq, Repr

/-- The lookup of the admission decision, by the first line of R66 that applies. -/
def State.lookupEnd (s : State) (r : LaneRecord) (t : Text) : Vehicle × LookupEnd :=
  match s.lookup t with
  | some v =>
    match v.status with
    | .bars => (v.vehicle, .refused)
    | .refers => (v.vehicle, .referred .status)
    | .admits => (v.vehicle, .goesOn)
  | none =>
    match r.unknownPolicy with
    | .refer => (bareVehicle t, .referred .unknown)
    | .admitCash => (cashVehicle t r.cashCategory, .goesOn)

/-- The account and category an ADMIT carries replace the vehicle's; the category is taken as permitted (R69). -/
def Vehicle.overridden (v : Vehicle) (account : Option Nat) (category : Option CategoryNo) : Vehicle :=
  { v with
    account := account.getD v.account
    category := category.or v.category
    permitted := match category with
      | none => v.permitted
      | some c => insertNew c v.permitted }

/-- The pending category is settled: it replaces the vehicle's category, or is discarded with KEY-REFUSED (R66, R67). -/
def State.settlePending (s : State) (l : LaneId) (takes : Vehicle → CategoryNo → Bool) : State :=
  let c := s.lane l
  match c.vehicle, c.pendingCategory with
  | some v, some k =>
    let s := s.updateLane l fun c => { c with pendingCategory := none }
    if takes v k then s.updateLane l fun c => { c with vehicle := some { v with category := some k } }
    else s.post (.laneKeyRefused l k)
  | _, _ => s

/-- The admission decision on an ident, with what an ADMIT carries (R66, R69). -/
def State.makeDecision (s : State) (l : LaneId) (t : Text) (account : Option Nat) (category : Option CategoryNo)
    (why : LaneReason) (read : Option IdentRead) : State :=
  match s.laneRecord l with
  | none => s
  | some r =>
    let (v, out) := s.lookupEnd r t
    let s := s.updateLane l fun c => { c with vehicle := some v }
    let inbound := s.passageFor r t == .inbound
    let s := s.settlePending l fun v k => out == .goesOn && inbound && s.permits v k
    let s := s.updateLane l fun c => { c with vehicle := c.vehicle.map fun v => v.overridden account category }
    match out with
    | .refused => s.enterLane l .refused why read
    | .referred reason => s.refer l reason read
    | .goesOn => s.yardCheck l why read

/-! ## Presence and station codes (R61, R64) -/

/-- A presence ARRIVE: the lane acts, and the deck it names is told (R61, R64). -/
def State.presenceArrives (s : State) (l : LaneId) (r : LaneRecord) : State :=
  let s := s.updateLane l fun c => { c with present := true }
  let s := if (s.lane l).state = .idle then s.enterLane l .identify (.event .presenceArrive) else s
  (s.deckArrive r.deck).deckTold r.deck

/-- A presence DEPART takes a lane to IDLE in this state and with this referral reason (R64, R68, R71, R73). -/
def departsToIdle (c : LaneContext) : Bool :=
  match c.state with
  | .identify | .awaitDeck | .refused => true
  | .referred => c.reason.any ReferralReason.beforeEntry
  | .closed | .recover | .idle | .entering | .weighing | .releasing | .leaving | .fault => false

/-- A presence DEPART (R61). -/
def State.presenceDeparts (s : State) (l : LaneId) : State :=
  let s := s.updateLane l fun c => { c with present := false }
  if departsToIdle (s.lane l) then s.enterIdle l (.event .presenceDepart) else s

/-- A notice that a station's code went to or from FAULT; with no code before, only FAULT is a change (R61). -/
def State.noteFaultChange (s : State) (l : LaneId) (n : StationId) (before : Option Bool) (now : Bool)
    (toFault toReady : StationNotice) : State :=
  if now ∧ before ≠ some true then s.post (.laneStation l n toFault)
  else if ¬ now ∧ before = some true then s.post (.laneStation l n toReady)
  else s

/-- The Lane Sequencer is handed a terminal's taken code (R61). A code that leaves FAULT and brings a presence edge posts
TERMINAL-READY before the LANE report of the edge: DESIGN CHOICE, R61 gives the two no order (log entry 60). -/
def State.terminalCode (s : State) (n : StationId) (before : Option Code) (c : Code) : State :=
  match s.laneOfTerminal n with
  | none => s
  | some l =>
    match s.laneRecord l with
    | none => s
    | some r =>
      let now := terminalStatus c
      let s := s.noteFaultChange l n (before.map fun b => terminalStatus b == .fault) (now == .fault) .terminalFault .terminalReady
      match now with
      | .fault => s
      | .shows _ true => if (s.lane l).present then s else s.presenceArrives l r
      | .shows _ false => if (s.lane l).present then s.presenceDeparts l else s

/-- The Lane Sequencer is handed a reader's taken code (R61). -/
def State.readerCode (s : State) (n : StationId) (before : Option Code) (c : Code) : State :=
  match s.laneOfReader n with
  | none => s
  | some l => s.noteFaultChange l n (before.map readerFault) (readerFault c) .readerFault .readerReady

/-! ## Barriers tell the lanes (R105, R110–R114) -/

/-- An arm-loop edge reaches the lane that holds the deck (R74, R78, R114). -/
def State.laneEdge (s : State) (l : LaneId) (role : BarrierRole) (edge : Edge) : State :=
  match edge, role, (s.lane l).state with
  | .depart, .entry, .entering => (s.updateLane l fun c => { c with departSeen := true }).enteringTest l
  | .depart, .exit, .releasing => (s.updateLane l fun c => { c with departSeen := true }).releasingTest l
  | _, _, _ => s

/-- The lane holding a barrier's deck, when that lane names the barrier, with the role it plays there (R114). -/
def State.edgeOwner (s : State) (n : StationId) (d : DeckId) : Option (LaneId × BarrierRole) :=
  (s.barrierLanes n).find? fun p => s.holds p.1 d

/-- An arm-loop edge is routed by the deck hold, or reported as UNEXPECTED-PASSAGE (R114). -/
def State.routeEdge (s : State) (n : StationId) (edge : Edge) : State :=
  match s.barrierDeck n with
  | none => s
  | some d =>
    match s.edgeOwner n d with
    | some p => s.laneEdge p.1 p.2 edge
    | none => if s.deckHeld d then s else s.postBarrier n (.unexpectedPassage edge)

/-- A lane is told a taken position of one of its barriers (R63, R74, R75, R78). Each test is of one lane state. -/
def State.positionTold (s : State) (l : LaneId) : State :=
  match (s.lane l).state with
  | .entering => s.closingTest l
  | .weighing => s.tryCapture l
  | .leaving => s.leavingTest l
  | .recover => s.testRecover l
  | .closed | .idle | .identify | .referred | .refused | .awaitDeck | .releasing | .fault => s

/-- The lanes naming a barrier, in lane order. -/
def State.lanesOfBarrier (s : State) (n : StationId) : List LaneId := s.lanesWhere fun r => r.namesBarrier n

/-- The recovery LOWERs made as a barrier returns to service: for each lane naming it that is in RECOVER and holds its
deck or finds it unheld (R111). They are made in lane order, so the motion limit of the FIRST stands: a second LOWER finds
LOWER under way and keeps the limit. DESIGN CHOICE, R111 gives no order (log entry 52). -/
def State.recoveryLowers (s : State) (n : StationId) : State :=
  forEach (s.barrierLanes n) (fun p t => if (t.lane p.1).state = .recover then t.askBarrier p.1 p.2 .lower else t) s

/-- Each lane naming a barrier is told its new taken position, and acts on it. The lanes test the position last told, which
every test before this one still finds (R105 step 7, log entry 10). They act in lane order: DESIGN CHOICE (log entry 56). -/
def State.tellLanes (s : State) (n : StationId) : State :=
  forEach (s.lanesOfBarrier n) (fun l t => t.positionTold l)
    (s.setBarrier n ((s.barrier n).map fun b => { b with told := b.position }))

/-- The Barrier Controller takes a code that carries a position and an arm loop (R105, steps 1–7). -/
def State.barrierMoved (s : State) (n : StationId) (b : BarrierRecord) (p : Position) (loop : ArmLoop) : State :=
  let edge := loopEdge b.loop loop
  let s := if b.obstructedBy loop then
      (s.putBarrier n (BarrierRecord.interlocked { b with position := p, loop := some loop } loop)).postBarrier n .obstruction
    else s
  let s := s.putBarrier n (b.takes p loop)
  let s := if b.returns p then (s.postBarrier n .returned).recoveryLowers n else s
  let s := match edge with
    | none => s
    | some e => (s.routeEdge n e).edgeDue n e
  s.tellLanes n

/-- A lane learns of a fault cause: CLOSED and RECOVER lanes do not fault, a lane in FAULT adds it, any other lane
enters FAULT (R80). -/
def State.laneFault (s : State) (l : LaneId) (cause : FaultCause) : State :=
  match (s.lane l).state with
  | .closed | .recover => s
  | .fault =>
    if cause ∈ (s.lane l).causes then s
    else (s.updateLane l fun c => { c with causes := c.causes ++ [cause] }).post (.laneCause l cause)
  | _ => (s.updateLane l fun c => { c with causes := insertNew cause c.causes }).enterLane l .fault (.cause cause)

/-- The barrier tells each lane naming it that it entered FAULT or MANUAL (R109, R110). The two lanes of a shared barrier are
told in lane order, so their LANE reports stand in it: DESIGN CHOICE, R80, R109 and R110 give no order (log entry 56). -/
def State.faultLanes (s : State) (n : StationId) (cause : FaultCause) : State :=
  forEach (s.lanesOfBarrier n) (fun l t => t.laneFault l cause) s

/-- The Barrier Controller takes FAULT or MANUAL (R110). -/
def State.barrierStops (s : State) (n : StationId) (b : BarrierRecord) (st : BarrierState) (why : BarrierReason)
    (cause : FaultCause) : State :=
  ((s.putBarrier n (b.stops st)).postBarrier n why).faultLanes n cause

/-- The Barrier Controller is handed a barrier's taken code (R105, R110). The Loop Port hands a code on when it differs, as
received, from the code last taken. So a value that counts as FAULT (R146) and follows FAULT or another such value is acted on
again, with a second BARRIER report of FAULT: DESIGN CHOICE, R105 and R146 leave open whether two values that count as one code
differ (log entry 63). -/
def State.barrierCode (s : State) (n : StationId) (c : Code) : State :=
  match s.barrier n with
  | none => s
  | some b =>
    match barrierStatus c with
    | .shows p loop => s.barrierMoved n b p loop
    | .manual => s.barrierStops n b .manual .manual (.barrierManual n)
    | .fault => s.barrierStops n b .fault .fault (.barrierFault n)

/-- The motion timer of a barrier reaches its limit (R109). -/
def State.motionExpires (s : State) (n : StationId) : State :=
  match s.barrier n with
  | none => s
  | some b =>
    if b.motionDue then ((s.putBarrier n b.timedOut).postBarrier n .motionTimeout).faultLanes n (.barrierFault n) else s

/-! ## Stations tell the lanes (R61, R63, R80) -/

/-- The lanes naming a station, in lane order. -/
def State.lanesOfStation (s : State) (n : StationId) : List LaneId := s.lanesWhere fun r => r.names n

/-- A station became ENROLLED: lanes in RECOVER naming it test their conditions (R63), in lane order: DESIGN CHOICE (log entry
56). -/
def State.lanesSeeEnrolled (s : State) (n : StationId) : State :=
  forEach (s.lanesOfStation n) (fun l t => t.testRecover l) s

/-- A terminal left ENROLLED: presence becomes ABSENT without an edge (R61). -/
def State.presenceLost (s : State) (n : StationId) : State :=
  match s.laneOfTerminal n with
  | none => s
  | some l => s.updateLane l fun c => { c with present := false }

/-- A station left ENROLLED: presence is lost with a terminal, and the lanes naming it fault (R61, R80). The two lanes of a
shared barrier fault in lane order: DESIGN CHOICE, R80 gives no order (log entry 56). -/
def State.lanesSeeLost (s : State) (n : StationId) : State :=
  forEach (s.lanesOfStation n) (fun l t => t.laneFault l (.stationLost n)) (s.presenceLost n)

/-! ## Messages to the lanes (R65, R79) -/

/-- The lane that names a station as its reader or terminal (R65). -/
def State.identLane (s : State) (n : StationId) : Option LaneId := (s.laneOfReader n).or (s.laneOfTerminal n)

/-- The read repeats the lane's last read ident within 3,000 frames (R65). -/
def LaneContext.repeats (c : LaneContext) (t : Text) : Bool :=
  c.lastRead.any fun p => p.1 == t && decide (p.2 < Config.repeatFrames)

/-- The lane takes reads for a decision in this state (R65). -/
def LaneContext.takesRead (c : LaneContext) : Bool :=
  c.state == .identify || (c.state == .referred && c.reason == some .noIdent)

/-- An IDENT-READ reaches the Lane Sequencer, or becomes a NOTE when no lane names its station (R65, R167). A stray read of a
CLOSED lane becomes its last read too, and stays so when the lane is enabled: DESIGN CHOICE, R65 has each read that is no repeat
become the last read and keeps it 'across every lane state except CLOSED', and R82 clears it on entry to CLOSED alone (log entry
67). -/
def State.identArrives (s : State) (n : StationId) (x : IdentRead) : State :=
  match s.identLane n with
  | none => s.post (.noteRead none n x)
  | some l =>
    if (s.lane l).repeats x.ident then s
    else
      let s := s.updateLane l fun c => { c with lastRead := some (x.ident, 0) }
      match s.laneRecord l with
      | none => s
      | some r =>
        if (s.lane l).takesRead then
          let s := s.updateLane l fun c => { c with timer := none }
          ((s.deckRead r.deck).deckTold r.deck).makeDecision l x.ident none none (.event .identRead) (some x)
        else s.post (.noteRead (some l) n x)

/-- States in which a permitted category key of an inbound vehicle replaces its category (R79). -/
def LaneContext.keyReplaces (c : LaneContext) : Bool :=
  c.passage == some .inbound &&
    match c.state with
    | .awaitDeck | .entering | .weighing => true
    | .referred => c.reason.any ReferralReason.beforeEntry
    | .closed | .recover | .idle | .identify | .refused | .releasing | .leaving | .fault => false

/-- A category key (R79). -/
def State.categoryKey (s : State) (l : LaneId) (k : CategoryNo) : State :=
  let c := s.lane l
  if c.state = .identify then s.updateLane l fun c => { c with pendingCategory := some k }
  else
    match c.vehicle with
    | none => s.post (.laneKeyRefused l k)
    | some v =>
      if c.keyReplaces ∧ s.permits v k then
        let v := { v with category := some k }
        let t := s.updateLane l fun c => { c with vehicle := some v }
        if c.state = .referred ∧ c.reason = some .category then t.reserveAndWait l v (.event .keyEntry) none else t
      else s.post (.laneKeyRefused l k)

/-- A KEY-ENTRY reaches the Lane Sequencer, or becomes a NOTE when no lane names its station as terminal (R79, R167). -/
def State.keyArrives (s : State) (n : StationId) (x : KeyEntry) : State :=
  match s.laneOfTerminal n with
  | none => s.post (.noteKey n x)
  | some l =>
    match x with
    | .callAttendant => s.post (.laneCallAttendant l)
    | .category k =>
      match categoryOf k with
      | none => s
      | some c => s.categoryKey l c

/-! ## Lane timers (R64, R68, R74, R75) -/

/-- The lane timer runs as this kind and has run out. -/
def LaneContext.timedOut (c : LaneContext) (k : LaneTimerKind) : Bool :=
  c.timer.any fun t => t.kind == k && decide (t.limit ≤ t.elapsed)

/-- The ident wait runs out: REFERRED with NO-IDENT (R64). -/
def State.identWaitEnds (s : State) (l : LaneId) : State :=
  if (s.lane l).timedOut .identWait then s.refer l .noIdent else s

/-- The referral timer runs out: REFUSED (R68). -/
def State.referralEnds (s : State) (l : LaneId) : State :=
  if (s.lane l).timedOut .referral then s.enterLane l .refused (.event .referralTimeout) else s

/-- The entry timer runs out: cancelled on an EMPTY deck, referred on an OCCUPIED one (R74). -/
def State.entryEnds (s : State) (l : LaneId) : State :=
  match s.laneRecord l with
  | none => s
  | some r =>
    if (s.lane l).timedOut .entry then
      match (s.deck r.deck).occupancy with
      | .empty => s.cancelEntry l r
      | .occupied => s.refer l .entryIncomplete
    else s

/-- The weigh timer runs out: REFERRED with NO-STABLE (R75). -/
def State.weighEnds (s : State) (l : LaneId) : State :=
  if (s.lane l).timedOut .weigh then s.refer l .noStable else s

/-! ## Office requests (R62, R69, R70, R81, R82) -/

/-- ENABLE-LANE (R62). -/
def enableLane (lane : Nat) (s : State) : State × Reply :=
  match laneOf lane with
  | none => refuse s .bad
  | some l =>
    if (s.laneRecord l).isNone then refuse s .bad
    else if (s.lane l).state ≠ .closed then refuse s .busy
    else accept (s.enterRecover l (.event .enabled)) .none

/-- The lane states DISABLE-LANE accepts (R82). -/
def LaneState.disables : LaneState → Bool
  | .idle | .recover | .fault => true
  | .closed | .identify | .referred | .refused | .awaitDeck | .entering | .weighing | .releasing | .leaving => false

/-- An accepted DISABLE-LANE: claim, hold and reservation are given up and the lane enters CLOSED (R82). -/
def State.closeLane (s : State) (l : LaneId) (r : LaneRecord) : State :=
  let t := (s.clearHold l r.deck).enterLane l .closed (.event .disabled)
  if s.holds l r.deck then t.afterRelease r.deck else t

/-- DISABLE-LANE (R82). -/
def disableLane (lane : Nat) (s : State) : State × Reply :=
  match laneOf lane with
  | none => refuse s .bad
  | some l =>
    match s.laneRecord l with
    | none => refuse s .busy
    | some r =>
      if (s.lane l).state.disables then accept (s.closeLane l r) .none else refuse s .busy

/-- RESUME-LANE (R81). -/
def resumeLane (lane : Nat) (s : State) : State × Reply :=
  match laneOf lane with
  | none => refuse s .bad
  | some l =>
    match s.laneRecord l with
    | none => refuse s .bad
    | some r =>
      if (s.lane l).state ≠ .fault then refuse s .bad
      else if !s.stationsEnrolled r || !s.barriersServe r then refuse s .busy
      else accept (s.enterRecover l (.event .resumed)) .none

/-- An ADMIT carries a field outside its range, or a category that is not enabled, or lacks the field its reason
requires (R69). -/
def State.admitBad (s : State) (v : AdmitLoad) (r : LaneRecord) (reason : ReferralReason) : Bool :=
  v.ident.any (fun t => !validIdent t)
    || v.account.any (fun a => !inRange 1 999999 a)
    || v.category.any (fun k => !(categoryOf k).any fun c => (s.category c).enabled)
    || match reason with
      | .noIdent => v.ident.isNone
      | .unknown => v.category.isNone && r.cashCategory.isNone
      | .category => v.category.isNone
      | _ => false

/-- The vehicle field takes what the ADMIT carries (R69). -/
def State.overrideVehicle (s : State) (l : LaneId) (account : Option Nat) (category : Option CategoryNo) : State :=
  s.updateLane l fun c => { c with vehicle := c.vehicle.map fun v => v.overridden account category }

/-- An accepted ADMIT continues from the point its reason gives (R69). -/
def State.admitGoesOn (s : State) (l : LaneId) (r : LaneRecord) (v : AdmitLoad) (reason : ReferralReason) : State :=
  let category := v.category.bind categoryOf
  let why : LaneReason := .event .officeAdmits
  let t := s.overrideVehicle l v.account category
  match reason, (t.lane l).vehicle with
  | .noIdent, _ => s.makeDecision l (v.ident.getD []) v.account category why none
  | .unknown, some x =>
    (t.updateLane l fun c =>
      { c with vehicle := some ((cashVehicle x.ident (category.or r.cashCategory)).overridden v.account none) }).yardCheck l why none
  | .status, _ | .alreadyInYard, _ => t.yardCheck l why none
  | .category, some x | .yardFull, some x => t.reserveAndWait l x why none
  | .notInYard, _ => (t.updateLane l fun c => { c with noVisit := true }).awaitDeck l why none
  | .deckFault, _ => t.awaitDeck l why none
  | _, _ => t

/-- An ADMIT still finds the yard as the referral found it: ALREADY-IN-YARD or YARD-FULL stands (R69). -/
def State.admitBusy (s : State) (l : LaneId) (reason : ReferralReason) : Bool :=
  match reason with
  | .alreadyInYard => (s.lane l).vehicle.any fun x => s.inYard x.ident
  | .yardFull => s.yardFull
  | _ => false

/-- ADMIT (R69). -/
def admitLane (v : AdmitLoad) (s : State) : State × Reply :=
  match laneOf v.lane with
  | none => refuse s .bad
  | some l =>
    match s.laneRecord l, (s.lane l).reason with
    | some r, some reason =>
      if (s.lane l).state ≠ .referred ∨ ¬ reason.beforeEntry ∨ s.admitBad v r reason then refuse s .bad
      else if s.admitBusy l reason then refuse s .busy
      else accept (s.admitGoesOn l r v reason) .none
    | _, _ => refuse s .bad

/-- The lane a resolution names, when it is REFERRED, with its record and reason (R70). -/
def State.referredLane (s : State) (lane : Nat) : Option (LaneId × LaneRecord × ReferralReason) :=
  match laneOf lane with
  | none => none
  | some l =>
    match s.laneRecord l, (s.lane l).reason with
    | some r, some reason => if (s.lane l).state = .referred then some (l, r, reason) else none
    | _, _ => none

/-- REFUSE (R70). -/
def refuseLane (lane : Nat) (s : State) : State × Reply :=
  match s.referredLane lane with
  | none => refuse s .bad
  | some (l, _, reason) =>
    if reason.beforeEntry then accept (s.enterLane l .refused (.event .officeRefuses)) .none else refuse s .bad

/-- RETRY (R70). -/
def retryLane (lane : Nat) (s : State) : State × Reply :=
  match s.referredLane lane with
  | none => refuse s .bad
  | some (l, _, reason) =>
    if reason = .noStable then accept (s.enterWeighing l (.event .officeRetries)) .none else refuse s .bad

/-- A release resumes the capture with the steps left (R70, R76, R77). -/
def State.resumeCapture (s : State) (l : LaneId) (r : LaneRecord) (steps : List CaptureStep) : State :=
  match (s.lane l).captured with
  | none => s.enterReleasing l (.event .officeReleases)
  | some w => runSteps l r w (.event .officeReleases) steps s

/-- RELEASE of ENTRY-INCOMPLETE: ENTERING in its closing phase (R70, R74). -/
def State.releaseEntry (s : State) (l : LaneId) : State :=
  (s.enterLane l .entering (.event .officeReleases)).beginClosing l

/-- RELEASE of NO-STABLE: without a weight (R70). -/
def State.releaseUnweighed (s : State) (l : LaneId) : State :=
  ((s.freeReservation l).post (.noStable l ((s.lane l).vehicle.map Vehicle.ident))).enterReleasing l (.event .officeReleases)

/-- The repeated ticket number check fails, with the target not found gone first (R70, R77). -/
def State.numberStillMissing (s : State) (l : LaneId) : Bool := !s.findsGone l && !s.numberReady

/-- RELEASE (R70). -/
def releaseLane (lane : Nat) (s : State) : State × Reply :=
  match s.referredLane lane with
  | none => refuse s .bad
  | some (l, r, reason) =>
    match reason with
    | .entryIncomplete => accept (s.releaseEntry l) .none
    | .noStable => accept (s.releaseUnweighed l) .none
    | .inspect => accept (s.resumeCapture l r (stepsAfter .inspect (s.captureSteps l))) .none
    | .negativeNet =>
      accept ((s.updateLane l fun c => { c with negativeReleased := true }).resumeCapture l r
        (stepsAfter .netCheck (s.captureSteps l))) .none
    | .tareMismatch => accept (s.resumeCapture l r [.commit false]) .none
    | .noTicketNumber =>
      if s.numberStillMissing l then refuse s .busy
      else accept (s.resumeCapture l r [.numberCheck, .commit true]) .none
    | .noIdent | .unknown | .status | .alreadyInYard | .category | .yardFull | .notInYard | .deckFault => refuse s .bad

/-! ## Yard reset (R83) -/

/-- The Lane Sequencer takes the yard reset: every lane that is not CLOSED enters RECOVER, holds kept and claims
withdrawn; then each asks its recovery LOWERs and tests its conditions (R63, R83). A lane already in RECOVER begins it anew
with a LANE report: DESIGN CHOICE, R60 leaves open whether that is a change of lane state (log entry 49). The lanes enter
RECOVER in lane order, all of them before the first tests: DESIGN CHOICE, R83 gives no order (log entry 56). -/
def State.resetLanesYard (s : State) : State :=
  let moved := allLanes.filter fun l => (s.lane l).state != .closed
  let s := forEach moved (fun l t => t.enterLane l .recover (.event .yardReset)) s
  forEach moved (fun l t => (t.askRecovery l).testRecover l) s

/-! ## The blocks take the yard reset (R41, R83, R102, R122, R137, R189) -/

/-- A Deck Engine takes a yard reset handed to it; its lanes see the record replaced (R20, R41). -/
def State.deckYardReset (s : State) (d : DeckId) : State :=
  if s.resetsDue.decks[d] then
    (({ s with resetsDue := { s.resetsDue with decks := s.resetsDue.decks.set d false } } : State).resetDeckYard d).deckTold d
  else s

/-- The Lane Sequencer takes a yard reset handed to it (R83). -/
def State.laneYardReset (s : State) : State :=
  if s.resetsDue.lanes then
    { s with resetsDue := { s.resetsDue with lanes := false } }.resetLanesYard
  else s

/-- The Visit Table takes a yard reset handed to it (R102). -/
def State.visitYardReset (s : State) : State :=
  if s.resetsDue.visits then
    { s with resetsDue := { s.resetsDue with visits := false } }.resetVisitsYard
  else s

/-- The Barrier Controller takes a yard reset handed to it (R122). -/
def State.barrierYardReset (s : State) : State :=
  if s.resetsDue.barriers then
    { s with resetsDue := { s.resetsDue with barriers := false } }.resetBarriersYard
  else s

/-- The Ticket Stamper takes a yard reset handed to it (R137). -/
def State.ticketYardReset (s : State) : State :=
  if s.resetsDue.tickets then
    { s with resetsDue := { s.resetsDue with tickets := false } }.resetTicketsYard
  else s

/-- Every yard reset handed over and not yet taken is taken: the blocks in the order R189 lists them, DESIGN CHOICE, since the
rule gives them no order among themselves (log entry 6). -/
def State.takeResets (s : State) : State :=
  (forEach allDecks (fun d t => t.deckYardReset d) s).laneYardReset.visitYardReset.barrierYardReset.ticketYardReset

end Sys2Proof.Machine
end

