-- ==== Sys2Proof/Machine/Smc.lean ====
section
/-! DEFINITION. Chapter 9, Station Messages and Enrolment: the two message channels of each station, the sources of downstream messages, the owners of upstream messages, enrolment, loss, FORWARD and READ-STATION; and the hand-on of taken codes (R145, R146), which enrolment makes. -/

namespace Sys2Proof.Machine

/-! ## Working channels (R160) -/

/-- Both channels of a station work in this state. -/
def StationState.works : StationState → Bool
  | .alive | .enrolling | .enrolled | .rejected => true
  | .silent | .lost => false

/-! ## The receive channel (R161–R163) -/

/-- What a receive channel hands out of a frame: a complete message, or a value refused with a report. -/
inductive ReceiveNote where
  | none
  | complete (m : UpMessage)
  | badValue (v : Byte)
  deriving DecidableEq, Repr

/-- The channel returns to IDLE with answer NONE and the last taken unit absent. -/
def ReceiveChannel.abandoned (c : ReceiveChannel) : ReceiveChannel :=
  { c with phase := .idle, answer := .none, lastTaken := none }

/-- The channel refuses a message: ABORTING with answer ABORT; the refused unit counts as taken (R163). -/
def ReceiveChannel.refused (c : ReceiveChannel) (u : UnitFields) : ReceiveChannel :=
  { c with phase := .aborting, answer := .abort, lastTaken := some (u.mark, u.parity), stale := 0 }

/-- A validated unit of mark NONE (R161). -/
def ReceiveChannel.noneUnit (c : ReceiveChannel) : ReceiveChannel :=
  match c.phase with
  | .idle => { c with answer := .none }
  | .receiving _ | .aborting => c.abandoned

/-- A kind unit is taken, or refused by the station's state or its value (R162, R163). Where two cases of refusal meet, an
unknown kind posts no BAD-MESSAGE from a REJECTED station and posts it from an ALIVE or ENROLLING one: DESIGN CHOICE, R163 does
not say which of the two cases the refusal is for (log entry 58). -/
def ReceiveChannel.kindUnit (c : ReceiveChannel) (st : StationState) (u : UnitFields) : ReceiveChannel × ReceiveNote :=
  if st = .rejected then (c.refused u, .none)
  else match upKindOf u.unit with
    | none => (c.refused u, .badValue u.unit)
    | some k =>
      if (st = .alive ∨ st = .enrolling) ∧ k ≠ .enrolPage then (c.refused u, .none)
      else ({ c with phase := .receiving { kind := k, length := none, body := [] }, answer := .taken0,
                     lastTaken := some (u.mark, u.parity), stale := 0 }, .none)

/-- The message is complete: IDLE, the TAKEN answer and the last taken unit kept (R162). -/
def ReceiveChannel.completed (c : ReceiveChannel) : ReceiveChannel := { c with phase := .idle }

/-- A NEXT unit in RECEIVING: the length, or a body unit (R162, R163). -/
def ReceiveChannel.nextUnit (c : ReceiveChannel) (p : Partial) (u : UnitFields) : ReceiveChannel × ReceiveNote :=
  let taken (q : Partial) : ReceiveChannel :=
    { c with phase := .receiving q, answer := takenAnswer u.parity, lastTaken := some (u.mark, u.parity), stale := 0 }
  match p.length with
  | none =>
    if u.unit.toNat > Config.bodyLimit then (c.refused u, .badValue u.unit)
    else if u.unit.toNat = 0 then ((taken { p with length := some 0 }).completed, .complete { kind := p.kind, body := [] })
    else (taken { p with length := some u.unit.toNat }, .none)
  | some n =>
    let body := p.body ++ [u.unit]
    if n ≤ body.length then ((taken { p with body := body }).completed, .complete { kind := p.kind, body := body })
    else (taken { p with body := body }, .none)

/-- A validated unit, by the first line of R162 that applies; the Bool says a new unit was taken or refused. -/
def ReceiveChannel.validated (c : ReceiveChannel) (st : StationState) (u : UnitFields) :
    ReceiveChannel × ReceiveNote × Bool :=
  match u.mark with
  | .none => (c.noneUnit, .none, false)
  | .first =>
    if c.lastTaken = some (u.mark, u.parity) then (c, .none, false)
    else ((c.kindUnit st u).1, (c.kindUnit st u).2, true)
  | .next =>
    if c.lastTaken = some (u.mark, u.parity) then (c, .none, false)
    else match c.phase with
      | .idle | .aborting => (c, .none, false)
      | .receiving p => ((c.nextUnit p u).1, (c.nextUnit p u).2, true)

/-- The stale count rises on a frame in which a RECEIVING channel took no new unit (R163). -/
def ReceiveChannel.aged (c : ReceiveChannel) : ReceiveChannel :=
  match c.phase with
  | .receiving _ => { c with stale := countUp Config.staleLimit c.stale }
  | .idle | .aborting => c

/-- The unit fields repeat the candidate's, which came in the frame before (R161). -/
def Candidate.pairs (x : Candidate) (u : UnitFields) (frame : Nat) : Bool := x.fields == u && (x.frame + 1) % 8 == frame

/-- One frame of the receive channel, by its number: the fields of a good record, or none (R160, R161). -/
def ReceiveChannel.frame (c : ReceiveChannel) (st : StationState) (frame : Nat) (fields : Option UnitFields) :
    ReceiveChannel × ReceiveNote :=
  match fields with
  | none => ({ c with candidate := none }.aged, .none)
  | some u =>
    let d : ReceiveChannel := { c with candidate := some { fields := u, frame := frame } }
    if c.candidate.any fun x => x.pairs u frame then
      match d.validated st u with
      | (c, note, true) => (c, note)
      | (c, note, false) => (c.aged, note)
    else (d.aged, .none)

/-- The partial message of a RECEIVING channel is stale (R163). -/
def ReceiveChannel.staleDue (c : ReceiveChannel) : Bool :=
  match c.phase with
  | .receiving _ => decide (Config.staleLimit ≤ c.stale)
  | .idle | .aborting => false

/-- The SMC handles the message fields of a frame on the receive channel (R140, R161–R163, R167). -/
def State.receiveFrame (s : State) (n : StationId) (fields : Option UnitFields) : State :=
  let x := s.station n
  if x.state.works then
    let out := x.receive.frame x.state (s.frameInHand.getD 0) fields
    let s := s.setStation n { x with receive := out.1 }
    match out.2 with
    | .none => s
    | .complete m => s.updateStation n fun x => { x with complete := x.complete ++ [m] }
    | .badValue v => s.post (.badMessageValue n v)
  else s

/-- The stale limit is reached: the partial message is discarded (R163). -/
def State.receiveEnds (s : State) (n : StationId) : State :=
  if (s.station n).receive.staleDue then
    s.updateStation n fun x => { x with receive := { x.receive.abandoned with stale := 0 } }
  else s

/-! ## The send channel (R164–R166) -/

/-- The units of a message: kind, length, body (9.1). -/
def DownMessage.units (m : DownMessage) : List Byte := m.kind :: BitVec.ofNat 8 m.body.length :: m.body

/-- The unit being sent (R158, R164). -/
def Progress.shows (p : Progress) : UnitFields :=
  { mark := if p.unit = 0 then .first else .next, parity := p.unit % 2 == 1, unit := p.msg.units.getD p.unit 0 }

/-- The unit fields a send channel shows: the unit being sent in SENDING, mark NONE in IDLE and GAP (R158, R164, R165). -/
def SendChannel.shows (c : SendChannel) : UnitFields :=
  match c.phase, c.message with
  | .sending, some p => p.shows
  | _, _ => { mark := .none, parity := false, unit := 0 }

/-- An attempt begins at the kind unit, its unit timer from 0 (R164, R165). -/
def SendChannel.begins (c : SendChannel) (m : DownMessage) (attempt : Nat) (noneSeen : Bool) : SendChannel :=
  { c with phase := .sending, message := some { msg := m, unit := 0, attempt := attempt }, timer := 0, gap := 0,
           noneSeen := noneSeen }

/-- The quiet gap begins; the message stays for the next attempt (R165). -/
def SendChannel.quiet (c : SendChannel) : SendChannel := { c with phase := .gap, timer := 0, gap := 0, noneSeen := false }

/-- The next unit of the message is shown, its unit timer from 0 (R164). -/
def SendChannel.nextUnit (c : SendChannel) (p : Progress) : SendChannel :=
  { c with message := some { p with unit := p.unit + 1 }, timer := 0 }

/-- The message whose units a channel is sending; none in IDLE and in GAP. -/
def SendChannel.inSending (c : SendChannel) : Option Progress := if c.phase = .sending then c.message else none

/-- The head ticket job a station's channel is offered, with its lane (R129, R166). -/
def State.offeredTicket (s : State) (n : StationId) : Option (LaneId × TicketJob) :=
  match s.laneOfTerminal n with
  | none => none
  | some l =>
    match (s.queue l).jobs, (s.queue l).phase with
    | j :: _, .waiting => some (l, j)
    | _, _ => none

/-- The TICKET message of a job: its fields without the terminal and the visit link (R129, R169). -/
def ticketMessage (l : LaneId) (j : TicketJob) : DownMessage :=
  { kind := 0x21, body := (Config.ticketBody j.fields).take Config.bodyLimit, source := .ticket l }

/-- The DISPLAY-TEXT message of a forward buffer (R169). -/
def displayMessage (t : Text) : DownMessage :=
  { kind := 0x22, body := (Config.displayBody t).take Config.bodyLimit, source := .forward }

/-- The ENROL-RESULT message (R169). -/
def enrolResultMessage (r : EnrolResult) : DownMessage :=
  { kind := 0x23, body := (Config.enrolResultBody r).take Config.bodyLimit, source := .enrolResult r }

/-- The message the channel takes: the first source of R166 that has one. -/
def State.offered (s : State) (n : StationId) : Option DownMessage :=
  let x := s.station n
  match x.send.waiting with
  | some r => some (enrolResultMessage r)
  | none =>
    if x.state = .enrolled then
      match s.offeredTicket n with
      | some (l, j) => some (ticketMessage l j)
      | none => x.forward.map displayMessage
    else none

/-- The start condition of R164: a working channel in IDLE, NONE shown twice and NONE heard twice. -/
def Station.mayStart (x : Station) : Bool :=
  x.state.works && x.send.phase == .idle && x.send.noneShown == 2 && x.send.noneHeard == 2

/-- Change the send channel of a station by a function. -/
def State.updateSend (s : State) (n : StationId) (f : SendChannel → SendChannel) : State :=
  s.updateStation n fun x => { x with send := f x.send }

/-- The channel takes a message: SENDING at attempt 1; a waiting result leaves, a ticket job enters SENDING (R129, R164, R166). -/
def State.sendStarts (s : State) (n : StationId) : State :=
  if (s.station n).mayStart then
    match s.offered n with
    | none => s
    | some m =>
      let s := s.updateSend n fun c => c.begins m 1 true
      match m.source with
      | .enrolResult _ => s.updateSend n fun c => { c with waiting := none }
      | .ticket l => s.setQueue l { s.queue l with phase := .sending }
      | .forward => s
  else s

/-- The source of a delivered message acts (R129, R166). -/
def State.sourceDelivered (s : State) (n : StationId) : MessageSource → State
  | .enrolResult _ => s
  | .ticket l => s.setQueue l { s.queue l with phase := .awaitOutcome 0 }
  | .forward => s.updateStation n fun x => { x with forward := none }

/-- The source of an undeliverable message acts (R135, R166). -/
def State.sourceFailed (s : State) (n : StationId) : MessageSource → State
  | .enrolResult _ => s.post (.messageDropped n .enrolResult)
  | .ticket l => s.jobLeaves l (.notPrinted .noAnswer)
  | .forward => (s.updateStation n fun x => { x with forward := none }).post (.messageDropped n .displayText)

/-- An attempt fails: the quiet gap, or after the third an undeliverable message (R165). -/
def State.attemptFails (s : State) (n : StationId) : State :=
  match (s.station n).send.inSending with
  | none => s
  | some p =>
    if p.attempt < Config.sendAttempts then s.updateSend n SendChannel.quiet
    else (s.updateSend n SendChannel.idled).sourceFailed n p.msg.source

/-- The unit being sent is matched: the next unit, or delivery (R164, R166). -/
def State.unitMatched (s : State) (n : StationId) : State :=
  match (s.station n).send.inSending with
  | none => s
  | some p =>
    if p.unit + 1 < p.msg.units.length then s.updateSend n fun c => c.nextUnit p
    else (s.updateSend n SendChannel.idled).sourceDelivered n p.msg.source

/-- The answer matches the unit being sent; the FIRST unit only after a NONE seen (R164). -/
def SendChannel.matchedBy (c : SendChannel) (a : Answer) : Bool :=
  c.inSending.any fun p => a == takenAnswer (p.unit % 2 == 1) && (p.unit != 0 || c.noneSeen)

/-- The answer NONE is heard: an attempt in progress has seen it (R164). -/
def SendChannel.sawNone (c : SendChannel) : SendChannel := { c with noneSeen := c.noneSeen || c.phase == .sending }

/-- NONE heard in consecutive frames, up to two (R164). -/
def heard (count : Nat) : Option Answer → Nat
  | some .none => countUp 2 count
  | _ => 0

/-- One frame of the send channel: the answer of a good record, or none (R164, R165). -/
def State.sendFrame (s : State) (n : StationId) (answer : Option Answer) : State :=
  let x := s.station n
  if x.state.works then
    let s := s.updateSend n fun c => { c with noneHeard := heard c.noneHeard answer }
    match answer with
    | none => s
    | some .abort => s.attemptFails n
    | some .none => s.updateSend n SendChannel.sawNone
    | some a => if x.send.matchedBy a then s.unitMatched n else s
  else s

/-- The unit timer reached 32 frames, the last of them judged (R165). -/
def State.unitTimerDue (s : State) (n : StationId) : Bool :=
  !(s.slot n).awaited && (s.station n).send.phase == .sending && decide (Config.unitTimer ≤ (s.station n).send.timer)

/-- The unit timer runs out: the attempt fails (R165). -/
def State.unitTimerEnds (s : State) (n : StationId) : State := if s.unitTimerDue n then s.attemptFails n else s

/-- The quiet gap has shown four records (R165). -/
def SendChannel.gapOver (c : SendChannel) : Bool := c.phase == .gap && decide (Config.gapRecords ≤ c.gap)

/-- The quiet gap is over: the next attempt begins at the kind unit (R165). None seen is clear as it begins, also when the
last answers heard were NONE: R165 begins it with none seen cleared and R164 step 1 sets it by the answers in hand, DESIGN
CHOICE (log entry 59). -/
def State.gapEnds (s : State) (n : StationId) : State :=
  match (s.station n).send.message with
  | none => s
  | some p => if (s.station n).send.gapOver then s.updateSend n fun c => c.begins p.msg (p.attempt + 1) false else s

/-! ## Hand-on of taken codes (R145, R146) -/

/-- A BAD-CODE report for a value the enrolled kind does not define (R146). -/
def State.judgeCode (s : State) (n : StationId) (c : Code) : State :=
  if (s.station n).kind.all fun k => codeDefined k c then s else s.post (.badCode n c)

/-- The owners of the station's role are handed a taken code; `before` is the code taken before it (R145). -/
def State.handOn (s : State) (n : StationId) (before : Option Code) (c : Code) : State :=
  match s.role n with
  | none => s
  | some .digitizer =>
    match s.deckOfDigitizer n with
    | none => s
    | some d => (s.deckCode d before c).deckTold d
  | some .barrier => s.barrierCode n c
  | some .reader => s.readerCode n before c
  | some (.terminal _) => (s.terminalCode n before c).ticketCode n c

/-- The present taken code is judged and handed on as the station becomes ENROLLED (R145, R146, R174). An undefined value
posts BAD-CODE at each enrolment, so a restarted station whose taken code stands unchanged posts it again: DESIGN CHOICE, R146
says once for each taking and R145 that the code is handed as though it had just been taken (log entry 62). -/
def State.handOnEnrolled (s : State) (n : StationId) : State :=
  match (s.slot n).taken with
  | none => s
  | some c => (s.judgeCode n c).handOn n none c

/-- The present taken code goes to the owner of a role an ENROLLED station gained (R145, R176). It is not judged again, so no
BAD-CODE is posted: DESIGN CHOICE (log entry 62). -/
def State.handOnGained (s : State) (n : StationId) : State :=
  match (s.slot n).taken with
  | none => s
  | some c => s.handOn n none c

/-! ## Loss (R170, R177) -/

/-- What loss does to the channels of a station (R177). A complete message already received stays on its way (DEDUCED, log entry
28), and the receive channel is left with no candidate and no last taken unit (DEDUCED, log entry 18). The NONE answers heard
before the loss no longer count for the start condition of R164: DESIGN CHOICE, the rules do not say (log entry 68). -/
def Station.channelsLost (x : Station) : Station :=
  { x with receive := ReceiveChannel.reset, send := { x.send.idled with waiting := none, noneHeard := 0 } }

/-- The barrier record of a station that left ENROLLED (R112). -/
def State.barrierLost (s : State) (n : StationId) : State :=
  match s.barrier n with
  | none => s
  | some b => (s.putBarrier n b.lost).postBarrier n .lost

/-- The deck of a digitizer that left ENROLLED, and its lanes (R33). -/
def State.deckLost (s : State) (n : StationId) : State :=
  match s.deckOfDigitizer n with
  | none => s
  | some d => (s.digitizerLost n).deckTold d

/-- A buffered forward is dropped with its report (R170). -/
def State.dropForward (s : State) (n : StationId) : State :=
  match (s.station n).forward with
  | none => s
  | some _ => (s.updateStation n fun x => { x with forward := none }).post (.messageDropped n .displayText)

/-- An ENROLLED station becomes LOST: WAS-LOST, the report, the forward, the flush of its ticket queue, the channels,
then its deck, its barrier and its lanes (R33, R80, R112, R136, R170, R177). -/
def State.enrolledLost (s : State) (n : StationId) (restarted : Bool) : State :=
  let s := s.updateStation n fun x => { x with state := .lost, wasLost := true, pages := [], window := 0 }
  let s := s.post (.lost n restarted)
  let s := (s.dropForward n).terminalLost n
  let s := s.updateStation n Station.channelsLost
  ((s.deckLost n).barrierLost n).lanesSeeLost n

/-- A station that was not ENROLLED goes SILENT (R177). -/
def Station.silenced (x : Station) : Station :=
  { x.channelsLost with state := .silent, rejection := none, pages := [], failed := 0, window := 0 }

/-- The SMC is told that a slot became SILENT (R177). -/
def State.stationSilent (s : State) (n : StationId) : State :=
  match (s.station n).state with
  | .enrolled => s.enrolledLost n false
  | .alive | .enrolling | .rejected => s.updateStation n Station.silenced
  | .silent | .lost => s

/-! ## Enrolment (R172–R175) -/

/-- The station enters ALIVE and an attempt begins (R172). -/
def Station.attempting (x : Station) : Station := { x with state := .alive, window := 0, pages := [] }

/-- The SMC is told that a slot became ALIVE (R171, R172). -/
def State.stationAlive (s : State) (n : StationId) : State :=
  match (s.station n).state with
  | .silent | .lost => s.updateStation n Station.attempting
  | .alive | .enrolling | .enrolled | .rejected => s

/-- An attempt is open (R172). -/
def StationState.attempts : StationState → Bool
  | .alive | .enrolling => true
  | .silent | .enrolled | .rejected | .lost => false

/-- An attempt fails: the next begins, or the seventh failure rejects the station (R172). -/
def State.attemptFailed (s : State) (n : StationId) : State :=
  let failed := (s.station n).failed + 1
  if failed < Config.attemptLimit then s.updateStation n fun x => { x.attempting with failed := failed }
  else
    (s.updateStation n fun x =>
      { x with state := .rejected, rejection := some .noEnrol, failed := failed, pages := [],
               send := { x.send with waiting := some (.rejected .noEnrol) } }).post (.rejectedNoEnrol n)

/-- The attempt window reached 2,000 frames (R172). -/
def Station.windowDue (x : Station) : Bool := x.state.attempts && decide (Config.attemptWindow ≤ x.window)

/-- The attempt window runs out (R172). -/
def State.windowEnds (s : State) (n : StationId) : State :=
  if (s.station n).windowDue then s.attemptFailed n else s

/-- The chunk of a next page. -/
def EnrolPage.chunk : EnrolPage → Text
  | .base _ _ _ _ _ => []
  | .next _ chunk _ => chunk

/-- The announced number of pages to follow, when the stored pages begin with a base page. -/
def announced : List EnrolPage → Option Nat
  | .base _ _ _ follow _ :: _ => some follow
  | _ => none

/-- The stored pages hold the base page and as many next pages as it announced (R173). -/
def pagesComplete (ps : List EnrolPage) : Bool := announced ps == some (ps.length - 1)

/-- The station's details as a completed attempt writes them (R174). -/
def Station.detailed (x : Station) (ps : List EnrolPage) : Station :=
  match ps with
  | .base kind abilities revision _ _ :: rest =>
    { x with kind := some kind, abilities := abilities, revision := some revision,
             serial := some (rest.flatMap EnrolPage.chunk) }
  | _ => x

/-- The station fits its role and becomes ENROLLED: the four things of R174 in order, then its deck and the lanes
that name it (R33, R63). -/
def State.enrols (s : State) (n : StationId) (kind : StationKind) (revision : Nat) (serial : Text) : State :=
  let s := s.updateStation n fun x =>
    { x with state := .enrolled, failed := 0, pages := [], send := { x.send with waiting := some .accepted } }
  let s := s.post (.enrolled n kind (s.station n).abilities revision serial)
  let s := s.handOnEnrolled n
  let s := match s.deckOfDigitizer n with
    | none => s
    | some d => (s.digitizerEnrolled n).deckTold d
  s.lanesSeeEnrolled n

/-- The station does not fit its role: REJECTED with MISMATCH, the report naming the kind received and the role with the deck
or lanes that give it (R51, R174). -/
def State.mismatches (s : State) (n : StationId) (kind : StationKind) : State :=
  (s.updateStation n fun x =>
    { x with state := .rejected, rejection := some .mismatch, pages := [],
             send := { x.send with waiting := some (.rejected .mismatch) } }).post
      (.rejectedMismatch n kind (s.role n) (s.rolePlaces n))

/-- A complete attempt (R174). -/
def State.attemptComplete (s : State) (n : StationId) : State :=
  let s := s.updateStation n fun x => x.detailed x.pages
  let x := s.station n
  match x.kind, x.revision, x.serial with
  | some kind, some revision, some serial =>
    if fitsRole kind x.abilities (s.role n) then s.enrols n kind revision serial else s.mismatches n kind
  | _, _, _ => s

/-- A page is stored; the station is ENROLLING, and the attempt may be complete (R173). -/
def State.storePage (s : State) (n : StationId) (p : EnrolPage) : State :=
  let s := s.updateStation n fun x => { x with state := .enrolling, pages := x.pages ++ [p] }
  if pagesComplete (s.station n).pages then s.attemptComplete n else s

/-- The page number of a page: 0 for a base page. -/
def EnrolPage.number : EnrolPage → Nat
  | .base _ _ _ _ _ => 0
  | .next k _ _ => k

/-- A page bears the toggle of the last stored page (R173). -/
def Station.repeatsPage (x : Station) (p : EnrolPage) : Bool := x.pages.getLast?.any fun q => q.toggle == p.toggle

/-- A next page is numbered one above the last stored (R173). -/
def Station.followsPage (x : Station) (p : EnrolPage) : Bool := x.pages.getLast?.any fun q => p.number == q.number + 1

/-- A base page that breaks an attempt: the attempt fails, and unless that rejects the station the page begins the next (R173). -/
def State.breakAndStore (s : State) (n : StationId) (p : EnrolPage) : State :=
  let s := s.attemptFailed n
  if (s.station n).state = .rejected then s else s.storePage n p

/-- An ENROLLED station restarted: LOST with RESTARTED, then ALIVE with the base page stored (R175). -/
def State.stationRestarts (s : State) (n : StationId) (p : EnrolPage) : State :=
  ((s.enrolledLost n true).updateStation n Station.attempting).storePage n p

/-- A well-formed page, by the first line of R173 that applies; a page in SILENT or LOST has no attempt to join. -/
def State.pageArrives (s : State) (n : StationId) (p : EnrolPage) : State :=
  let x := s.station n
  match x.state, p with
  | .alive, .base _ _ _ _ _ => s.storePage n p
  | .alive, .next _ _ _ => s.attemptFailed n
  | .enrolling, .next _ _ _ =>
    if x.repeatsPage p then s else if x.followsPage p then s.storePage n p else s.attemptFailed n
  | .enrolling, .base _ _ _ _ _ => if x.repeatsPage p then s else s.breakAndStore n p
  | .enrolled, .base _ _ _ _ _ => s.stationRestarts n p
  | .enrolled, .next _ _ _ | .rejected, _ | .silent, _ | .lost, _ => s

/-! ## Role changes (R57, R176) -/

/-- A waiting result of REJECTED is removed (R176). -/
def dropRejection : Option EnrolResult → Option EnrolResult
  | some (.rejected _) => none
  | w => w

/-- The SMC is told that a station's role changed: a REJECTED station enters ALIVE with a new attempt (R176). -/
def State.roleChanged (s : State) (n : StationId) : State :=
  if (s.station n).state = .rejected then
    s.updateStation n fun x =>
      { x.attempting with failed := 0, rejection := none, send := { x.send with waiting := dropRejection x.send.waiting } }
  else s

/-! ## Upstream messages reach their owners (R167, R168) -/

/-- The oldest complete message of a station, when it is of this kind. -/
def Station.nextIs (x : Station) (k : UpKind) : Bool := x.complete.head?.any fun m => m.kind == k

/-- The oldest complete message of a station leaves. -/
def State.takeMessage (s : State) (n : StationId) : State :=
  s.updateStation n fun x => { x with complete := x.complete.tail }

/-- The body holds its kind's fields, each within its values. -/
def Body.read {α : Type} (b : Body α) (wellFormed : α → Bool) : Option α :=
  match b with
  | .misfit => none
  | .fits a => if wellFormed a then some a else none

/-- A complete message of a kind reaches its owner: a malformed body is discarded with BAD-MESSAGE (R168), else the
owner handles its fields. Without such a message at the front nothing happens (log entry 4). -/
def State.deliver {α : Type} (s : State) (n : StationId) (k : UpKind) (b : Body α) (wellFormed : α → Bool)
    (malformed : State → State) (handle : α → State → State) : State :=
  if (s.station n).nextIs k then
    match b.read wellFormed with
    | none => malformed ((s.takeMessage n).post (.badMessageKind n k))
    | some a => handle a (s.takeMessage n)
  else s

/-- A malformed ENROL-PAGE fails an open attempt (R168, R172). -/
def State.malformedPage (s : State) (n : StationId) : State :=
  if (s.station n).state.attempts then s.attemptFailed n else s

/-! ## Office requests (R170, R178) -/

/-- FORWARD (R170). -/
def forward (v : ForwardLoad) (s : State) : State × Reply :=
  match stationOf v.station with
  | none => refuse s .bad
  | some n =>
    if !validText v.text then refuse s .bad
    else if (s.station n).state ≠ .enrolled then refuse s .busy
    else if (s.station n).kind ≠ some .terminal then refuse s .bad
    else if (s.station n).forward.isSome then refuse s .busy
    else accept (s.updateStation n fun x => { x with forward := some v.text }) .none

/-- The name of a receive phase. -/
def ReceivePhase.name : ReceivePhase → ReceivePhaseName
  | .idle => .idle
  | .receiving _ => .receiving
  | .aborting => .aborting

/-- What READ-STATION shows of a station (R178). -/
def State.stationStatus (s : State) (n : StationId) : StationStatus :=
  let x := s.station n
  let y := s.slot n
  { state := x.state, rejection := x.rejection, kind := x.kind, abilities := x.abilities, revision := x.revision,
    serial := x.serial, failed := x.failed, taken := y.taken, near := y.near, far := y.far,
    periodErrors := y.periodErrors, degraded := y.degraded, threshold := y.threshold, wasLost := x.wasLost,
    wasDegraded := x.wasDegraded, receivePhase := x.receive.phase.name, sendPhase := x.send.phase,
    forwardHeld := x.forward.isSome, obstructions := (s.barrier n).map BarrierRecord.obstructions }

/-- What an accepted READ-STATION clears, and the threshold it carries, with 0 taken as 1 (R152, R178). -/
def State.clearStation (s : State) (n : StationId) (threshold : Option Nat) : State :=
  let s := s.updateSlot n fun y =>
    { y with near := 0, far := 0, threshold := match threshold with
      | none => y.threshold
      | some t => max 1 t }
  let s := s.updateStation n fun x => { x with wasLost := false, wasDegraded := false }
  s.setBarrier n ((s.barrier n).map fun b => { b with obstructions := 0 })

/-- READ-STATION (R178). -/
def readStation (v : StationLoad) (s : State) : State × Reply :=
  match stationOf v.station with
  | none => refuse s .bad
  | some n =>
    if v.threshold.any fun t => decide (t > 255) then refuse s .bad
    else accept (s.clearStation n v.threshold) (.station (s.stationStatus n))

end Sys2Proof.Machine
end

