-- ==== Sys2Proof/Machine/Tables.lean ====
section
/-! DEFINITION. Chapter 3, Vehicle, Category and Lane Tables: the loads, drops and reads, the role and sharing checks, what an accepted load does to roles, barriers and command codes; and LOAD-DECK. -/

namespace Sys2Proof.Machine

/-! ## Vehicle table (R43, R44, R46) -/

/-- The table with a record put in: in the place of the record with its ident, or in a free place (R43). -/
def putVehicle (v : VehicleRecord) (xs : List VehicleRecord) : List VehicleRecord :=
  if xs.any fun x => x.ident == v.ident then xs.map fun x => if x.ident = v.ident then v else x else xs ++ [v]

/-- LOAD-VEHICLE (R43). -/
def loadVehicle (v : VehicleLoad) (s : State) : State × Reply :=
  match vehicleRecord v with
  | none => refuse s .bad
  | some r =>
    if (s.lookup r.ident).isNone ∧ Config.vehicleCapacity ≤ s.vehicles.length then refuse s .full
    else
      let t := { s with vehicles := putVehicle r s.vehicles }
      accept t (.vehicleCount t.vehicles.length)

/-- DROP-VEHICLE (R44). -/
def dropVehicle (ident : Text) (s : State) : State × Reply :=
  if !validIdent ident || (s.lookup ident).isNone then refuse s .bad
  else
    let t := { s with vehicles := s.vehicles.filter fun x => x.ident != ident }
    accept t (.vehicleCount t.vehicles.length)

/-- READ-VEHICLE (R44). -/
def readVehicle (ident : Text) (s : State) : State × Reply :=
  match s.lookup ident with
  | none => refuse s .bad
  | some v => accept s (.vehicle v s.vehicles.length)

/-- A stored-tare update on the record with its ident, when there is one (R46). -/
def applyTareUpdate (u : TareUpdate) (xs : List VehicleRecord) : List VehicleRecord :=
  xs.map fun v => if v.ident = u.ident then { v with storedTare := some u.kg.toNat, tareStamp := u.stamp } else v

/-- The oldest stored-tare update asked for reaches the Table Store (R46, R93). -/
def State.updateTare (s : State) : State :=
  match s.tareUpdates with
  | [] => s
  | u :: rest => { s with vehicles := applyTareUpdate u s.vehicles, tareUpdates := rest }

/-! ## Category table (R47) -/

/-- LOAD-CATEGORY (R47). -/
def loadCategory (v : CategoryLoad) (s : State) : State × Reply :=
  match categoryOf v.number, v.enabled, v.inspect with
  | some c, some enabled, some inspect =>
    if validCode v.code then accept (s.setCategory c { code := some v.code, enabled := enabled, inspect := inspect }) .none
    else refuse s .bad
  | _, _, _ => refuse s .bad

/-! ## Lane checks (R50–R53) -/

/-- The stations a lane record names. -/
def LaneRecord.stations (r : LaneRecord) : List StationId :=
  [r.entryBarrier, r.exitBarrier, r.terminal] ++ r.reader.toList

/-- Two lane records form a crosswise pair, their terminals and readers apart (R53). -/
def crosswise (a b : LaneRecord) : Bool :=
  a.deck == b.deck
    && ((a.direction == .inward && b.direction == .outward) || (a.direction == .outward && b.direction == .inward)
        || (a.direction == .both && b.direction == .both))
    && a.entryBarrier == b.exitBarrier && a.exitBarrier == b.entryBarrier

/-- Two lane records break no role check of R52 against each other: a shared barrier is allowed in a crosswise pair
alone, and no terminal or reader is shared with anything. -/
def lanesCompatible (a b : LaneRecord) : Bool :=
  let own (r : LaneRecord) : List StationId := r.terminal :: r.reader.toList
  let barriers (r : LaneRecord) : List StationId := [r.entryBarrier, r.exitBarrier]
  (own a).all (fun n => !b.names n) && (own b).all (fun n => !a.names n)
    && (crosswise a b || (barriers a).all fun n => !b.namesBarrier n)

/-- An ENROLLED station has the kind and the ability its role in this state requires (R52). -/
def State.enrolledFits (s : State) (n : StationId) : Bool :=
  !s.enrolled n || (s.station n).kind.any fun k => fitsRole k (s.station n).abilities (s.role n)

/-- The lane records other than this lane's. -/
def State.otherLanes (s : State) (l : LaneId) : List LaneRecord :=
  (allLanes.filter (· != l)).filterMap s.laneRecord

/-- The role checks of R52 for a lane's new record, over the state with the record in place. -/
def State.laneRolesPass (s : State) (l : LaneId) (r : LaneRecord) : Bool :=
  (s.otherLanes l).all (lanesCompatible r)
    && r.stations.all (fun n => (s.deckOfDigitizer n).isNone)
    && r.stations.all (s.setLaneRecord l (some r)).enrolledFits

/-- The lane has an ident source: a reader, or a terminal that has CARD-READER or is not ENROLLED (R51). -/
def State.identSource (s : State) (r : LaneRecord) : Bool :=
  r.reader.isSome || !s.enrolled r.terminal || (s.station r.terminal).abilities.cardReader

/-- The deck sharing checks of R53. -/
def State.sharingPasses (s : State) (l : LaneId) (r : LaneRecord) : Bool :=
  let sharers := (s.otherLanes l).filter fun x => x.deck == r.deck
  sharers.length ≤ 1 && sharers.all (crosswise r)

/-! ## What a load does to roles (R54, R57) -/

/-- A role as R57 compares it: for a barrier, a digitizer and a reader the kind alone; for a terminal also the
ability required. -/
def rolesDiffer (a b : Option Role) : Bool := a != b

/-- Every station whose role kind or requirement changed between two states is reported to the SMC, in slot order (R57). -/
def reportRoles (before : State) (s : State) : State :=
  forEach allStations (fun n t => if rolesDiffer (before.role n) (s.role n) then t.roleChanged n else t) s

/-- The barrier records after a load: a station that gained its first barrier role has a new record, one that lost its
last has none, every other keeps its own (R54, R103). -/
def State.syncBarriers (s : State) : State :=
  forEach allStations (fun n t =>
    match t.role n, t.barrier n with
    | some .barrier, none => t.putBarrier n (newBarrier (t.smallestLimit n))
    | some .barrier, some _ => t
    | _, some _ => t.setBarrier n none
    | _, none => t) s

/-- A slot whose station lost its last role holds NONE (R54, R147). -/
def clearLostRoles (before : State) (s : State) : State :=
  forEach allStations (fun n t => if (before.role n).isSome ∧ (s.role n).isNone then t.setCommand n .none else t) s

/-- The station gained a role between two states: a deck or a lane names it in a role it did not name it in before, a second
barrier role of a shared barrier among them (R54, R145; DEDUCED, log entry 16). A barrier whose lane exchanges ENTRY and EXIT
gains the role it did not have: DESIGN CHOICE, R51 gives the two in one row (log entry 66). -/
def gainsRole (before after : State) (n : StationId) : Bool :=
  (after.rolePlaces n).any fun p => decide (p ∉ before.rolePlaces n)

/-- The taken code of each ENROLLED station that gained a role goes to the owner of the new role (R145, R176). Several stations
that gain one by one load are taken in slot order: DESIGN CHOICE, R54 and R145 give no order (log entry 46). -/
def handOnGains (before : State) (s : State) : State :=
  forEach allStations (fun n t => if gainsRole before s n ∧ s.enrolled n then t.handOnGained n else t) s

/-- What an accepted load does once the record stands: slots of stations with no role, the role reports, and the
codes of stations that gained a role (R54, R57, R145, R147, R176). -/
def settleRoles (before : State) (s : State) : State :=
  handOnGains before (reportRoles before (clearLostRoles before s))

/-! ## LOAD-LANE (R50) -/

/-- A terminal other than the one the lane had: the lane's queue is flushed with TERMINAL-LOST (R136). -/
def State.changeTerminal (s : State) (l : LaneId) (r : LaneRecord) : State :=
  match s.laneRecord l with
  | none => s
  | some old => if old.terminal = r.terminal then s else s.flushQueue l .terminalLost

/-- An accepted LOAD-LANE: the record stands, barrier records, command codes and roles follow (R50, R54, R57, R136). -/
def State.storeLane (s : State) (l : LaneId) (r : LaneRecord) : State :=
  let t := (s.changeTerminal l r).setLaneRecord l (some r)
  settleRoles s (t.syncBarriers.setLaneCodes l r)

/-- The stations of a record are all distinct (R50). -/
def LaneRecord.distinct (r : LaneRecord) : Bool := decide r.stations.Nodup

/-- LOAD-LANE, by the first line of R50 that applies. -/
def loadLane (v : LaneLoadRequest) (s : State) : State × Reply :=
  match laneOf v.lane, laneRecordOf v.record with
  | some l, some r =>
    if (s.lane l).state ≠ .closed then refuse s .busy
    else if !r.distinct || !s.laneRolesPass l r || !s.identSource r || !s.sharingPasses l r then refuse s .bad
    else accept (s.storeLane l r) (.laneRecord r)
  | _, _ => refuse s .bad

/-! ## LOAD-DECK (R32, R56) -/

/-- The engine as an accepted LOAD-DECK restarts it: record, zero state, window, occupancy, profile, counts (R23, R24, R32). -/
def DeckEngine.loaded (e : DeckEngine) (r : DeckRecord) (excited : Bool) : DeckEngine :=
  let e := { e with record := some r, zeros := some { refZero := r.refZero, captured := r.refZero, tracked := r.refZero },
                    zeroLimit := false }
  { (e.windowCleared excited) with
    occupancy := .empty, profile := .nominal, span := 0, sample := 0, streamCount := 0, trackingCount := 0 }

/-- A deck record is put in place. -/
def State.setDeckRecord (s : State) (d : DeckId) (r : DeckRecord) : State :=
  s.setDeck d { s.deck d with record := some r }

/-- An accepted LOAD-DECK: the engine is restarted under the record, the deck enters CAPTURING or WAITING by its
digitizer, and roles follow (R32, R56, R57). -/
def State.storeDeck (s : State) (d : DeckId) (r : DeckRecord) : State :=
  let t := s.setDeckRecord d r
  let t := t.setDeck d ((t.deck d).loaded r (t.excited d))
  let t := t.enterDeckState d (if t.enrolled r.digitizer then .capturing else .waiting)
  settleRoles s (t.deckTold d)

/-- The role checks of R52 for a deck's new digitizer. -/
def State.deckRolesPass (s : State) (d : DeckId) (r : DeckRecord) : Bool :=
  (s.lanesWhere fun x => x.names r.digitizer).isEmpty
    && (allDecks.filter (· != d)).all (fun e => (s.deck e).record.all fun x => x.digitizer != r.digitizer)
    && (s.setDeckRecord d r).enrolledFits r.digitizer

/-- LOAD-DECK, by the first line of R56 that applies. -/
def loadDeck (v : DeckLoadRequest) (s : State) : State × Reply :=
  match deckOf v.deck, deckRecordOf v.record with
  | some d, some r =>
    if s.deckHeld d then refuse s .busy
    else if !s.deckRolesPass d r then refuse s .bad
    else accept (s.storeDeck d r) (.deckRecord r)
  | _, _ => refuse s .bad

end Sys2Proof.Machine
end

