-- ==== Sys2Proof/Machine/Loop.lean ====
section
/-! DEFINITION. Chapter 8, The Yard Loop: judged upstream slots, presence, code taking, error accounting, the downstream frame and the timers that count frames. -/

namespace Sys2Proof.Machine

/-! ## Slot presence (R142, R143) -/

/-- A good slot in the runs (R142). -/
def LoopSlot.ranGood (x : LoopSlot) : LoopSlot := { x with goodRun := countUp Config.aliveRun x.goodRun, badRun := 0 }

/-- A bad or missing slot in the runs, in the pair of codes and in the superframe (R142, R144, R149). -/
def LoopSlot.ranBad (x : LoopSlot) : LoopSlot :=
  { x with goodRun := 0, badRun := countUp Config.silentRun x.badRun, lastCode := none, nearHit := true }

/-- The good run of a SILENT slot has reached 3. -/
def LoopSlot.aliveDue (x : LoopSlot) : Bool := !x.alive && x.goodRun == Config.aliveRun

/-- The bad run of an ALIVE slot has reached 6. -/
def LoopSlot.silentDue (x : LoopSlot) : Bool := x.alive && x.badRun == Config.silentRun

/-- A slot whose good run reached 3 becomes ALIVE and the SMC is told (R142). -/
def State.slotAlive (s : State) (n : StationId) : State :=
  if (s.slot n).aliveDue then (s.updateSlot n fun x => { x with alive := true }).stationAlive n else s

/-- A slot whose bad run reached 6 becomes SILENT, its taken code absent, and the SMC is told (R142, R143). -/
def State.slotSilent (s : State) (n : StationId) : State :=
  if (s.slot n).silentDue then
    (s.updateSlot n fun x => { x with alive := false, taken := none, lastCode := none }).stationSilent n
  else s

/-! ## Code taking (R144–R146) -/

/-- A good record completes a pair of a value that is not the taken code (R144). -/
def LoopSlot.takesCode (x : LoopSlot) (c : Code) : Bool := x.lastCode == some c && x.taken != some c

/-- The status code of a good record: the pair, the taking, and the hand-on for an ENROLLED station (R144–R146). -/
def State.takeCode (s : State) (n : StationId) (c : Code) : State :=
  let x := s.slot n
  let takes := x.takesCode c
  let s := s.setSlot n { x with lastCode := some c, taken := if takes then some c else x.taken }
  if takes ∧ s.enrolled n then (s.judgeCode n c).handOn n x.taken c else s

/-! ## Upstream slots (R139, R140) -/

/-- The sample group of a good frame-0 record goes to the deck that names the station, and its lanes see the record (R1, R140). -/
def State.handGroup (s : State) (n : StationId) (g : Option SampleGroup) : State :=
  match g, s.deckOfDigitizer n with
  | some g, some d => (s.deckGroup d g).deckTold d
  | _, _ => s

/-- A good record in the order of R140, then the presence of the slot (R142). Within the message fields of step 3 the receive
channel takes its unit before the send channel takes the answer, so BAD-MESSAGE stands before MESSAGE-DROPPED of the same
record: DESIGN CHOICE, R140 gives the two no order (log entry 61). -/
def State.goodSlot (s : State) (n : StationId) (r : UpRecord) : State :=
  let s := s.takeCode n r.code
  let s := s.updateSlot n fun x => { x with farHit := x.farHit || r.echo }
  let s := (s.receiveFrame n (some r.unit)).sendFrame n (some r.answer)
  let s := s.handGroup n r.group
  (s.updateSlot n LoopSlot.ranGood).slotAlive n

/-- A bad or missing slot (R139, R142, R149). -/
def State.badSlot (s : State) (n : StationId) : State :=
  let s := s.updateSlot n LoopSlot.ranBad
  ((s.receiveFrame n none).sendFrame n none).slotSilent n

/-- A judged slot is handled; the slot of the frame in hand is no longer awaited. -/
def State.judgedSlot (s : State) (n : StationId) (o : SlotOutcome) : State :=
  let s := s.updateSlot n fun x => { x with awaited := false }
  match o with
  | .good r => s.goodSlot n r
  | .missing | .bad => s.badSlot n

/-- The bytes that arrived at a slot's place are judged, once for the frame in hand (R139). -/
def State.upstreamSlot (s : State) (n : StationId) (arrived : List Byte) : State :=
  match s.frameInHand with
  | none => s
  | some f => if (s.slot n).awaited then s.judgedSlot n (judgeSlot n f arrived) else s

/-! ## Error accounting (R149–R151) -/

/-- The superframe is errored at the near end for the slot (R149). -/
def LoopSlot.nearErrored (x : LoopSlot) : Bool := x.aliveAtStart && x.nearHit

/-- The superframe is errored at the far end for the slot (R150). -/
def LoopSlot.farErrored (x : LoopSlot) : Bool := x.aliveAtStart && x.farHit

/-- The counters and the echo flag of a slot after a superframe; the hits of the superframe are cleared (R149–R151). -/
def LoopSlot.accounted (x : LoopSlot) : LoopSlot :=
  { x with
    near := if x.nearErrored then countUp Config.counterTop x.near else x.near
    far := if x.farErrored then countUp Config.counterTop x.far else x.far
    echo := x.nearErrored
    periodErrors := if x.nearErrored || x.farErrored then countUp Config.period x.periodErrors else x.periodErrors
    nearHit := false
    farHit := false }

/-- A rise of the period errored count sets DEGRADED (R151). -/
def LoopSlot.degrades (x : LoopSlot) : Bool :=
  (x.nearErrored || x.farErrored) && !x.degraded && decide (x.threshold ≤ x.accounted.periodErrors)

/-- One station at the end of a superframe, with the DEGRADED report (R149–R151, R171). -/
def State.accountSlot (s : State) (n : StationId) : State :=
  let x := s.slot n
  let y := x.accounted
  if x.degrades then
    ((s.setSlot n { y with degraded := true }).updateStation n fun z => { z with wasDegraded := true }).post
      (.degraded n y.periodErrors y.near y.far y.threshold)
  else s.setSlot n y

/-- The superframe of the frame in hand has ended, its last slots judged (R149). -/
def State.superframeEnded (s : State) : Bool := s.superframeDue && allStations.all fun n => !(s.slot n).awaited

/-- The end of a superframe: every station is accounted and the period count moves on (R149–R151). The stations are taken in
slot order, and so are their DEGRADED reports: DESIGN CHOICE, R151 gives no order (log entry 55). -/
def State.superframeEnd (s : State) : State :=
  if s.superframeEnded then
    let s := forEach allStations (fun n t => t.accountSlot n) s
    if s.periodCount + 1 < Config.period then { s with periodCount := s.periodCount + 1, superframeDue := false }
    else { s with periodCount := 0, superframeDue := false, periodDue := true }
  else s

/-- One station at the end of a period: DEGRADED is cleared below the threshold, and the count returns to 0 (R151). -/
def State.judgePeriod (s : State) (n : StationId) : State :=
  let x := s.slot n
  if x.degraded ∧ x.periodErrors < x.threshold then
    (s.setSlot n { x with degraded := false, periodErrors := 0 }).post (.degradeCleared n)
  else s.setSlot n { x with periodErrors := 0 }

/-- The end of a period, after the accounting of its last superframe (R151). The DEGRADE-CLEARED reports of several stations
are posted in slot order: DESIGN CHOICE (log entry 55). -/
def State.periodEnd (s : State) : State :=
  if s.periodDue then { forEach allStations (fun n t => t.judgePeriod n) s with periodDue := false } else s

/-! ## The yard clock (R187) -/

/-- The frame count reached 1,000: it returns to 0 and the seconds count rises, wrapping at its top (R187). -/
def YardClock.secondEnds (c : YardClock) : YardClock :=
  if c.set ∧ Config.second ≤ c.frames then
    { c with frames := 0, seconds := if c.seconds = Config.wordTop then 0 else c.seconds + 1 }
  else c

/-- A loop frame is sent: the frame count of a clock that is set rises by one (R187). -/
def YardClock.frameSent (c : YardClock) : YardClock := if c.set then { c with frames := c.frames + 1 } else c

/-! ## Timers that count frames -/

/-- A lane timer and the age of the last read after a frame (R59, R65). -/
def LaneContext.ticked (c : LaneContext) : LaneContext :=
  { c with
    timer := c.timer.map fun t => { t with elapsed := countUp t.limit t.elapsed }
    lastRead := c.lastRead.map fun p => (p.1, countUp Config.repeatFrames p.2) }

/-- The rest idle timer after a frame; 255 s is the longest rest idle time (R34). -/
def DeckEngine.ticked (e : DeckEngine) : DeckEngine :=
  { e with restIdle := e.restIdle.map (countUp (255 * Config.second)) }

/-- The motion timer after a frame (R109). -/
def BarrierRecord.ticked (b : BarrierRecord) : BarrierRecord :=
  { b with timer := b.timer.map (countUp (b.limit * Config.second)) }

/-- The print-outcome wait after a frame (R129). -/
def TicketQueue.ticked (q : TicketQueue) : TicketQueue :=
  match q.phase with
  | .awaitOutcome f => { q with phase := .awaitOutcome (countUp Config.outcomeWait f) }
  | .waiting | .sending | .held => q

/-- The send channel after a record has been shown: unit timer or gap count, and the records in a row that showed NONE (R164, R165). -/
def SendChannel.shown (c : SendChannel) : SendChannel :=
  match c.phase with
  | .sending => { c with timer := countUp Config.unitTimer c.timer, noneShown := 0 }
  | .gap => { c with gap := countUp Config.gapRecords c.gap, noneShown := countUp 2 c.noneShown }
  | .idle => { c with noneShown := countUp 2 c.noneShown }

/-- A station entry after a frame: its send channel and its attempt window (R164, R165, R172). -/
def Station.ticked (x : Station) : Station :=
  { x with send := x.send.shown, window := if x.state.attempts then countUp Config.attemptWindow x.window else x.window }

/-- A slot as a frame is sent: its upstream slot is awaited, and frame 0 notes whether it is ALIVE (R139, R149). -/
def LoopSlot.framed (x : LoopSlot) (frame : Nat) : LoopSlot :=
  { x with awaited := true, aliveAtStart := if frame = 0 then x.alive else x.aliveAtStart }

/-! ## What has fallen due (log entry 6) -/

/-- A rest idle timer that has ended makes its rest attempt (R34, R35). -/
def State.restAttempt (s : State) (d : DeckId) : State :=
  if (s.deck d).restDue then (s.attemptRest d).deckTold d else s

/-- Slots of the frame in hand that brought nothing are missing (R139). -/
def State.missSlots (s : State) : State :=
  match s.frameInHand with
  | none => s
  | some _ => forEach allStations (fun n t => if (t.slot n).awaited then t.judgedSlot n .missing else t) s

/-- The stored-tare updates asked for are made in turn (R46). -/
def State.updateTares (s : State) : State := forEach s.tareUpdates (fun _ t => t.updateTare) s

/-- What has fallen due at one station and has not been handled (R109, R163, R165, R172). -/
def State.stationDue (s : State) (n : StationId) : State :=
  ((((s.receiveEnds n).unitTimerEnds n).gapEnds n).windowEnds n).motionExpires n

/-- What has fallen due at one lane and has not been handled (R64, R68, R74, R75, R134). -/
def State.laneDue (s : State) (l : LaneId) : State :=
  ((((s.identWaitEnds l).referralEnds l).entryEnds l).weighEnds l).endOutcomeWait l

/-- Every event of the frame in hand that has fallen due and was not commanded is handled before the next frame: the yard
resets handed over and not yet taken (R189), the slots, the superframe and the period, the clock, the timers of stations,
lanes and decks, the stored-tare updates, and the start of messages. Their order is the model's own (log entry 6). -/
def State.settleDue (s : State) : State :=
  let s := s.takeResets.missSlots.superframeEnd.periodEnd
  let s := { s with clock := s.clock.secondEnds }
  let s := forEach allStations (fun n t => t.stationDue n) s
  let s := forEach allLanes (fun l t => t.laneDue l) s
  let s := forEach allDecks (fun d t => t.restAttempt d) s
  forEach allStations (fun n t => t.sendStarts n) s.updateTares

/-! ## The downstream frame (R138, R155) -/

/-- The downstream record of one slot, from the state standing (R138). -/
def State.recordOf (s : State) (n : StationId) : List Byte :=
  downstreamRecord n (s.slot n).command (s.slot n).echo (s.station n).send.shows (s.station n).receive.answer

/-- The 99 bytes of a downstream frame (R138, R155). -/
def State.frameBytes (s : State) : List Byte :=
  syncWord s.nextFrame ++ [BitVec.ofNat 8 s.nextFrame] ++ allStations.flatMap s.recordOf

/-- A frame has been sent: its number, its upstream slots awaited, and every timer that counts frames. -/
def State.framePassed (s : State) : State :=
  { s with
    sentFrame := s.frameBytes
    frameInHand := some s.nextFrame
    superframeDue := s.nextFrame == 7
    nextFrame := (s.nextFrame + 1) % 8
    slots := s.slots.map fun x => x.framed s.nextFrame
    stations := s.stations.map Station.ticked
    barriers := s.barriers.map (Option.map BarrierRecord.ticked)
    lanes := s.lanes.map LaneContext.ticked
    decks := s.decks.map DeckEngine.ticked
    queues := s.queues.map TicketQueue.ticked
    clock := s.clock.frameSent }

/-- The Loop Port sends a downstream frame (R138). -/
def State.downstreamFrame (s : State) : State := s.settleDue.framePassed

end Sys2Proof.Machine
end

