-- ==== Sys2Proof/Machine/Office.lean ====
section
/-! DEFINITION. Chapter 10, The Office Line: the receiver, the request buffer and the refusal list, the transmitter, the requests the Office Line Port answers itself, and power-on reset. -/

namespace Sys2Proof.Machine

/-! ## The receiver and the request buffer (R180, R181) -/

/-- The request a frame names: its request number, FORWARD, or 0 for an empty REQUEST body (R184). -/
def requestName (kind : RequestKind) (body : List Byte) : RequestName :=
  match kind with
  | .forward => .forward
  | .request => .number (body.head?.getD 0)

/-- The name of a request of the buffer. -/
def Request.name (r : Request) : RequestName := requestName r.kind r.body

/-- A request arrives: it joins the buffer, or the refusal list, or is dropped when both are full (R181). -/
def State.arrive (s : State) (kind : RequestKind) (tag : Byte) (body : List Byte) : State :=
  if s.buffer.length < Config.requestCapacity then
    { s with buffer := s.buffer ++ [{ kind := kind, tag := tag, body := body, reply := none }] }
  else if s.refusals.length < Config.requestCapacity then
    { s with refusals := s.refusals ++ [{ tag := tag, name := requestName kind body }] }
  else s

/-- The request a whole frame after its start byte holds: none when its check is wrong or its kind is no request (R159, R180). -/
def frameRequest (bytes : List Byte) : Option (RequestKind × Byte × List Byte) :=
  match bytes with
  | hi :: lo :: kind :: tag :: _ =>
    let n := officeLength hi lo
    let covered := bytes.take (n + 2)
    match bytes[n + 2]?, bytes[n + 3]?, requestKindOf kind with
    | some a, some b, some k =>
      if (a ++ b : BitVec 16) = officeCheck covered then some (k, tag, covered.drop 4) else none
    | _, _, _ => none
  | _ => none

/-- Bytes after the start byte that the frame being received holds in all, once its length is in; a length below 2 or
above 1,026 is none (R159, R180). -/
def frameSize (bytes : List Byte) : Option Nat :=
  match bytes with
  | hi :: lo :: _ => if inRange 2 1026 (officeLength hi lo) then some (officeLength hi lo + 4) else none
  | _ => none

/-- The receiver takes one byte (R180). -/
def State.receiveByte (s : State) (b : Byte) : State :=
  match s.receiver with
  | none => if b = startByte then { s with receiver := some [] } else s
  | some taken =>
    let bytes := taken ++ [b]
    if bytes.length < 2 then { s with receiver := some bytes }
    else match frameSize bytes with
      | none => { s with receiver := none }
      | some size =>
        if bytes.length < size then { s with receiver := some bytes }
        else
          match frameRequest bytes with
          | none => { s with receiver := none }
          | some (kind, tag, body) => { s with receiver := none }.arrive kind tag body

/-- The receiver takes bytes with no gap between them (R180). -/
def State.receiveBytes (s : State) (bytes : List Byte) : State := forEach bytes (fun b t => t.receiveByte b) s

/-- A gap of more than 2 byte times discards the frame being received (R180). -/
def State.byteGap (s : State) : State := { s with receiver := none }

/-! ## Requests of no owner (R182) -/

/-- The head request is an unhandled REQUEST with an empty body or a number that is not in the table of R183, and no yard
reset before it is still to be taken. -/
def State.owesUnknown (s : State) : Bool :=
  match s.buffer with
  | [] => false
  | r :: _ => s.resetsTaken && r.kind == .request && r.reply.isNone && !(r.body.head?.any fun b => inRange 1 31 b.toNat)

/-- The Office Line Port answers UNKNOWN (R182). -/
def State.answerUnknown (s : State) : State := if s.owesUnknown then s.giveReply (.plain .unknown) else s

/-! ## The frames the IC sends (R159, R184, R185) -/

/-- The byte or bytes by which a reply names its request: the number, 0 for an empty body, or those of FORWARD (R184). -/
def RequestName.bytes : RequestName → List Byte
  | .number n => [n]
  | .forward => Config.forwardNameBytes

/-- The bytes of the data a reply carries; a reply with none carries no byte (R184). -/
def ReplyData.bytes : ReplyData → List Byte
  | .none => []
  | d => Config.replyDataBytes d

/-- The body of a reply: the code, the request named, the data (R184). -/
def replyBody (name : RequestName) (y : Reply) : List Byte := Config.replyCodeBytes y.code ++ name.bytes ++ y.data.bytes

/-- The kind byte of a frame the IC sends: 0x52 REPLY, 0x53 REPORT (R159, R184). -/
def OutFrame.kind : OutFrame → Byte
  | .refusal _ _ | .reply _ _ _ => 0x52
  | .report _ _ _ => 0x53

/-- The tag of a frame the IC sends: that of the request it answers, 0 for a report (R184). -/
def OutFrame.tag : OutFrame → Byte
  | .refusal t _ | .reply t _ _ => t
  | .report _ _ _ => 0

/-- The body of a frame the IC sends: that of a BUSY reply with no data for a refusal, of the reply, or of the report. Its
bytes past the 1,024 a frame can hold are not sent, DESIGN CHOICE, the manual gives no body layout (log entry 42). -/
def OutFrame.body (f : OutFrame) : List Byte :=
  (match f with
    | .refusal _ name => replyBody name (.plain .busy)
    | .reply _ name y => replyBody name y
    | .report r overrun dropped => Config.reportBody r overrun dropped).take Config.frameBodyLimit

/-- The bytes of a frame the IC sends (R159). -/
def OutFrame.bytes (f : OutFrame) : List Byte := officeFrameBytes f.kind f.tag f.body

/-! ## The transmitter (R184, R185) -/

/-- The frame the transmitter starts on a free line: the oldest refusal, else the reply of the head request once it
is given, else the head of the report queue (R184). -/
def State.nextFrameOut (s : State) : Option OutFrame :=
  match s.refusals with
  | x :: _ => some (.refusal x.tag x.name)
  | [] =>
    match s.buffer.head?.bind fun r => r.reply.map fun y => OutFrame.reply r.tag r.name y with
    | some f => some f
    | none => s.reports.head?.map fun r => .report r s.overrun s.dropped

/-- A frame starts on the line; a report that starts to be sent takes the overrun note and the dropped count with it
(R184, R185). -/
def State.startFrame (s : State) (f : OutFrame) : State :=
  let s := { s with line := some f, sentOffice := f.bytes }
  match f with
  | .report _ _ _ => { s with overrun := false, dropped := 0 }
  | .refusal _ _ | .reply _ _ _ => s

/-- The transmitter starts a frame when the line is free and one waits (R184). -/
def State.transmitStart (s : State) : State :=
  match s.line, s.nextFrameOut with
  | none, some f => s.startFrame f
  | _, _ => s

/-- The last byte of the frame being sent has gone: the line is free and what was sent leaves (R181, R184, R185). -/
def State.frameSent (s : State) : State :=
  match s.line with
  | none => s
  | some (.refusal _ _) => { s with line := none, refusals := s.refusals.tail }
  | some (.reply _ _ _) => { s with line := none, buffer := s.buffer.tail }
  | some (.report _ _ _) => { s with line := none, reports := s.reports.tail }

/-! ## Requests of the Office Line Port (R187–R189) -/

/-- SET-CLOCK (R187). -/
def setClock (seconds : Nat) (s : State) : State × Reply :=
  if seconds ≤ Config.wordTop then
    accept { s with clock := { set := true, seconds := seconds, frames := 0 } } (.clock s.now seconds)
  else refuse s .bad

/-- IDENTIFY (R188). -/
def identify (s : State) : State × Reply :=
  if s.headBodyBare then
    accept s (.identity "WILBERGAN".toList "ISPOMAR".toList "YL-4220".toList 1 s.rate s.now)
  else refuse s .bad

/-- The reports a YARD-RESET leaves: the one being sent, which is finished and then leaves (R189). -/
def State.reportsKept (s : State) : List Report :=
  match s.line with
  | some (.report _ _ _) => s.reports.take 1
  | _ => []

/-- The yard reset handed to each block that acts on it (R189). -/
def ResetsDue.all : ResetsDue :=
  { decks := Vector.replicate 4 true, lanes := true, visits := true, barriers := true, tickets := true }

/-- The Office Line Port's own part of the yard reset (R189, R190). It clears the report queue before any block takes the
reset, so the reports the blocks post on it are kept: DESIGN CHOICE, R102 and R189 leave the order open (log entry 51). -/
def State.resetOffice (s : State) : State :=
  { s with reports := s.reportsKept, overrun := false, dropped := 0, resetsDue := .all }

/-- YARD-RESET (R189). -/
def yardReset (s : State) : State × Reply :=
  if s.headBodyBare then
    accept s.resetOffice (.yardReset (s.reports.length - s.reportsKept.length) s.dropped)
  else refuse s .bad

/-! ## Power-on reset (R190) -/

/-- The office line rate the RATE pins select (00_scope.md, section 9). -/
def lineRateOf (rate1 rate0 : Bool) : LineRate :=
  match rate1, rate0 with
  | false, false => .b115200
  | false, true => .b230400
  | true, false => .b460800
  | true, true => .b921600

/-- RSTN is released: every block starts from its power-on state, the line rate from the pins; the model's command
queue is no part of the block and stays (R190, log entry 2). -/
def State.powerOn (s : State) (rate1 rate0 : Bool) : State :=
  { State.reset with rate := lineRateOf rate1 rate0, pending := s.pending }

end Sys2Proof.Machine
end

