-- ==== Sys2Proof/Machine/FieldCommands.lean ====
section
/-! DEFINITION. The meanings of the commands of the field, of time, of the office line's bytes and of the yard reset as each block takes it. -/

namespace Sys2Proof.Machine

/-- The outcome of every command: the block goes on in a next state. -/
abbrev Step := Host.Outcome State Fault Refusal

/-- POWER_ON_RESET: every block starts from its power-on state, the line rate from the pins (R190). -/
def execPowerOnReset (rate1 rate0 : Bool) (s : State) : Step :=
  .next (s.powerOn rate1 rate0)

/-- DOWNSTREAM_FRAME: what has fallen due is handled, the frame is built from the state standing and sent, and the timers that count frames move on (R138, R155, log entry 6). -/
def execDownstreamFrame (s : State) : Step :=
  .next (s.downstreamFrame)

/-- CLOCK_SECOND: the frame count of a set clock that reached 1,000 returns to 0 and the seconds count rises (R187). -/
def execClockSecond (s : State) : Step :=
  .next ({ s with clock := s.clock.secondEnds })

/-- UPSTREAM_SLOT: the bytes at a slot's place in the frame in hand are judged and handled (R139, R140). -/
def execUpstreamSlot (slot : StationId) (arrived : List Byte) (s : State) : Step :=
  .next (s.upstreamSlot slot arrived)

/-- SLOT_ALIVE: a SILENT slot whose good run reached 3 becomes ALIVE, and enrolment starts (R142, R172). -/
def execSlotAlive (slot : StationId) (s : State) : Step :=
  .next (s.slotAlive slot)

/-- SLOT_SILENT: an ALIVE slot whose bad run reached 6 becomes SILENT, and the station is lost (R142, R143, R177). -/
def execSlotSilent (slot : StationId) (s : State) : Step :=
  .next (s.slotSilent slot)

/-- SUPERFRAME_END: the errored superframes of every station are counted (R149–R151). -/
def execSuperframeEnd (s : State) : Step :=
  .next (s.superframeEnd)

/-- PERIOD_END: every station is judged against its threshold and its count returns to 0 (R151). -/
def execPeriodEnd (s : State) : Step :=
  .next (s.periodEnd)

/-- TRANSIT_SPAN_END: the profile of a deck whose remaining span is 0 returns to NOMINAL, and its lanes see the record (R15, R18, R20). -/
def execTransitSpanEnd (deck : DeckId) (s : State) : Step :=
  .next (if (s.deck deck).spanEnded then (s.endSpan deck).deckTold deck else s)

/-- READING_STREAM: the stream count of an ACTIVE deck reached the interval, so READING is posted (R22). -/
def execReadingStream (deck : DeckId) (s : State) : Step :=
  .next (s.postStream deck)

/-- ZERO_FAIL: the capture count reached 1,250, so the deck enters FAULT and its lanes see it (R27, R73). -/
def execZeroFail (deck : DeckId) (s : State) : Step :=
  .next (if (s.deck deck).captureFailed then (s.failZero deck).deckTold deck else s)

/-- TRACKING_STEP: the tracking count reached 125, so T is moved (R29). -/
def execTrackingStep (deck : DeckId) (s : State) : Step :=
  .next (match (s.deck deck).record with
    | none => s
    | some r => if (s.deck deck).trackingDue then s.trackZero deck r else s)

/-- WAKING_COMPLETE: the window of a WAKING deck is filled, so it enters ACTIVE and the arbiter tests for a grant (R38, R40, R72). -/
def execWakingComplete (deck : DeckId) (s : State) : Step :=
  .next (if (s.deck deck).wakingDone then (s.completeWaking deck).deckTold deck else s)

/-- REST_ATTEMPT: the rest idle timer ended, so the deck tries to rest (R34, R35). -/
def execRestAttempt (deck : DeckId) (s : State) : Step :=
  .next (s.restAttempt deck)

/-- IDENT_WAIT_EXPIRY: REFERRED with NO-IDENT (R64). -/
def execIdentWaitExpiry (lane : LaneId) (s : State) : Step :=
  .next (s.identWaitEnds lane)

/-- REFERRAL_TIMEOUT: REFUSED, any reservation freed (R68). -/
def execReferralTimeout (lane : LaneId) (s : State) : Step :=
  .next (s.referralEnds lane)

/-- ENTRY_TIMEOUT: the entry is cancelled on an EMPTY deck, referred on an OCCUPIED one (R74). -/
def execEntryTimeout (lane : LaneId) (s : State) : Step :=
  .next (s.entryEnds lane)

/-- WEIGH_TIMEOUT: REFERRED with NO-STABLE (R75). -/
def execWeighTimeout (lane : LaneId) (s : State) : Step :=
  .next (s.weighEnds lane)

/-- IDENT_READ: the read reaches the lane that names its station, or becomes a NOTE (R65, R167). -/
def execIdentRead (station : StationId) (fields : Body IdentRead) (s : State) : Step :=
  .next (s.deliver station .identRead fields IdentRead.wellFormed id fun x t => t.identArrives station x)

/-- DECK_GRANT: the oldest claim on an ACTIVE deck that no lane holds is granted (R72, R73). -/
def execDeckGrant (deck : DeckId) (s : State) : Step :=
  .next (s.grantDeck deck)

/-- KEY_ENTRY: the key reaches the lane whose terminal sent it, or becomes a NOTE (R79, R167). -/
def execKeyEntry (station : StationId) (fields : Body KeyEntry) (s : State) : Step :=
  .next (s.deliver station .keyEntry fields KeyEntry.wellFormed id fun x t => t.keyArrives station x)

/-- STORED_TARE_UPDATE: the oldest update asked for reaches the Table Store (R46). -/
def execStoredTareUpdate (s : State) : Step :=
  .next (s.updateTare)

/-- MOTION_TIMEOUT: the motion timer reached its limit, so the barrier enters FAULT and tells its lanes (R80, R109). -/
def execMotionTimeout (station : StationId) (s : State) : Step :=
  .next (s.motionExpires station)

/-- RECEIVE_STALE: the stale count reached 64, so the partial message is discarded (R163). -/
def execReceiveStale (station : StationId) (s : State) : Step :=
  .next (s.receiveEnds station)

/-- STATION_NOTE: the text goes to the office in a NOTE (R167). -/
def execStationNote (station : StationId) (fields : Body Text) (s : State) : Step :=
  .next (s.deliver station .stationNote fields validText id fun x t => t.post (.noteText station x))

/-- SEND_START: a send channel whose start condition holds takes the first message offered (R164, R166). -/
def execSendStart (station : StationId) (s : State) : Step :=
  .next (s.sendStarts station)

/-- UNIT_TIMER_EXPIRY: the unit timer reached 32 frames, so the attempt fails (R165). -/
def execUnitTimerExpiry (station : StationId) (s : State) : Step :=
  .next (s.unitTimerEnds station)

/-- GAP_END: four records of the quiet gap have been shown, so the next attempt begins (R165). -/
def execGapEnd (station : StationId) (s : State) : Step :=
  .next (s.gapEnds station)

/-- ENROL_PAGE: the page is stored, discarded, or breaks the attempt; a malformed one fails an open attempt (R168, R172–R175). -/
def execEnrolPage (station : StationId) (fields : Body EnrolPage) (s : State) : Step :=
  .next (s.deliver station .enrolPage fields EnrolPage.wellFormed (fun t => t.malformedPage station)
    fun x t => t.pageArrives station x)

/-- ENROL_WINDOW_EXPIRY: the attempt window reached 2,000 frames, so the attempt fails (R172). -/
def execEnrolWindowExpiry (station : StationId) (s : State) : Step :=
  .next (s.windowEnds station)

/-- PRINT_OUTCOME: the outcome is matched to a head job, or becomes a NOTE (R131, R133). -/
def execPrintOutcome (station : StationId) (fields : Body PrintMessage) (s : State) : Step :=
  .next (s.deliver station .printOutcome fields PrintMessage.wellFormed id fun x t => t.printReported station x)

/-- OUTCOME_WAIT_EXPIRY: the head job leaves with NO-OUTCOME (R134). -/
def execOutcomeWaitExpiry (lane : LaneId) (s : State) : Step :=
  .next (s.endOutcomeWait lane)

/-- OFFICE_FRAME: bytes of the office line reach the receiver; a whole request is offered to the buffer (R180, R181). -/
def execOfficeFrame (bytes : List Byte) (s : State) : Step :=
  .next (s.receiveBytes bytes)

/-- OFFICE_BYTE_GAP: the frame being received is discarded (R180). -/
def execOfficeByteGap (s : State) : Step :=
  .next (s.byteGap)

/-- UNKNOWN_REQUEST: a REQUEST of no number in the table is answered UNKNOWN (R182). -/
def execUnknownRequest (s : State) : Step :=
  .next (s.answerUnknown)

/-- TRANSMIT_START: a free line starts the first frame waiting (R184). -/
def execTransmitStart (s : State) : Step :=
  .next (s.transmitStart)

/-- OFFICE_FRAME_SENT: the line is free, and what was sent leaves its list, buffer or queue (R181, R184, R185). -/
def execOfficeFrameSent (s : State) : Step :=
  .next (s.frameSent)

/-- DECK_YARD_RESET (R23, R41). -/
def execDeckYardReset (deck : DeckId) (s : State) : Step :=
  .next (s.deckYardReset deck)

/-- LANE_YARD_RESET (R83). -/
def execLaneYardReset (s : State) : Step :=
  .next (s.laneYardReset)

/-- VISIT_YARD_RESET (R102). -/
def execVisitYardReset (s : State) : Step :=
  .next (s.visitYardReset)

/-- BARRIER_YARD_RESET (R122). -/
def execBarrierYardReset (s : State) : Step :=
  .next (s.barrierYardReset)

/-- TICKET_YARD_RESET (R137). -/
def execTicketYardReset (s : State) : Step :=
  .next (s.ticketYardReset)

end Sys2Proof.Machine
end

