-- ==== Sys2Proof/Machine/OfficeCommands.lean ====
section
/-! DEFINITION. The meanings of the office requests: each is the request of its number in the table of R183, handled by its owner when it is the head request and unhandled (R182). -/

namespace Sys2Proof.Machine

/-- LOAD_VEHICLE, request number 1 (R43, R183). -/
def execLoadVehicle (fields : Body VehicleLoad) (s : State) : Step :=
  .next (s.serve 1 (withBody fields loadVehicle))

/-- DROP_VEHICLE, request number 2 (R44, R183). -/
def execDropVehicle (fields : Body Text) (s : State) : Step :=
  .next (s.serve 2 (withBody fields dropVehicle))

/-- READ_VEHICLE, request number 3 (R44, R183). -/
def execReadVehicle (fields : Body Text) (s : State) : Step :=
  .next (s.serve 3 (withBody fields readVehicle))

/-- LOAD_CATEGORY, request number 4 (R47, R183). -/
def execLoadCategory (fields : Body CategoryLoad) (s : State) : Step :=
  .next (s.serve 4 (withBody fields loadCategory))

/-- LOAD_LANE, request number 5 (R50, R183). -/
def execLoadLane (fields : Body LaneLoadRequest) (s : State) : Step :=
  .next (s.serve 5 (withBody fields loadLane))

/-- ENABLE_LANE, request number 6 (R62, R183). -/
def execEnableLane (fields : Body Nat) (s : State) : Step :=
  .next (s.serve 6 (withBody fields enableLane))

/-- DISABLE_LANE, request number 7 (R82, R183). -/
def execDisableLane (fields : Body Nat) (s : State) : Step :=
  .next (s.serve 7 (withBody fields disableLane))

/-- RESUME_LANE, request number 8 (R81, R183). -/
def execResumeLane (fields : Body Nat) (s : State) : Step :=
  .next (s.serve 8 (withBody fields resumeLane))

/-- ADMIT, request number 9 (R69, R183). -/
def execAdmitLane (fields : Body AdmitLoad) (s : State) : Step :=
  .next (s.serve 9 (withBody fields admitLane))

/-- REFUSE, request number 10 (R70, R183). -/
def execRefuseLane (fields : Body Nat) (s : State) : Step :=
  .next (s.serve 10 (withBody fields refuseLane))

/-- RELEASE, request number 11 (R70, R183). -/
def execReleaseLane (fields : Body Nat) (s : State) : Step :=
  .next (s.serve 11 (withBody fields releaseLane))

/-- RETRY, request number 12 (R70, R183). -/
def execRetryLane (fields : Body Nat) (s : State) : Step :=
  .next (s.serve 12 (withBody fields retryLane))

/-- LOAD_DECK, request number 13 (R32, R56, R183). -/
def execLoadDeck (fields : Body DeckLoadRequest) (s : State) : Step :=
  .next (s.serve 13 (withBody fields loadDeck))

/-- ZERO_DECK, request number 14 (R30, R183). -/
def execZeroDeck (fields : Body Nat) (s : State) : Step :=
  .next (s.serve 14 (withBody fields zeroDeck))

/-- REST_DECK, request number 15 (R36, R183). -/
def execRestDeck (fields : Body Nat) (s : State) : Step :=
  .next (s.serve 15 (withBody fields restDeck))

/-- WAKE_DECK, request number 16 (R39, R183). -/
def execWakeDeck (fields : Body Nat) (s : State) : Step :=
  .next (s.serve 16 (withBody fields wakeDeck))

/-- STREAM_DECK, request number 17 (R22, R183). -/
def execStreamDeck (fields : Body StreamLoad) (s : State) : Step :=
  .next (s.serve 17 (withBody fields streamDeck))

/-- READ_DECK, request number 18 (R21, R183). -/
def execReadDeck (fields : Body Nat) (s : State) : Step :=
  .next (s.serve 18 (withBody fields readDeck))

/-- SET_TICKET_BASE, request number 19 (R124, R183). -/
def execSetTicketBase (fields : Body Nat) (s : State) : Step :=
  .next (s.serve 19 (withBody fields setTicketBase))

/-- READ_VISIT, request number 20 (R98, R183). -/
def execReadVisit (fields : Body Selector) (s : State) : Step :=
  .next (s.serve 20 (withBody fields readVisit))

/-- NEXT_CLOSED, request number 21 (R99, R183). -/
def execNextClosed (s : State) : Step :=
  .next (s.serve 21 nextClosed)

/-- CLEAR_VISIT, request number 22 (R100, R183). -/
def execClearVisit (fields : Body Selector) (s : State) : Step :=
  .next (s.serve 22 (withBody fields clearVisit))

/-- FORCE_CLOSE, request number 23 (R101, R183). -/
def execForceClose (fields : Body Selector) (s : State) : Step :=
  .next (s.serve 23 (withBody fields forceClose))

/-- BARRIER_ORDER, request number 24 (R115, R183). -/
def execBarrierOrder (fields : Body OrderLoad) (s : State) : Step :=
  .next (s.serve 24 (withBody fields barrierOrder))

/-- SET_BARRIER_MODE, request number 25 (R119, R183). -/
def execSetBarrierMode (fields : Body ModeLoad) (s : State) : Step :=
  .next (s.serve 25 (withBody fields setBarrierMode))

/-- RELEASE_STAGED, request number 26 (R117, R183). -/
def execReleaseStaged (fields : Body Nat) (s : State) : Step :=
  .next (s.serve 26 (withBody fields releaseStaged))

/-- GROUP_ORDER, request number 27 (R120, R183). -/
def execGroupOrder (fields : Body GroupLoad) (s : State) : Step :=
  .next (s.serve 27 (withBody fields groupOrder))

/-- READ_STATION, request number 28 (R178, R183). -/
def execReadStation (fields : Body StationLoad) (s : State) : Step :=
  .next (s.serve 28 (withBody fields readStation))

/-- SET_CLOCK, request number 29 (R187, R183). -/
def execSetClock (fields : Body Nat) (s : State) : Step :=
  .next (s.serve 29 (withBody fields setClock))

/-- YARD_RESET, request number 30 (R189, R183). -/
def execYardReset (s : State) : Step :=
  .next (s.serve 30 yardReset)

/-- IDENTIFY, request number 31 (R188, R183). -/
def execIdentify (s : State) : Step :=
  .next (s.serve 31 identify)

/-- FORWARD, a frame of kind FORWARD (R170, R182). -/
def execForward (fields : Body ForwardLoad) (s : State) : Step :=
  .next (if s.owesForward then (withBody fields forward s).1.giveReply (withBody fields forward s).2 else s)

end Sys2Proof.Machine
end

