-- ==== Sys2Proof/Machine/Dispatch.lean ====
section
/-! DEFINITION. The meaning of every command: one direct call for each constructor of Instr. -/

namespace Sys2Proof.Machine

def exec (i : Instr) (s : State) : Host.Outcome State Fault Refusal :=
  match i with
  | .powerOnReset rate1 rate0 => Sys2Proof.Machine.execPowerOnReset rate1 rate0 s
  | .downstreamFrame => Sys2Proof.Machine.execDownstreamFrame s
  | .clockSecond => Sys2Proof.Machine.execClockSecond s
  | .upstreamSlot slot arrived => Sys2Proof.Machine.execUpstreamSlot slot arrived s
  | .slotAlive slot => Sys2Proof.Machine.execSlotAlive slot s
  | .slotSilent slot => Sys2Proof.Machine.execSlotSilent slot s
  | .superframeEnd => Sys2Proof.Machine.execSuperframeEnd s
  | .periodEnd => Sys2Proof.Machine.execPeriodEnd s
  | .transitSpanEnd deck => Sys2Proof.Machine.execTransitSpanEnd deck s
  | .readingStream deck => Sys2Proof.Machine.execReadingStream deck s
  | .zeroFail deck => Sys2Proof.Machine.execZeroFail deck s
  | .trackingStep deck => Sys2Proof.Machine.execTrackingStep deck s
  | .wakingComplete deck => Sys2Proof.Machine.execWakingComplete deck s
  | .restAttempt deck => Sys2Proof.Machine.execRestAttempt deck s
  | .identWaitExpiry lane => Sys2Proof.Machine.execIdentWaitExpiry lane s
  | .referralTimeout lane => Sys2Proof.Machine.execReferralTimeout lane s
  | .entryTimeout lane => Sys2Proof.Machine.execEntryTimeout lane s
  | .weighTimeout lane => Sys2Proof.Machine.execWeighTimeout lane s
  | .identRead station fields => Sys2Proof.Machine.execIdentRead station fields s
  | .deckGrant deck => Sys2Proof.Machine.execDeckGrant deck s
  | .keyEntry station fields => Sys2Proof.Machine.execKeyEntry station fields s
  | .storedTareUpdate => Sys2Proof.Machine.execStoredTareUpdate s
  | .motionTimeout station => Sys2Proof.Machine.execMotionTimeout station s
  | .receiveStale station => Sys2Proof.Machine.execReceiveStale station s
  | .stationNote station fields => Sys2Proof.Machine.execStationNote station fields s
  | .sendStart station => Sys2Proof.Machine.execSendStart station s
  | .unitTimerExpiry station => Sys2Proof.Machine.execUnitTimerExpiry station s
  | .gapEnd station => Sys2Proof.Machine.execGapEnd station s
  | .enrolPage station fields => Sys2Proof.Machine.execEnrolPage station fields s
  | .enrolWindowExpiry station => Sys2Proof.Machine.execEnrolWindowExpiry station s
  | .printOutcome station fields => Sys2Proof.Machine.execPrintOutcome station fields s
  | .outcomeWaitExpiry lane => Sys2Proof.Machine.execOutcomeWaitExpiry lane s
  | .officeFrame bytes => Sys2Proof.Machine.execOfficeFrame bytes s
  | .officeByteGap => Sys2Proof.Machine.execOfficeByteGap s
  | .unknownRequest => Sys2Proof.Machine.execUnknownRequest s
  | .transmitStart => Sys2Proof.Machine.execTransmitStart s
  | .officeFrameSent => Sys2Proof.Machine.execOfficeFrameSent s
  | .loadVehicle fields => Sys2Proof.Machine.execLoadVehicle fields s
  | .dropVehicle fields => Sys2Proof.Machine.execDropVehicle fields s
  | .readVehicle fields => Sys2Proof.Machine.execReadVehicle fields s
  | .loadCategory fields => Sys2Proof.Machine.execLoadCategory fields s
  | .loadLane fields => Sys2Proof.Machine.execLoadLane fields s
  | .enableLane fields => Sys2Proof.Machine.execEnableLane fields s
  | .disableLane fields => Sys2Proof.Machine.execDisableLane fields s
  | .resumeLane fields => Sys2Proof.Machine.execResumeLane fields s
  | .admitLane fields => Sys2Proof.Machine.execAdmitLane fields s
  | .refuseLane fields => Sys2Proof.Machine.execRefuseLane fields s
  | .releaseLane fields => Sys2Proof.Machine.execReleaseLane fields s
  | .retryLane fields => Sys2Proof.Machine.execRetryLane fields s
  | .loadDeck fields => Sys2Proof.Machine.execLoadDeck fields s
  | .zeroDeck fields => Sys2Proof.Machine.execZeroDeck fields s
  | .restDeck fields => Sys2Proof.Machine.execRestDeck fields s
  | .wakeDeck fields => Sys2Proof.Machine.execWakeDeck fields s
  | .streamDeck fields => Sys2Proof.Machine.execStreamDeck fields s
  | .readDeck fields => Sys2Proof.Machine.execReadDeck fields s
  | .setTicketBase fields => Sys2Proof.Machine.execSetTicketBase fields s
  | .readVisit fields => Sys2Proof.Machine.execReadVisit fields s
  | .nextClosed => Sys2Proof.Machine.execNextClosed s
  | .clearVisit fields => Sys2Proof.Machine.execClearVisit fields s
  | .forceClose fields => Sys2Proof.Machine.execForceClose fields s
  | .barrierOrder fields => Sys2Proof.Machine.execBarrierOrder fields s
  | .setBarrierMode fields => Sys2Proof.Machine.execSetBarrierMode fields s
  | .releaseStaged fields => Sys2Proof.Machine.execReleaseStaged fields s
  | .groupOrder fields => Sys2Proof.Machine.execGroupOrder fields s
  | .readStation fields => Sys2Proof.Machine.execReadStation fields s
  | .forward fields => Sys2Proof.Machine.execForward fields s
  | .setClock fields => Sys2Proof.Machine.execSetClock fields s
  | .identify => Sys2Proof.Machine.execIdentify s
  | .yardReset => Sys2Proof.Machine.execYardReset s
  | .deckYardReset deck => Sys2Proof.Machine.execDeckYardReset deck s
  | .laneYardReset => Sys2Proof.Machine.execLaneYardReset s
  | .visitYardReset => Sys2Proof.Machine.execVisitYardReset s
  | .barrierYardReset => Sys2Proof.Machine.execBarrierYardReset s
  | .ticketYardReset => Sys2Proof.Machine.execTicketYardReset s

end Sys2Proof.Machine
end

