-- ==== Sys2Proof/Safety.lean ====
section
/-! DEFINITION. What a lawful state is: the laws of the device the manual states, as predicates over any state; and the forms of request and report the statements speak of. -/

namespace Sys2Proof.Machine

/-! ## Laws of the device -/

/-- The interlock law of one barrier: under an arm loop taken OCCUPIED the command is never LOWER (R108). -/
def BarrierRecord.lawful (b : BarrierRecord) : Prop := b.loop = some .occupied → b.commanded ≠ .lower

/-- The interlock law (R108). -/
def State.InterlockLaw (s : State) : Prop := ∀ n b, s.barrier n = some b → b.lawful

/-- The numbers of the loop and of the clock lie in their ranges (R138, R151, R187). -/
def State.FrameLaw (s : State) : Prop :=
  s.nextFrame < 8 ∧ (∀ f, s.frameInHand = some f → f < 8) ∧ s.periodCount < Config.period
    ∧ s.clock.seconds ≤ Config.wordTop

/-- Each station's near-end, far-end and obstruction counts stay within 0–255 (R152). -/
def State.CounterLaw (s : State) : Prop :=
  (∀ n, (s.slot n).near ≤ 255 ∧ (s.slot n).far ≤ 255) ∧ ∀ n b, s.barrier n = some b → b.obstructions ≤ 255

/-- The buffers of the Office Line Port hold no more than they can, and the dropped count stays within 0–255 (R181, R185). -/
def State.OfficeLaw (s : State) : Prop :=
  s.reports.length ≤ 32 ∧ s.buffer.length ≤ 4 ∧ s.refusals.length ≤ 4 ∧ s.dropped ≤ 255

/-- The visit table holds at most 64 records, the vehicle table at most 1,024, each ticket queue at most 8 (R43, R85, R128). -/
def State.TableLaw (s : State) : Prop :=
  s.visits.length ≤ 64 ∧ s.vehicles.length ≤ 1024 ∧ ∀ l, (s.queue l).jobs.length ≤ 8

/-- The zero law of one deck: T within 2 % of capacity of Zc, and Zc within 10 % of capacity of Z0 (R24). -/
def DeckEngine.zeroLawful (e : DeckEngine) : Prop :=
  ∀ r z, e.record = some r → e.zeros = some z →
    (z.tracked - z.captured).natAbs ≤ 20 * r.capacity ∧ (z.captured - z.refZero).natAbs ≤ 100 * r.capacity

/-- The zero law (R24). -/
def State.ZeroLaw (s : State) : Prop := ∀ d, (s.deck d).zeroLawful

/-- The law of the visit table: at most one record of an ident is RESERVED, OPEN or TICKETED (R86). The keys, the model's
own names of the records, are all different and all below the next. -/
def State.VisitLaw (s : State) : Prop :=
  (s.visits.filter fun v => v.state.standing).Pairwise (fun a b => a.ident ≠ b.ident)
    ∧ s.visits.Pairwise (fun a b => a.key ≠ b.key) ∧ ∀ v ∈ s.visits, v.key < s.nextVisitKey

/-- A lane whose vehicle is on its deck by its state: it holds the deck (R72, R74, R75, R78). -/
def LaneContext.onDeck (c : LaneContext) : Bool :=
  match c.state with
  | .entering | .weighing | .releasing | .leaving => true
  | .referred => c.reason.any fun x => !x.beforeEntry
  | .closed | .recover | .idle | .identify | .refused | .awaitDeck | .fault => false

/-- A lane state in which a hold may stand: on the deck, or in FAULT or RECOVER with the hold kept (R63, R72, R80, R83). -/
def LaneContext.mayHold (c : LaneContext) : Bool := c.onDeck || c.state == .fault || c.state == .recover

/-- The lane timer runs in the state that started it (R60). -/
def LaneContext.timerLawful (c : LaneContext) : Bool :=
  c.timer.all fun t => match t.kind with
    | .identWait => c.state == .identify
    | .referral => c.state == .referred && c.reason.any ReferralReason.beforeEntry
    | .entry => c.state == .entering
    | .weigh => c.state == .weighing

/-- The law of the deck hold (R72): the claims of a deck are those of the lanes of that deck that wait, each once; its
holder is the lane of that deck whose claim is HELD; a lane waits in AWAIT-DECK alone, holds in the states that may hold,
and holds in every state that drives over the deck. -/
def State.HoldLaw (s : State) : Prop :=
  (∀ d, (s.arbiter d).claims.Nodup)
    ∧ (∀ d l, l ∈ (s.arbiter d).claims ↔ (s.lane l).claim = .waiting ∧ (s.laneRecord l).map LaneRecord.deck = some d)
    ∧ (∀ d l, (s.arbiter d).holder = some l ↔ (s.lane l).claim = .held ∧ (s.laneRecord l).map LaneRecord.deck = some d)
    ∧ ∀ l, ((s.lane l).claim = .waiting → (s.lane l).state = .awaitDeck)
      ∧ ((s.lane l).claim = .held → (s.lane l).mayHold = true)
      ∧ ((s.lane l).onDeck = true → (s.lane l).claim = .held)
      ∧ (s.lane l).timerLawful = true

/-! ## Arithmetic and messages -/

/-- m is the quotient n / d rounded half away from zero (00_scope.md, section 6). -/
def RoundsHalfAway (n : Int) (d : Nat) (m : Int) : Prop :=
  2 * (n - m * d).natAbs ≤ d ∧ (2 * (n - m * d).natAbs = d → n.natAbs ≤ m.natAbs * d)

/-- The NEXT units of a message with their alternating parity (9.1). -/
def nextUnits : Bool → List Byte → List UnitFields
  | _, [] => []
  | p, b :: rest => { mark := .next, parity := p, unit := b } :: nextUnits (!p) rest

/-- The units of an upstream message: kind, length, body (9.1). -/
def messageUnits (k : UpKind) (body : List Byte) : List UnitFields :=
  { mark := .first, parity := false, unit := k.byte } :: nextUnits true (BitVec.ofNat 8 body.length :: body)

/-- A receive channel through consecutive frames, the first of this number, with what each frame hands out. -/
def ReceiveChannel.run (c : ReceiveChannel) (st : StationState) (f : Nat) :
    List (Option UnitFields) → ReceiveChannel × List ReceiveNote
  | [] => (c, [])
  | x :: rest =>
    let o := c.frame st f x
    let q := ReceiveChannel.run o.1 st ((f + 1) % 8) rest
    (q.1, o.2 :: q.2)

/-- The oldest complete message of a station is m, with these behind it (R167). -/
abbrev State.HasMessage (s : State) (n : StationId) (m : UpMessage) (rest : List UpMessage) : Prop :=
  (s.station n).complete = m :: rest

/-- The state with the complete messages of a station replaced. -/
def State.messagesLeft (s : State) (n : StationId) (rest : List UpMessage) : State :=
  s.setStation n { s.station n with complete := rest }

/-! ## Nothing due -/

/-- Nothing has fallen due that has not been handled: every slot of the frame in hand is judged, no superframe, period
or second has ended, no timer of a station, barrier, lane, queue or deck has run out, and every yard reset handed over has
been taken (log entry 6). -/
def State.NothingDue (s : State) : Prop :=
  s.resetsDue = .clear ∧ (s.frameInHand = none ∨ ∀ n, (s.slot n).awaited = false)
    ∧ s.superframeDue = false ∧ s.periodDue = false ∧ (s.clock.set = true → s.clock.frames < 1000)
    ∧ s.tareUpdates = []
    ∧ (∀ n, (s.station n).receive.staleDue = false ∧ s.unitTimerDue n = false
        ∧ (s.station n).send.gapOver = false ∧ (s.station n).windowDue = false
        ∧ (∀ b, s.barrier n = some b → b.motionDue = false) ∧ ((s.station n).mayStart = false ∨ s.offered n = none))
    ∧ (∀ l, (∀ k, (s.lane l).timedOut k = false) ∧ (s.queue l).waitOver = false)
    ∧ ∀ d, (s.deck d).restDue = false

/-! ## Forms of request -/

/-- The head of the request buffer is an unhandled REQUEST frame of this number, and no yard reset before it is still to be
taken (R182, R189). -/
abbrev State.HasHead (s : State) (number : Nat) (h : Request) (rest : List Request) : Prop :=
  s.buffer = h :: rest ∧ h.kind = .request ∧ h.reply = none ∧ h.body.head? = some (BitVec.ofNat 8 number)
    ∧ s.resetsDue = .clear

/-- The head of the request buffer is an unhandled FORWARD frame, and no yard reset before it is still to be taken (R180,
R182, R189). -/
abbrev State.HasForward (s : State) (h : Request) (rest : List Request) : Prop :=
  s.buffer = h :: rest ∧ h.kind = .forward ∧ h.reply = none ∧ s.resetsDue = .clear

/-- The state with the reply of the head request given. -/
def State.replied (s : State) (h : Request) (rest : List Request) (code : ReplyCode) (data : ReplyData) : State :=
  { s with buffer := { h with reply := some { code := code, data := data } } :: rest }

/-- The state with a report joined to a queue that has room (R185). -/
def State.reported (s : State) (b : ReportBody) : State :=
  { s with reports := s.reports ++ [{ body := b, stamp := s.now }] }

/-- The report queue has room for a report (R185). -/
abbrev State.RoomForReport (s : State) : Prop := s.reports.length < 32

end Sys2Proof.Machine
end

