-- ==== Sys2Proof/Certificates/Slice0/Obligations.lean ====
section
/-! DEFINITION. The statements for the provers: what each command does, the laws that every step keeps, and the formats of the two lines. -/

open Sys2Proof Sys2Proof.Machine

/-! ## The queue of commands and power-on reset -/

/-- A step runs the command at the front of the queue on the state with the queue's rest. The queue is the model's own
(log entry 3), and so is what a step does on an empty one: the state stays as it is. -/
def Obligations.StepRunsFrontCommand : Prop :=
  (∀ (c : Instr) (rest : List Instr) (s : State), s.pending = c :: rest → step s = exec c { s with pending := rest })
    ∧ ∀ s : State, s.pending = [] → step s = .next s

/-- POWER_ON_RESET gives the state after reset with the line rate of the pins (00_scope.md, section 9), the command queue
kept (log entry 2); every field of the state after reset holds the power-on value the chapters give, or, where they give none
or the field is the model's own, the value that log entries 2, 8 and 38 name (DESIGN CHOICE; the key of the next visit record is
8, the line rate 2); and it keeps every law that the last statements say a step keeps. -/
def Obligations.PowerOnReset : Prop :=
  (∀ s : State, exec (.powerOnReset false false) s = .next { State.reset with rate := .b115200, pending := s.pending })
    ∧ (∀ s : State, exec (.powerOnReset false true) s = .next { State.reset with rate := .b230400, pending := s.pending })
    ∧ (∀ s : State, exec (.powerOnReset true false) s = .next { State.reset with rate := .b460800, pending := s.pending })
    ∧ (∀ s : State, exec (.powerOnReset true true) s = .next { State.reset with rate := .b921600, pending := s.pending })
    ∧ (∀ n, State.reset.slot n =
        { alive := false, goodRun := 0, badRun := 0, taken := none, lastCode := none, command := .none, echo := false,
          near := 0, far := 0, periodErrors := 0, degraded := false, threshold := 16, aliveAtStart := false,
          nearHit := false, farHit := false, awaited := false }
      ∧ State.reset.station n =
        { state := .silent, rejection := none, kind := none,
          abilities := { reducedRate := false, off := false, cardReader := false, keypad := false },
          revision := none, serial := none, failed := 0, window := 0, pages := [], wasLost := false, wasDegraded := false,
          receive := { phase := .idle, answer := .none, candidate := none, lastTaken := none, stale := 0 },
          send := { phase := .idle, message := none, timer := 0, gap := 0, noneSeen := false, waiting := none,
                    noneShown := 0, noneHeard := 0 },
          forward := none, complete := [] }
      ∧ State.reset.barrier n = none)
    ∧ (∀ d, State.reset.deck d =
        { state := .unconfigured, record := none, zeros := none, zeroLimit := false, ring := [], last := none,
          pendingGap := 0, gapLatch := false, overload := false, stable := 0, judged := .invalid, value := none,
          occupancy := .empty, profile := .nominal, span := 0, captureCount := 0, trackingCount := 0, restIdle := none,
          streamInterval := 0, streamCount := 0, sample := 0,
          reading := { deck := d, state := .invalid, value := none, sample := 0, profile := .nominal, degraded := false,
                       zeroLimit := false, stamp := none } }
      ∧ State.reset.arbiter d = { holder := none, claims := [] })
    ∧ (∀ l, State.reset.lane l =
        { state := .closed, present := false, reason := none, vehicle := none, passage := none, reservation := none,
          target := none, noVisit := false, pendingCategory := none, claim := .none, captured := none,
          negativeReleased := false, timer := none, departSeen := false, closing := false, lastRead := none, causes := [] }
      ∧ State.reset.laneRecord l = none ∧ State.reset.queue l = { jobs := [], phase := .waiting })
    ∧ (∀ c, State.reset.category c = { code := none, enabled := false, inspect := false })
    ∧ State.reset.tareUpdates = [] ∧ State.reset.frameInHand = none ∧ State.reset.superframeDue = false
    ∧ State.reset.periodDue = false ∧ State.reset.sentFrame = [] ∧ State.reset.sentOffice = []
    ∧ State.reset.resetsDue = .clear
    ∧ State.reset.vehicles = [] ∧ State.reset.visits = [] ∧ State.reset.counter = .notValid
    ∧ State.reset.nextVisitKey = 0 ∧ State.reset.rate = .b115200 ∧ State.reset.pending = []
    ∧ State.reset.nextFrame = 0 ∧ State.reset.periodCount = 0 ∧ State.reset.receiver = none
    ∧ State.reset.buffer = [] ∧ State.reset.refusals = [] ∧ State.reset.reports = []
    ∧ State.reset.overrun = false ∧ State.reset.dropped = 0 ∧ State.reset.line = none
    ∧ State.reset.clock.set = false ∧ State.reset.clock.seconds = 0 ∧ State.reset.clock.frames = 0
    ∧ State.reset.InterlockLaw ∧ State.reset.ZeroLaw ∧ State.reset.VisitLaw ∧ State.reset.FrameLaw ∧ State.reset.CounterLaw
    ∧ State.reset.OfficeLaw ∧ State.reset.TableLaw ∧ State.reset.HoldLaw

/-! ## The yard loop -/

/-- DOWNSTREAM_FRAME when nothing has fallen due: the 99 bytes are sent, the frame number moves on, every slot is awaited, and
every timer that counts frames counts one and stops at its limit: the unit timer, the quiet gap, the records that showed NONE
(R164, R165), the attempt window (R172), the motion timer (R109), the lane timer (R59), the age of the last read (R65), the rest
idle timer (R34), the print-outcome wait (R129) and the yard clock (R187). What has fallen due is handled first (log entry 6);
that timers in seconds are kept as frames is log entry 32; that the frame count of a set clock may stand at 1,000 until
CLOCK_SECOND, outside the range of R187, is the model's choice (log entry 29, DESIGN CHOICE, unsafe). -/
def Obligations.DownstreamFrame : Prop :=
  (∀ s : State, s.NothingDue → exec .downstreamFrame s = .next
    { s with
      sentFrame := syncWord s.nextFrame ++ [BitVec.ofNat 8 s.nextFrame] ++ allStations.flatMap s.recordOf
      frameInHand := some s.nextFrame
      superframeDue := s.nextFrame == 7
      nextFrame := (s.nextFrame + 1) % 8
      slots := s.slots.map fun x =>
        { x with awaited := true, aliveAtStart := if s.nextFrame = 0 then x.alive else x.aliveAtStart }
      stations := s.stations.map fun x =>
        { x with
          send := match x.send.phase with
            | .sending => { x.send with timer := min 32 (x.send.timer + 1), noneShown := 0 }
            | .gap => { x.send with gap := min 4 (x.send.gap + 1), noneShown := min 2 (x.send.noneShown + 1) }
            | .idle => { x.send with noneShown := min 2 (x.send.noneShown + 1) }
          window := match x.state with
            | .alive | .enrolling => min 2000 (x.window + 1)
            | .silent | .enrolled | .rejected | .lost => x.window }
      barriers := s.barriers.map fun x => x.map fun b => { b with timer := b.timer.map fun f => min (b.limit * 1000) (f + 1) }
      lanes := s.lanes.map fun c =>
        { c with timer := c.timer.map fun t => { t with elapsed := min t.limit (t.elapsed + 1) }
                 lastRead := c.lastRead.map fun p => (p.1, min 3000 (p.2 + 1)) }
      decks := s.decks.map fun e => { e with restIdle := e.restIdle.map fun f => min 255000 (f + 1) }
      queues := s.queues.map fun q => match q.phase with
        | .awaitOutcome f => { q with phase := .awaitOutcome (min 20000 (f + 1)) }
        | .waiting | .sending | .held => q
      clock := if s.clock.set then { s.clock with frames := s.clock.frames + 1 } else s.clock })
    ∧ ∀ s : State, exec .downstreamFrame s = .next s.settleDue.framePassed

/-- The 99 bytes of a downstream frame: the sync word, plain or inverted, the frame number, and 24 slot records of 4 bytes
in slot order, each with its fields in their places and its slot check (R155); and the unit fields that a send channel shows:
the unit being sent in SENDING, mark NONE with parity and unit 0 in IDLE and GAP (R158, R164, R165); the values of the command
codes (R154), of the marks and the answers (R158), and the slot check bit by bit (R141). -/
def Obligations.FrameLayout : Prop :=
  (∀ s : State, s.nextFrame < 8 →
    s.frameBytes.length = 99
      ∧ s.frameBytes.take 2 = (if s.nextFrame = 0 then [0xB1#8, 0xE4#8] else [0x4E#8, 0x1B#8])
      ∧ s.frameBytes[2]? = some (BitVec.ofNat 8 s.nextFrame)
      ∧ ∀ n : StationId, ∃ b0 b1 b2 b3 : Byte,
          (s.frameBytes.drop (3 + 4 * n.val)).take 4 = [b0, b1, b2, b3]
            ∧ b0.extractLsb' 4 4 = commandValue (s.slot n).command
            ∧ b0.getLsbD 3 = (s.slot n).echo
            ∧ b0.extractLsb' 1 2 = markValue (s.station n).send.shows.mark
            ∧ b0.getLsbD 0 = (s.station n).send.shows.parity
            ∧ b1 = (s.station n).send.shows.unit
            ∧ b2.extractLsb' 6 2 = answerValue (s.station n).receive.answer
            ∧ b2.getLsbD 5 = false
            ∧ (b2.extractLsb' 0 5).toNat = n.val + 1
            ∧ b3 = slotCheck [b0, b1, b2])
    ∧ (∀ c : SendChannel,
      (c.phase ≠ .sending → c.shows = { mark := .none, parity := false, unit := 0 })
      ∧ ∀ p, c.phase = .sending → c.message = some p →
        c.shows.mark = (if p.unit = 0 then .first else .next) ∧ (c.shows.parity = true ↔ p.unit % 2 = 1)
          ∧ (p.unit = 0 → c.shows.unit = p.msg.kind)
          ∧ (p.unit = 1 → c.shows.unit = BitVec.ofNat 8 p.msg.body.length)
          ∧ ∀ i (h : i < p.msg.body.length), p.unit = i + 2 → c.shows.unit = p.msg.body[i])
    ∧ (∀ c : Command, commandValue c = (match c with
        | .none => 0
        | .raise | .full | .arm | .showOff => 1
        | .lower | .reduced | .disarm | .showIdle => 2
        | .hold | .off | .showWait => 3
        | .showDriveOn => 4
        | .showGo => 5
        | .showStop => 6
        | .showRefer => 7))
    ∧ markValue .none = 0 ∧ markValue .first = 1 ∧ markValue .next = 2
    ∧ answerValue .none = 0 ∧ answerValue .taken0 = 1 ∧ answerValue .taken1 = 2 ∧ answerValue .abort = 3
    ∧ slotCheck [] = 0xFF
    ∧ ∀ (bytes : List Byte) (b : Byte), slotCheck (bytes ++ [b]) = [7, 6, 5, 4, 3, 2, 1, 0].foldl
        (fun (check : Byte) (i : Nat) =>
          if check.getLsbD 7 = b.getLsbD i then check <<< 1 else (check <<< 1) ^^^ 0b00000111#8) (slotCheck bytes)

/-- A record that a station sends as R156 to R158 lay it out is judged good, and every field is read as it was sent; and that
layout: the preamble, the three bytes of fields, the sample group most significant byte first (R157), the slot check. -/
def Obligations.UpstreamRecordReadBack : Prop :=
  (∀ (n : StationId) (r : UpRecord), ∃ b0 b1 b2 : Byte,
    let group : List Byte := match r.group with
      | none => []
      | some g => g.bytes
    r.bytes n = 0x6C :: (b0 :: b1 :: b2 :: group) ++ [slotCheck (b0 :: b1 :: b2 :: group)]
      ∧ b0.extractLsb' 4 4 = r.code ∧ b0.getLsbD 3 = r.echo ∧ b0.extractLsb' 1 2 = markValue r.unit.mark
      ∧ b0.getLsbD 0 = r.unit.parity ∧ b1 = r.unit.unit ∧ b2.extractLsb' 6 2 = answerValue r.answer
      ∧ b2.getLsbD 5 = r.group.isSome ∧ (b2.extractLsb' 0 5).toNat = n.val + 1)
  ∧ (∀ g : SampleGroup, ∃ flags : Byte,
    let count (c : Int) : List Byte := [16, 8, 0].map fun i => (BitVec.ofInt 24 c).extractLsb' i 8
    g.bytes = BitVec.ofNat 8 g.sequence :: flags :: count g.counts.c1 ++ count g.counts.c2 ++ count g.counts.c3 ++ count g.counts.c4
      ∧ flags.getLsbD 0 = g.saturated.c1 ∧ flags.getLsbD 1 = g.saturated.c2 ∧ flags.getLsbD 2 = g.saturated.c3
      ∧ flags.getLsbD 3 = g.saturated.c4 ∧ flags.extractLsb' 4 4 = 0)
  ∧ ∀ (n : StationId) (frame : Nat) (r : UpRecord),
    (r.group.isSome → frame = 0) →
    (r.unit.mark = .none → r.unit.parity = false ∧ r.unit.unit = 0) →
    (∀ g, r.group = some g → g.sequence < 256 ∧ validCount g.counts.c1 = true ∧ validCount g.counts.c2 = true
      ∧ validCount g.counts.c3 = true ∧ validCount g.counts.c4 = true) →
    judgeSlot n frame (r.bytes n) = .good r

/-- The outcome of judging an upstream slot by the first line of the table of R139 that applies; a bad slot is handled as
a missing one. -/
def Obligations.SlotJudged : Prop :=
  (∀ (n : StationId) (frame : Nat) (arrived : List Byte),
      (arrived.head? ≠ some 0x6C#8 ∨ arrived.length < 5) → judgeSlot n frame arrived = .missing)
    ∧ (∀ (n : StationId) (frame : Nat) (b0 b1 b2 : Byte) (rest : List Byte),
        let bytes := b0 :: b1 :: b2 :: rest
        let len := if b2.getLsbD 5 then 18 else 4
        (bytes.length < len → judgeSlot n frame (0x6C#8 :: bytes) = .missing)
          ∧ (len ≤ bytes.length →
            if bytes[len - 1]? ≠ some (slotCheck (bytes.take (len - 1))) then judgeSlot n frame (0x6C#8 :: bytes) = .bad
            else if (b2.extractLsb' 0 5).toNat ≠ n.val + 1 then judgeSlot n frame (0x6C#8 :: bytes) = .bad
            else if b0.extractLsb' 1 2 = 3#2 then judgeSlot n frame (0x6C#8 :: bytes) = .bad
            else if b2.getLsbD 5 = true ∧ frame ≠ 0 then judgeSlot n frame (0x6C#8 :: bytes) = .bad
            else ∃ r, judgeSlot n frame (0x6C#8 :: bytes) = .good r ∧ r.code = b0.extractLsb' 4 4
              ∧ r.echo = b0.getLsbD 3 ∧ r.group.isSome = b2.getLsbD 5))
    ∧ ∀ (s : State) (n : StationId), s.judgedSlot n .bad = s.judgedSlot n .missing

/-- UPSTREAM_SLOT: at a station whose channels do not work (SILENT or LOST) and which names no deck, the runs of the slot, the
pair of codes and the hits of the superframe (R142, R144, R149, R150); at any station, the order in which a good record and a bad
slot are handled (R140; the change of presence last, log entry 39, DEDUCED), the taking and handing on of a code with its
BAD-CODE report, which stands before what the owners post by the model's choice (R144 to R146, log entry 17), the presence edges
of a terminal and the FAULT notices of a terminal and a reader (R61, R64), what the deck makes of an ARRIVE and of an ident read
(R17, R34, R37), and a completed or refused message (R162, R163, R167). A slot already judged in the frame in hand is not judged
again (log entry 4). That the LANE report of an edge comes before what the deck posts, and what a deck posts of a sample group
before the LANE reports of its lanes, is log entry 26 (DESIGN CHOICE), and that the change of presence and the sample group are
handled in the slot that brings them log entry 36 (DEDUCED). What the message units, the send channel and the sample group do is
said by WholeMessageReceived, ChannelTimers and SampleGroupAccepted; what the deck makes of its digitizer's code and the ticket
queue of its terminal's is said whole by DeckEvents and PrintOutcomes, and what a barrier makes of its code by
BarrierRecordTakesCode. The values each kind of station defines and those of a terminal (R146, R154), and the role of a station
with the lane or deck that gives it (R51, R52; the first in order where two would). That TERMINAL-READY is posted before the LANE
report of an edge of the same code is log entry 60, and that the receive channel takes its unit before the send channel takes the
answer log entry 61 (both DESIGN CHOICE). -/
def Obligations.UpstreamSlotCounted : Prop :=
  (∀ (s : State) (n : StationId) (arrived : List Byte) (frame : Nat), s.frameInHand = some frame → (s.slot n).awaited = true →
    let judged : State := s.setSlot n { s.slot n with awaited := false }
    (∀ r, judgeSlot n frame arrived = .good r →
      let a := judged.takeCode n r.code
      let b := a.setSlot n { a.slot n with farHit := (a.slot n).farHit || r.echo }
      let c := (b.receiveFrame n (some r.unit)).sendFrame n (some r.answer)
      let d : State := match r.group, c.deckOfDigitizer n with
        | some g, some k => (c.deckGroup k g).deckTold k
        | _, _ => c
      let e := d.setSlot n { d.slot n with goodRun := min 3 ((d.slot n).goodRun + 1), badRun := 0 }
      exec (.upstreamSlot n arrived) s = .next
        (if (e.slot n).alive = false ∧ (e.slot n).goodRun = 3 then (e.setSlot n { e.slot n with alive := true }).stationAlive n
        else e))
    ∧ ((judgeSlot n frame arrived = .missing ∨ judgeSlot n frame arrived = .bad) →
      let b := judged.setSlot n { judged.slot n with
        goodRun := 0, badRun := min 6 ((judged.slot n).badRun + 1), lastCode := none, nearHit := true }
      let e := (b.receiveFrame n none).sendFrame n none
      exec (.upstreamSlot n arrived) s = .next
        (if (e.slot n).alive = true ∧ (e.slot n).badRun = 6 then
          (e.setSlot n { e.slot n with alive := false, taken := none, lastCode := none }).stationSilent n
        else e)))
  ∧ (∀ (s : State) (n : StationId) (c : Code),
    let held : State := s.setSlot n { s.slot n with lastCode := some c }
    let anew : State := s.setSlot n { s.slot n with lastCode := some c, taken := some c }
    ((s.slot n).lastCode ≠ some c ∨ (s.slot n).taken = some c → s.takeCode n c = held)
    ∧ ((s.slot n).lastCode = some c → (s.slot n).taken ≠ some c →
      ((s.station n).state ≠ .enrolled → s.takeCode n c = anew)
      ∧ ∀ kind, (s.station n).state = .enrolled → (s.station n).kind = some kind → (codeDefined kind c = false → s.RoomForReport) →
        let told : State := if codeDefined kind c = true then anew else anew.reported (.badCode n c)
        (s.role n = none → s.takeCode n c = told)
        ∧ (∀ d, s.role n = some .digitizer → s.deckOfDigitizer n = some d →
          s.takeCode n c = (told.deckCode d (s.slot n).taken c).deckTold d)
        ∧ (s.role n = some .barrier → s.takeCode n c = told.barrierCode n c)
        ∧ (s.role n = some .reader → s.takeCode n c = told.readerCode n (s.slot n).taken c)
        ∧ ∀ needs, s.role n = some (.terminal needs) →
          s.takeCode n c = (told.terminalCode n (s.slot n).taken c).ticketCode n c))
  ∧ (∀ (s : State) (n : StationId) (l : LaneId) (r : LaneRecord) (before : Option Code) (c : Code),
    s.laneOfTerminal n = some l → s.laneRecord l = some r →
    let wasFault : Prop := ∃ b, before = some b ∧ terminalStatus b = .fault
    (terminalStatus c = .fault →
      (wasFault → s.terminalCode n before c = s)
      ∧ (¬ wasFault → s.RoomForReport → s.terminalCode n before c = s.reported (.laneStation l n .terminalFault)))
    ∧ ∀ shown present, terminalStatus c = .shows shown present → (wasFault → s.RoomForReport) →
      ∀ t : State, ((wasFault ∧ t = s.reported (.laneStation l n .terminalReady)) ∨ (¬ wasFault ∧ t = s)) →
      ((s.lane l).present = present → s.terminalCode n before c = t)
      ∧ (present = true → (s.lane l).present = false →
        let u := t.setLane l { s.lane l with present := true }
        ((s.lane l).state = .idle → s.terminalCode n before c =
          (((u.enterLane l .identify (.event .presenceArrive)).deckArrive r.deck).deckTold r.deck))
        ∧ ((s.lane l).state ≠ .idle → s.terminalCode n before c = (u.deckArrive r.deck).deckTold r.deck))
      ∧ (present = false → (s.lane l).present = true →
        let u := t.setLane l { s.lane l with present := false }
        let leaves : Prop := (s.lane l).state = .identify ∨ (s.lane l).state = .awaitDeck ∨ (s.lane l).state = .refused
          ∨ ((s.lane l).state = .referred ∧ ∃ w, (s.lane l).reason = some w ∧ w.beforeEntry = true)
        (leaves → s.terminalCode n before c = u.enterLane l .idle (.event .presenceDepart))
        ∧ (¬ leaves → s.terminalCode n before c = u)))
  ∧ (∀ (s : State) (n : StationId) (l : LaneId) (before : Option Code) (c : Code), s.laneOfReader n = some l → s.RoomForReport →
    let fault (x : Code) : Prop := x ≠ 0 ∧ x ≠ 1
    let wasFault : Prop := ∃ b, before = some b ∧ fault b
    (fault c → ¬ wasFault → s.readerCode n before c = s.reported (.laneStation l n .readerFault))
    ∧ (¬ fault c → wasFault → s.readerCode n before c = s.reported (.laneStation l n .readerReady))
    ∧ ((fault c ↔ wasFault) → s.readerCode n before c = s))
  ∧ (∀ (s : State) (d : DeckId) (r : DeckRecord), (s.deck d).record = some r →
    let switched : State := if r.transitSpan = 0 then s else
      (s.setDeck d (DeckEngine.rejudged { s.deck d with profile := .transit, span := r.transitSpan, stable := 0 } r
        (s.excited d))).replaceReading d
    let wakes (t : State) : State := match (t.deck d).state with
      | .active => t.setDeck d { t.deck d with restIdle := some 0 }
      | .warmRest => t.enterDeckState d .waking
      | .coldRest => t.enterDeckState d .capturing
      | .unconfigured | .waiting | .capturing | .waking | .fault => t
    s.deckArrive d = wakes switched ∧ s.deckRead d = wakes s)
  ∧ (∀ (s : State) (n : StationId) (fields : Option UnitFields),
    let x := s.station n
    let out := x.receive.frame x.state (s.frameInHand.getD 0) fields
    (x.state = .silent ∨ x.state = .lost → s.receiveFrame n fields = s)
    ∧ (x.state ≠ .silent → x.state ≠ .lost →
      (out.2 = .none → s.receiveFrame n fields = s.setStation n { x with receive := out.1 })
      ∧ (∀ m, out.2 = .complete m →
        s.receiveFrame n fields = s.setStation n { x with receive := out.1, complete := x.complete ++ [m] })
      ∧ ∀ v, out.2 = .badValue v → s.RoomForReport →
        s.receiveFrame n fields = (s.setStation n { x with receive := out.1 }).reported (.badMessageValue n v)))
  ∧ (∀ (kind : StationKind) (c : Code), codeDefined kind c = true ↔ (match kind with
    | .barrierDrive => c.toNat ≤ 9
    | .digitizer => c.toNat ≤ 2 ∨ c.toNat = 9
    | .identReader => c.toNat ≤ 1 ∨ c.toNat = 9
    | .terminal => c.toNat ≤ 5 ∨ c.toNat = 9))
  ∧ terminalStatus 0 = .shows .ready false ∧ terminalStatus 1 = .shows .ready true
  ∧ terminalStatus 2 = .shows .low false ∧ terminalStatus 3 = .shows .low true
  ∧ terminalStatus 4 = .shows .out false ∧ terminalStatus 5 = .shows .out true
  ∧ (∀ c : Code, 6 ≤ c.toNat → terminalStatus c = .fault)
  ∧ (∀ (s : State) (n : StationId),
    let barrier : Prop := ∃ l r, s.laneRecord l = some r ∧ (r.entryBarrier = n ∨ r.exitBarrier = n)
    (∀ l, s.laneOfTerminal n = some l ↔ (∃ r, s.laneRecord l = some r ∧ r.terminal = n)
      ∧ ∀ m, m < l → ∀ r, s.laneRecord m = some r → r.terminal ≠ n)
    ∧ (∀ l, s.laneOfReader n = some l ↔ (∃ r, s.laneRecord l = some r ∧ r.reader = some n)
      ∧ ∀ m, m < l → ∀ r, s.laneRecord m = some r → r.reader ≠ some n)
    ∧ (∀ d, s.deckOfDigitizer n = some d ↔ (∃ r, (s.deck d).record = some r ∧ r.digitizer = n)
      ∧ ∀ e, e < d → ∀ r, (s.deck e).record = some r → r.digitizer ≠ n)
    ∧ (s.deckOfDigitizer n ≠ none → s.role n = some .digitizer)
    ∧ (s.deckOfDigitizer n = none → barrier → s.role n = some .barrier)
    ∧ (s.deckOfDigitizer n = none → ¬ barrier → s.laneOfReader n ≠ none → s.role n = some .reader)
    ∧ (s.deckOfDigitizer n = none → ¬ barrier → s.laneOfReader n = none →
      (∀ l r, s.laneOfTerminal n = some l → s.laneRecord l = some r →
        s.role n = some (.terminal (decide (r.reader = none))))
      ∧ (s.laneOfTerminal n = none → s.role n = none)))
  ∧ ∀ (s : State) (n : StationId) (arrived : List Byte),
    ((s.slot n).awaited = false → exec (.upstreamSlot n arrived) s = .next s)
    ∧ ∀ frame, s.frameInHand = some frame → (s.slot n).awaited = true →
      ((s.station n).state = .silent ∨ (s.station n).state = .lost) →
      ((judgeSlot n frame arrived = .missing ∨ judgeSlot n frame arrived = .bad) →
        ((s.slot n).alive = false ∨ (s.slot n).badRun < 5) →
        exec (.upstreamSlot n arrived) s = .next (s.setSlot n
          { s.slot n with awaited := false, goodRun := 0, badRun := min 6 ((s.slot n).badRun + 1), lastCode := none,
                          nearHit := true }))
      ∧ ∀ r, judgeSlot n frame arrived = .good r → (r.group = none ∨ s.deckOfDigitizer n = none) →
        ((s.slot n).alive = true ∨ (s.slot n).goodRun < 2) →
        exec (.upstreamSlot n arrived) s = .next (s.setSlot n
          { s.slot n with awaited := false, goodRun := min 3 ((s.slot n).goodRun + 1), badRun := 0,
                          lastCode := some r.code,
                          taken := if (s.slot n).lastCode = some r.code then some r.code else (s.slot n).taken,
                          farHit := (s.slot n).farHit || r.echo })

/-- SLOT_ALIVE and SLOT_SILENT: the presence of the slot and what the SMC does when it is told (R142, R143, R172, R177). An
ENROLLED station goes LOST with its report and drops its forward (R170), its lane's ticket queue is flushed when it is a terminal
(R136), its channels are reset, and then its deck, its barrier and its lanes act (R33, R61, R80, R112), in an order that is log
entry 26 (DESIGN CHOICE); that two lanes naming the station fault in lane order is log entry 56 (DESIGN CHOICE). That a complete
message on its way stays, and that the receive channel is left with no last taken unit, is read from R177 (log entries 18 and
28); that the NONE answers heard before the loss no longer count is log entry 68 (DESIGN CHOICE). -/
def Obligations.SlotPresenceChanges : Prop :=
  ∀ (s : State) (n : StationId),
    ((s.slot n).alive = false → (s.slot n).goodRun = 3 →
      ((s.station n).state = .silent ∨ (s.station n).state = .lost) →
      exec (.slotAlive n) s = .next ((s.setSlot n { s.slot n with alive := true }).setStation n
        { s.station n with state := .alive, window := 0, pages := [] }))
    ∧ ((s.slot n).alive = true → (s.slot n).badRun = 6 →
      ((s.station n).state = .alive ∨ (s.station n).state = .enrolling ∨ (s.station n).state = .rejected →
        exec (.slotSilent n) s = .next
          ((s.setSlot n { s.slot n with alive := false, taken := none, lastCode := none }).setStation n
            { s.station n with
              state := .silent, rejection := none, pages := [], failed := 0, window := 0,
              receive := { phase := .idle, answer := .none, candidate := none, lastTaken := none, stale := 0 },
              send := { (s.station n).send with
                phase := .idle, message := none, timer := 0, gap := 0, noneSeen := false, waiting := none, noneHeard := 0 } }))
      ∧ ((s.station n).state = .enrolled → s.role n = none → s.barrier n = none → (s.station n).forward = none →
        s.RoomForReport →
        exec (.slotSilent n) s = .next
          (((s.setSlot n { s.slot n with alive := false, taken := none, lastCode := none }).setStation n
            { s.station n with
              state := .lost, wasLost := true, pages := [], window := 0,
              receive := { phase := .idle, answer := .none, candidate := none, lastTaken := none, stale := 0 },
              send := { (s.station n).send with
                phase := .idle, message := none, timer := 0, gap := 0, noneSeen := false, waiting := none,
                noneHeard := 0 } }).reported
            (.lost n false)))
      ∧ ((s.station n).state = .enrolled → s.reports.length < 31 →
        let a : State := ((s.setSlot n { s.slot n with alive := false, taken := none, lastCode := none }).setStation n
          { s.station n with state := .lost, wasLost := true, pages := [], window := 0, forward := none }).reported (.lost n false)
        let b : State := if (s.station n).forward = none then a else a.reported (.messageDropped n .displayText)
        let c : State := match s.laneOfTerminal n with
          | none => b
          | some l => b.flushQueue l .terminalLost
        let t : State := c.setStation n { c.station n with
          receive := { phase := .idle, answer := .none, candidate := none, lastTaken := none, stale := 0 }
          send := { (c.station n).send with
            phase := .idle, message := none, timer := 0, gap := 0, noneSeen := false, waiting := none, noneHeard := 0 } }
        exec (.slotSilent n) s = .next (((t.deckLost n).barrierLost n).lanesSeeLost n)))
    ∧ (∀ d, s.deckOfDigitizer n = some d → (s.deck d).state ≠ .unconfigured → (s.deck d).state ≠ .waiting →
      s.deckLost n = ((s.setDeck d { s.deck d with
        ring := [], stable := 0, pendingGap := 0, gapLatch := false, overload := false, last := none, judged := .invalid,
        value := none, trackingCount := 0,
        captureCount := if (s.deck d).state = .capturing then 0 else (s.deck d).captureCount }).enterDeckState d
          .waiting).deckTold d)
    ∧ s.lanesSeeLost n = (allLanes.filter fun l => decide (∃ r, s.laneRecord l = some r ∧
        (r.entryBarrier = n ∨ r.exitBarrier = n ∨ r.terminal = n ∨ r.reader = some n))).foldl
      (fun t l => t.laneFault l (.stationLost n))
      (match s.laneOfTerminal n with
        | none => s
        | some l => s.setLane l { s.lane l with present := false })

/-- SUPERFRAME_END: every station's counters, echo flag, period count and DEGRADED, the reports in slot order when the
queue has room for them, and posted in that order in any queue (R185), and the period count of superframes (R149 to R151). PERIOD_END: DEGRADED is cleared below the
threshold with a report, and every period errored count returns to 0 (R151). That the period count moves on in SUPERFRAME_END
is the model's choice (log entry 29), and so is the slot order of the reports of several stations (log entry 55). -/
def Obligations.SuperframeAndPeriodEnd : Prop :=
  (∀ s : State, s.superframeDue = true → (∀ n, (s.slot n).awaited = false) →
      let near (n : StationId) : Bool := (s.slot n).aliveAtStart && (s.slot n).nearHit
      let far (n : StationId) : Bool := (s.slot n).aliveAtStart && (s.slot n).farHit
      let nears (n : StationId) : Nat := if near n then min 255 ((s.slot n).near + 1) else (s.slot n).near
      let fars (n : StationId) : Nat := if far n then min 255 ((s.slot n).far + 1) else (s.slot n).far
      let count (n : StationId) : Nat :=
        if near n || far n then min 1000 ((s.slot n).periodErrors + 1) else (s.slot n).periodErrors
      let falls (n : StationId) : Bool :=
        (near n || far n) && !(s.slot n).degraded && decide ((s.slot n).threshold ≤ count n)
      let posted : State := (allStations.filter falls).foldl
        (fun u n => u.post (.degraded n (count n) (nears n) (fars n) (s.slot n).threshold)) s
      ∃ t : State, exec .superframeEnd s = .next t
        ∧ (∀ n, t.slot n = { s.slot n with near := nears n, far := fars n, echo := near n, periodErrors := count n,
                                           nearHit := false, farHit := false, degraded := (s.slot n).degraded || falls n }
            ∧ t.station n = { s.station n with wasDegraded := (s.station n).wasDegraded || falls n })
        ∧ t.periodCount = (if s.periodCount + 1 < 1000 then s.periodCount + 1 else 0)
        ∧ t.periodDue = (if s.periodCount + 1 < 1000 then s.periodDue else true)
        ∧ t.superframeDue = false
        ∧ (s.reports.length + (allStations.filter falls).length ≤ 32 →
            t.reports = s.reports ++ (allStations.filter falls).map (fun n =>
              { body := .degraded n (count n) (nears n) (fars n) (s.slot n).threshold, stamp := s.now })
            ∧ t.dropped = s.dropped ∧ t.overrun = s.overrun)
        ∧ t.reports = posted.reports ∧ t.dropped = posted.dropped ∧ t.overrun = posted.overrun
        ∧ t = { s with slots := t.slots, stations := t.stations, periodCount := t.periodCount, periodDue := t.periodDue,
                       superframeDue := t.superframeDue, reports := t.reports, dropped := t.dropped, overrun := t.overrun })
    ∧ ∀ s : State, s.periodDue = true →
      let clears (n : StationId) : Bool := (s.slot n).degraded && decide ((s.slot n).periodErrors < (s.slot n).threshold)
      let posted : State := (allStations.filter clears).foldl (fun u n => u.post (.degradeCleared n)) s
      ∃ t : State, exec .periodEnd s = .next t
        ∧ (∀ n, t.slot n = { s.slot n with periodErrors := 0, degraded := (s.slot n).degraded && !clears n })
        ∧ t.periodDue = false
        ∧ (s.reports.length + (allStations.filter clears).length ≤ 32 →
            t.reports = s.reports ++ (allStations.filter clears).map (fun n => { body := .degradeCleared n, stamp := s.now })
            ∧ t.dropped = s.dropped ∧ t.overrun = s.overrun)
        ∧ t.reports = posted.reports ∧ t.dropped = posted.dropped ∧ t.overrun = posted.overrun
        ∧ t = { s with slots := t.slots, periodDue := t.periodDue, reports := t.reports, dropped := t.dropped,
                       overrun := t.overrun }

/-- The yard clock: CLOCK_SECOND at 1,000 frames of a set clock, the wrap at its top, a clock that does not run, and the
replies of SET_CLOCK (R187). That CLOCK_SECOND changes nothing while no second has ended is log entry 4, and that the frame
count may stand at 1,000 or above before it is log entry 29; both are the model's choices. -/
def Obligations.YardClockKept : Prop :=
  (∀ s : State, s.clock.set = true → 1000 ≤ s.clock.frames → exec .clockSecond s = .next
      { s with clock := { set := true, frames := 0,
                          seconds := if s.clock.seconds = 4294967295 then 0 else s.clock.seconds + 1 } })
    ∧ (∀ s : State, (s.clock.set = false ∨ s.clock.frames < 1000) → exec .clockSecond s = .next s)
    ∧ ∀ (s : State) (h : Request) (rest : List Request) (seconds : Nat), s.HasHead 29 h rest →
      (seconds ≤ 4294967295 → exec (.setClock (.fits seconds)) s = .next
        (State.replied { s with clock := { set := true, seconds := seconds, frames := 0 } } h rest .ok
          (.clock (if s.clock.set then some s.clock.seconds else none) seconds)))
      ∧ (4294967295 < seconds → exec (.setClock (.fits seconds)) s = .next (s.replied h rest .bad .none))
      ∧ exec (.setClock .misfit) s = .next (s.replied h rest .bad .none)

/-! ## Decks -/

/-- The raw mass of a sample group: the corner net counts, the corrected corner counts rounded half away from zero with
their bound, the deck sum with its bound, and the raw mass rounded half away from zero (R5, R6). -/
def Obligations.RawMass : Prop :=
  (∀ (c z : Int) (k : Nat), validCount c = true → validCount z = true → 32768 ≤ k → k ≤ 131072 →
      (c - z).natAbs ≤ 16777215 ∧ RoundsHalfAway ((c - z) * k) 65536 (cornerCount c z k)
        ∧ (cornerCount c z k).natAbs ≤ 33554430 ∧ (k = 65536 → cornerCount c z k = c - z))
    ∧ ∀ (r : DeckRecord) (c : Corners Int), c.all validCount = true → r.zeros.all validCount = true →
      r.factors.all (inRange 32768 131072) = true →
      let sum := cornerCount c.c1 r.zeros.c1 r.factors.c1 + cornerCount c.c2 r.zeros.c2 r.factors.c2
        + cornerCount c.c3 r.zeros.c3 r.factors.c3 + cornerCount c.c4 r.zeros.c4 r.factors.c4
      sum.natAbs ≤ 134217720 ∧ RoundsHalfAway (sum * r.scale) 1024 (rawMass r c)

/-- The judged state and its value, by the first line of the table of R14 that applies, with W_f and W_d formed as R10
and R13 give them. What the judging of one accepted group leaves in the engine, all read from that judged state: the gap latch
set and released over the newest N entries (R12), the motion test and the stable count (R11), the occupancy by its two
thresholds (R16), the remaining transit span and the return to NOMINAL (R18), the switch to TRANSIT by a changed occupancy
after it (R17), the re-judgement of either (R15) and the rest idle timer (R34); and re-judgement outside a group (R15, R4). -/
def Obligations.JudgedState : Prop :=
  (∀ (e : DeckEngine) (r : DeckRecord), 0 < r.division →
    let n := match e.profile with
      | .nominal => r.nominalWindow
      | .transit => r.transitWindow
    ∃ average rounded : Int,
      (0 < n → RoundsHalfAway ((e.ring.take n).map RingEntry.mass).sum n average)
        ∧ RoundsHalfAway (average - e.tracked) (1000 * r.division) rounded
        ∧ e.judge r =
          (if e.overload then (.over, none)
          else if e.gapLatch then (.invalid, none)
          else if e.ring.length < n then (.filling, none)
          else if 1000 * r.division * rounded > 1000 * (r.capacity + 9 * r.division) then (.over, none)
          else if 1000 * r.division * rounded < -(20000 * r.division) then (.under, none)
          else if e.stable ≥ r.settleCount then (.stable, some (1000 * r.division * rounded))
          else (.motion, some (1000 * r.division * rounded))))
  ∧ ∀ (e : DeckEngine) (r : DeckRecord),
    let latched (ring : List RingEntry) (n : Nat) (latch : Bool) : Bool :=
      if 4 < ((ring.take n).map RingEntry.gap).sum then true
      else if n ≤ ring.length ∧ ∀ x ∈ ring.take n, x.gap = 0 then false
      else latch
    (e.rejudged r true = { e with judged := .invalid, value := none }
      ∧ let f : DeckEngine := { e with gapLatch := latched e.ring (match e.profile with
          | .nominal => r.nominalWindow
          | .transit => r.transitWindow) e.gapLatch }
        e.rejudged r false = { f with judged := (f.judge r).1, value := (f.judge r).2 })
    ∧ ∀ (g : SampleGroup) (missing : Nat),
      let a := e.accepted r g missing
      let n := match e.profile with
        | .nominal => r.nominalWindow
        | .transit => r.transitWindow
      let ring : List RingEntry :=
        if g.isSaturated then e.ring
        else ({ mass := rawMass r g.counts, gap := min 254 (e.pendingGap + missing) } :: e.ring).take 64
      let moves : Bool := (ring.take n).any fun x => (ring.take n).any fun y =>
        decide (((250 * r.motionBand * r.division : Nat) : Int) < x.mass - y.mass)
      let stable : Nat :=
        if g.isSaturated = true ∨ missing ≠ 0 then 0
        else if ring.length < n then e.stable
        else if moves then 0
        else min 255 (e.stable + 1)
      let m : DeckEngine := { e with
        ring := ring, overload := g.isSaturated, stable := stable
        gapLatch := if g.isSaturated then e.gapLatch else latched ring n e.gapLatch }
      let occupancy : Occupancy := match m.judge r with
        | (.over, _) => .occupied
        | (.under, _) => .empty
        | (_, none) => e.occupancy
        | (_, some w) =>
          if ((1000 * r.occupancyThreshold * r.division : Nat) : Int) ≤ w then .occupied
          else if w < ((500 * r.occupancyThreshold * r.division : Nat) : Int) then .empty
          else e.occupancy
      let ends : Bool := e.profile == .transit && decide (e.span ≤ 1)
      let switches : Bool := occupancy != e.occupancy && r.transitSpan != 0
      let latch : Bool := if ends then latched ring r.nominalWindow m.gapLatch else m.gapLatch
      a.occupancy = occupancy
        ∧ a.profile = (if switches then .transit else if ends then .nominal else e.profile)
        ∧ a.span = (if switches then r.transitSpan else if e.profile = .transit then e.span - 1 else e.span)
        ∧ a.stable = (if switches ∨ ends then 0 else stable)
        ∧ a.gapLatch = (if switches then latched ring r.transitWindow latch else latch)
        ∧ a.judged = (a.judge r).1 ∧ a.value = (a.judge r).2
        ∧ a.restIdle = (if occupancy ≠ e.occupancy ∧ e.state = .active then some 0 else e.restIdle)
        ∧ a.ring = ring ∧ a.overload = g.isSaturated
        ∧ a = { e with last := a.last, sample := a.sample, pendingGap := a.pendingGap, ring := a.ring,
                       overload := a.overload, stable := a.stable, gapLatch := a.gapLatch, judged := a.judged,
                       value := a.value, occupancy := a.occupancy, profile := a.profile, span := a.span,
                       restIdle := a.restIdle }

/-- An accepted group: "last", the sample number, the pending gap and the ring, for a saturated group and for one that gives a
raw mass; missing samples leave the stable count at 0 (R2, R3, R7), with what makes a group saturated (R2) and the rounding; the motion test, the stable count, the gap latch, the
occupancy, the transit span and the profile of an accepted group are said by JudgedState. A group that finds the deck state, the
excitation fault or "last" against it has no effect (R1, R3, R4). What the deck state makes of an accepted group: zero capture
with its failure (R25 to R27), the stream and its count (R22), the tracking count (R28, R29), the end of WAKING (R38) and the
wake of WARM-REST (R37); READING before ZERO-LIMIT and a tracking count of 0 as WAKING ends are the model's choices (log entries
43 and 44), and that they read the judged state after any re-judgement is log entry 11 (DEDUCED); that they are handled in the
step of the group is log entry 36 (DEDUCED). -/
def Obligations.SampleGroupAccepted : Prop :=
  (∀ (s : State) (d : DeckId) (g : SampleGroup) (r : DeckRecord) (missing : Nat), (s.deck d).record = some r →
      s.excited d = false → sequenceCheck (s.deck d).last g.sequence = some missing →
      let a := (s.deck d).accepted r g missing
      let n := match a.profile with
        | .nominal => r.nominalWindow
        | .transit => r.transitWindow
      let average := roundDiv ((a.ring.take n).map RingEntry.mass).sum n
      ((s.deck d).state = .capturing → ∀ z, (s.deck d).zeros = some z →
        let c : DeckEngine := { a with captureCount := a.captureCount + 1, trackingCount := 0 }
        let passes : Prop := a.judged = .stable ∧ (average - z.refZero).natAbs ≤ 100 * r.capacity
        (passes → s.deckGroup d g = (s.setDeck d { c with
          zeros := some { z with captured := average, tracked := average }, zeroLimit := false, ring := [], stable := 0,
          pendingGap := 0, gapLatch := false, overload := false, last := none, judged := .filling, value := none,
          captureCount := 0 }).enterDeckState d .active)
        ∧ (¬ passes → a.captureCount + 1 < 1250 → s.deckGroup d g = (s.setDeck d c).replaceReading d)
        ∧ (¬ passes → 1250 ≤ a.captureCount + 1 → s.RoomForReport →
          s.deckGroup d g = ((s.setDeck d c).enterDeckState d .fault).reported (.zeroFail d)))
      ∧ ((s.deck d).state = .active →
        s.deckGroup d g = (((s.setDeck d a).replaceReading d).streamGroup d).trackGroup d r)
      ∧ ((s.deck d).state = .waking →
        let u := s.setDeck d { a with trackingCount := 0 }
        (n ≤ a.ring.length → s.deckGroup d g = u.enterDeckState d .active)
        ∧ (a.ring.length < n → s.deckGroup d g = u.replaceReading d))
      ∧ ((s.deck d).state = .warmRest →
        let u := ((s.setDeck d a).replaceReading d).trackGroup d r
        (a.occupancy = .empty → s.deckGroup d g = u)
        ∧ (a.occupancy = .occupied → s.deckGroup d g = u.enterDeckState d .waking)))
    ∧ (∀ (s : State) (d : DeckId),
      ((s.deck d).streamInterval = 0 → s.streamGroup d = s)
      ∧ ((s.deck d).streamInterval ≠ 0 → (s.deck d).state = .active →
        ((s.deck d).streamCount + 1 < (s.deck d).streamInterval →
          s.streamGroup d = s.setDeck d { s.deck d with streamCount := (s.deck d).streamCount + 1 })
        ∧ ((s.deck d).streamInterval ≤ (s.deck d).streamCount + 1 → s.RoomForReport →
          s.streamGroup d = (s.setDeck d { s.deck d with streamCount := 0 }).reported (.reading (s.deck d).reading))))
    ∧ (∀ (s : State) (d : DeckId) (r : DeckRecord), (s.deck d).record = some r →
      let qualifies : Prop := r.zeroTracking = true ∧ (s.deck d).zeroLimit = false
        ∧ ((s.deck d).state = .active ∨ (s.deck d).state = .warmRest) ∧ (s.deck d).judged = .stable
        ∧ (s.deck d).value = some 0 ∧ (s.arbiter d).holder = none
      let counted : State := s.setDeck d { s.deck d with trackingCount := (s.deck d).trackingCount + 1 }
      (¬ qualifies → s.trackGroup d r = s.setDeck d { s.deck d with trackingCount := 0 })
      ∧ (qualifies → (s.deck d).trackingCount + 1 < 125 → s.trackGroup d r = counted)
      ∧ (qualifies → 125 ≤ (s.deck d).trackingCount + 1 → exec (.trackingStep d) counted = .next (s.trackGroup d r)))
    ∧ (∀ (e : DeckEngine) (r : DeckRecord) (g : SampleGroup) (missing : Nat),
      let a := e.accepted r g missing
      a.last = some g.sequence ∧ a.sample = min 4294967295 (e.sample + 1) ∧ a.zeros = e.zeros
        ∧ a.state = e.state ∧ a.record = e.record
        ∧ (g.isSaturated = true →
          a.ring = e.ring ∧ a.overload = true ∧ a.stable = 0 ∧ a.pendingGap = min 254 (e.pendingGap + missing)
            ∧ a.judged = .over ∧ a.value = none ∧ a.occupancy = .occupied)
        ∧ (g.isSaturated = false →
          a.ring = ({ mass := rawMass r g.counts, gap := min 254 (e.pendingGap + missing) } :: e.ring).take 64
            ∧ a.pendingGap = 0 ∧ a.overload = false ∧ (missing ≠ 0 → a.stable = 0)))
    ∧ (∀ g : SampleGroup, g.isSaturated = true ↔
      ∃ p ∈ [(g.saturated.c1, g.counts.c1), (g.saturated.c2, g.counts.c2), (g.saturated.c3, g.counts.c3),
        (g.saturated.c4, g.counts.c4)], p.1 = true ∨ p.2 = 8388607 ∨ p.2 = -8388608)
    ∧ (∀ (x : Int) (n : Nat), 0 < n → RoundsHalfAway x n (roundDiv x n))
    ∧ (∀ (k number : Nat), k < 256 → number < 256 →
        sequenceCheck none number = some 0
          ∧ sequenceCheck (some k) number = (if number = k then none else some ((number + 255 - k) % 256)))
    ∧ ∀ (s : State) (d : DeckId) (g : SampleGroup) (r : DeckRecord), (s.deck d).record = some r →
      ((s.deck d).state = .waiting ∨ (s.deck d).state = .coldRest ∨ (s.deck d).state = .fault ∨ s.excited d = true
        ∨ (s.deck d).last = some g.sequence) → s.deckGroup d g = s

/-- What entry into a deck state does: the state, the tracking count, the digitizer's command code and the published reading
of the table of R31, the window clear of CAPTURING and WAKING (R8, R25, R37; INVALID under an excitation fault, R4), the capture
count of CAPTURING, the counts of ACTIVE (R40) with its rest idle timer (R34), which stops in the other states; every other field
of the engine, the digitizer's slot and the block stands. And the reading record as it is replaced (R19, R20): the judged state and value of
an ACTIVE deck, RESTING or INVALID with no value in the other states, with the flags, the sample number and the time stamp. -/
def Obligations.DeckStateEntered : Prop :=
  (∀ (s : State) (d : DeckId),
    let e := s.deck d
    s.replaceReading d = s.setDeck d { e with reading :=
      { deck := d, sample := e.sample, profile := e.profile, zeroLimit := e.zeroLimit
        stamp := if s.clock.set then some s.clock.seconds else none
        degraded := match e.record with
          | none => false
          | some r => (s.slot r.digitizer).degraded
        state := match e.state with
          | .active => e.judged.reading
          | .capturing | .waking | .warmRest | .coldRest => .resting
          | .unconfigured | .waiting | .fault => .invalid
        value := if e.state = .active then e.value else none } })
  ∧ (∀ (s : State) (d : DeckId), s.excited d = true ↔ ∃ r c, (s.deck d).record = some r
    ∧ (s.station r.digitizer).state = .enrolled ∧ (s.slot r.digitizer).taken = some c ∧ 3 ≤ c.toNat)
  ∧ (∀ s : State, s.now = if s.clock.set then some s.clock.seconds else none)
  ∧ Judged.filling.reading = .filling ∧ Judged.motion.reading = .motion ∧ Judged.stable.reading = .stable
  ∧ Judged.over.reading = .over ∧ Judged.under.reading = .under ∧ Judged.invalid.reading = .invalid
  ∧ ∀ (s : State) (d : DeckId) (st : DeckState) (r : DeckRecord), (s.deck d).record = some r → st ≠ .unconfigured →
    let t := s.enterDeckState d st
    let e := s.deck d
    let clears : Bool := st == .capturing || st == .waking
    let active : Bool := st == .active
    let entered : DeckEngine := { e with
      state := st, trackingCount := 0, restIdle := if active then some 0 else none
      sample := if active then 0 else e.sample
      streamCount := if active then 0 else e.streamCount
      captureCount := if st = .capturing then 0 else e.captureCount
      ring := if clears then [] else e.ring
      stable := if clears then 0 else e.stable
      pendingGap := if clears then 0 else e.pendingGap
      gapLatch := if clears then false else e.gapLatch
      overload := if clears then false else e.overload
      last := if clears then none else e.last
      judged := if clears then (if s.excited d then .invalid else .filling) else e.judged
      value := if clears then none else e.value }
    let command : Command := match st with
      | .capturing | .active | .waking => .full
      | .warmRest => .reduced
      | .waiting | .coldRest | .fault | .unconfigured => .off
    t = ((s.setDeck d entered).setSlot r.digitizer { s.slot r.digitizer with command := command }).replaceReading d
      ∧ (t.deck d).state = st ∧ (t.deck d).record = some r ∧ (t.deck d).trackingCount = 0
      ∧ (t.deck d).zeros = (s.deck d).zeros ∧ (t.deck d).zeroLimit = (s.deck d).zeroLimit
      ∧ (t.deck d).occupancy = (s.deck d).occupancy ∧ (t.deck d).profile = (s.deck d).profile
      ∧ (t.slot r.digitizer).command = (match st with
          | .capturing | .active | .waking => .full
          | .warmRest => .reduced
          | .waiting | .coldRest | .fault | .unconfigured => .off)
      ∧ (t.deck d).reading.stamp = s.now
      ∧ (match st with
          | .active => (t.deck d).reading.state = (s.deck d).judged.reading ∧ (t.deck d).reading.value = (s.deck d).value
              ∧ (t.deck d).sample = 0 ∧ (t.deck d).reading.sample = 0 ∧ (t.deck d).streamCount = 0
              ∧ (t.deck d).restIdle = some 0
          | .capturing => (t.deck d).reading.state = .resting ∧ (t.deck d).reading.value = none ∧ (t.deck d).ring = []
              ∧ (t.deck d).stable = 0 ∧ (t.deck d).captureCount = 0 ∧ (t.deck d).last = none
          | .waking => (t.deck d).reading.state = .resting ∧ (t.deck d).reading.value = none ∧ (t.deck d).ring = []
              ∧ (t.deck d).stable = 0 ∧ (t.deck d).last = none
          | .warmRest | .coldRest => (t.deck d).reading.state = .resting ∧ (t.deck d).reading.value = none
          | .waiting | .fault | .unconfigured => (t.deck d).reading.state = .invalid ∧ (t.deck d).reading.value = none)
      ∧ (∀ m, m ≠ d → t.deck m = s.deck m) ∧ (∀ n, n ≠ r.digitizer → t.slot n = s.slot n)
      ∧ t = { s with decks := t.decks, slots := t.slots }

/-- TRANSIT_SPAN_END, WAKING_COMPLETE and ZERO_FAIL: the profile returns to NOMINAL and the ring is re-judged (R18); a WAKING
deck whose window is filled enters ACTIVE (R38), with no group handled by the model's choice (log entry 45); a capture of 1,250
groups enters FAULT with its ANOMALY report (R27). The lanes of the deck then see the record replaced; that the ANOMALY ZERO-FAIL
of the Deck Engine stands before their LANE reports is the model's choice (log entry 26, DESIGN CHOICE: R27 and R185 order no
reports of different blocks). And what a deck makes of its digitizer's code, handed to it as one taken anew: EXCITATION-FAULT, or
a value that counts as it (R146), clears the window and judges INVALID, any other code after it judges FILLING, and the record is
replaced; any other change of code does nothing (R4, R8). -/
def Obligations.DeckEvents : Prop :=
  (∀ (s : State) (d : DeckId) (r : DeckRecord) (before : Option Code) (c : Code), (s.deck d).record = some r →
    (s.station r.digitizer).state = .enrolled → (s.slot r.digitizer).taken = some c →
    let e := s.deck d
    let wasFault : Prop := ∃ b : Code, before = some b ∧ 3 ≤ b.toNat
    (3 ≤ c.toNat → s.deckCode d before c = (s.setDeck d { e with
      ring := [], stable := 0, pendingGap := 0, gapLatch := false, overload := false, last := none, judged := .invalid,
      value := none, trackingCount := 0
      captureCount := if e.state = .capturing then 0 else e.captureCount }).replaceReading d)
    ∧ (c.toNat < 3 → wasFault →
      s.deckCode d before c = (s.setDeck d { e with judged := .filling, value := none }).replaceReading d)
    ∧ (c.toNat < 3 → ¬ wasFault → s.deckCode d before c = s))
  ∧ ∀ (s : State) (d : DeckId) (r : DeckRecord), (s.deck d).record = some r →
    ((s.deck d).profile = .transit → (s.deck d).span = 0 → exec (.transitSpanEnd d) s = .next
      (((s.setDeck d (DeckEngine.rejudged { s.deck d with profile := .nominal, stable := 0 } r (s.excited d))).replaceReading d).deckTold d))
    ∧ ((s.deck d).state = .waking →
      (match (s.deck d).profile with
        | .nominal => r.nominalWindow
        | .transit => r.transitWindow) ≤ (s.deck d).ring.length →
      exec (.wakingComplete d) s = .next ((s.enterDeckState d .active).deckTold d))
    ∧ ((s.deck d).state = .capturing → 1250 ≤ (s.deck d).captureCount → s.RoomForReport →
      exec (.zeroFail d) s = .next (((s.enterDeckState d .fault).reported (.zeroFail d)).deckTold d))

/-- READING_STREAM posts the reading record and starts its count again (R22); STREAM_DECK and READ_DECK with each of
their replies (R21, R22). -/
def Obligations.ReadingsToOffice : Prop :=
  (∀ (s : State) (d : DeckId), (s.deck d).state = .active → (s.deck d).streamInterval ≠ 0 →
      (s.deck d).streamInterval ≤ (s.deck d).streamCount → s.RoomForReport →
      exec (.readingStream d) s = .next
        ((s.setDeck d { s.deck d with streamCount := 0 }).reported (.reading (s.deck d).reading)))
    ∧ (∀ (s : State) (h : Request) (rest : List Request) (d : DeckId) (k : Nat), s.HasHead 17 h rest →
        (k ≤ 255 → exec (.streamDeck (.fits { deck := d.val + 1, interval := k })) s = .next
          ((s.setDeck d { s.deck d with streamInterval := k, streamCount := 0 }).replied h rest .ok .none))
        ∧ (255 < k → exec (.streamDeck (.fits { deck := d.val + 1, interval := k })) s = .next
          (s.replied h rest .bad .none))
        ∧ ∀ m, (m = 0 ∨ 4 < m) →
          exec (.streamDeck (.fits { deck := m, interval := k })) s = .next (s.replied h rest .bad .none))
    ∧ ∀ (s : State) (h : Request) (rest : List Request) (d : DeckId), s.HasHead 18 h rest →
      exec (.readDeck (.fits (d.val + 1))) s = .next (s.replied h rest .ok (.deckStatus
        { state := (s.deck d).state, reading := (s.deck d).reading, occupancy := (s.deck d).occupancy,
          span := (s.deck d).span, stable := (s.deck d).stable, fill := (s.deck d).ring.length,
          streamInterval := (s.deck d).streamInterval, zeros := (s.deck d).zeros,
          zeroLimit := if (s.deck d).state = .unconfigured then none else some (s.deck d).zeroLimit }))
      ∧ ∀ m, (m = 0 ∨ 4 < m) → exec (.readDeck (.fits m)) s = .next (s.replied h rest .bad .none)

/-- TRACKING_STEP: T moves by W_f clamped to a quarter division while it stays within 2 % of capacity of Zc, the bound
itself allowed; else T is set to the bound on that side, ZERO-LIMIT is set and an ANOMALY is posted (R29). W_f is the average of
the window less T (R10), rounded as SampleGroupAccepted says. -/
def Obligations.TrackingStep : Prop :=
  (∀ (e : DeckEngine) (r : DeckRecord) (z : Zeros), e.zeros = some z →
    let n := match e.profile with
      | .nominal => r.nominalWindow
      | .transit => r.transitWindow
    e.tracked = z.tracked ∧ e.filtered r = roundDiv ((e.ring.take n).map RingEntry.mass).sum n - z.tracked)
  ∧ ∀ (s : State) (d : DeckId) (r : DeckRecord) (z : Zeros), (s.deck d).record = some r → (s.deck d).zeros = some z →
    125 ≤ (s.deck d).trackingCount →
    let step : Int := max (-(250 * r.division : Nat)) (min (250 * r.division : Nat) ((s.deck d).filtered r))
    ((z.tracked + step - z.captured).natAbs ≤ 20 * r.capacity →
      exec (.trackingStep d) s = .next
        (s.setDeck d { s.deck d with zeros := some { z with tracked := z.tracked + step }, trackingCount := 0 }))
    ∧ (20 * r.capacity < z.tracked + step - z.captured → s.RoomForReport →
      exec (.trackingStep d) s = .next
        ((s.setDeck d { s.deck d with zeros := some { z with tracked := z.captured + 20 * r.capacity },
                                      trackingCount := 0, zeroLimit := true }).reported (.zeroLimit d)))
    ∧ (z.tracked + step - z.captured < -(20 * r.capacity : Nat) → s.RoomForReport →
      exec (.trackingStep d) s = .next
        ((s.setDeck d { s.deck d with zeros := some { z with tracked := z.captured - 20 * r.capacity },
                                      trackingCount := 0, zeroLimit := true }).reported (.zeroLimit d)))

/-- The rest attempt of R35, made by REST_ATTEMPT when the rest idle timer has run the rest idle time (R34) and by REST_DECK with
its replies (R36): when it succeeds, which rest it chooses, and what a failed one leaves. That REST_DECK does not run the tests
of the deck's lanes is log entry 33 (DEDUCED). -/
def Obligations.RestAttempts : Prop :=
  (∀ (s : State) (d : DeckId) (k : RestKind), s.restOutcome d = some k ↔
      ((s.deck d).state = .active ∧ (s.arbiter d).holder = none ∧ (s.deck d).occupancy = .empty
        ∧ (s.deck d).reading.state = .stable
        ∧ (∀ l r, s.laneRecord l = some r → r.deck = d → (s.lane l).state = .idle ∨ (s.lane l).state = .closed)
        ∧ (k = .warm ↔ (∃ l r, s.laneRecord l = some r ∧ r.deck = d ∧ r.direction ≠ .inward)
            ∧ ∃ v ∈ s.visits, v.state = .open_ ∨ v.state = .ticketed)
        ∧ ∃ r, (s.deck d).record = some r ∧ (match k with
            | .warm => (s.station r.digitizer).abilities.reducedRate = true
            | .cold => (s.station r.digitizer).abilities.off = true)))
    ∧ (∀ (s : State) (d : DeckId) (r : DeckRecord) (f : Nat), (s.deck d).record = some r → (s.deck d).state = .active →
        r.restIdleTime ≠ 0 → (s.deck d).restIdle = some f → r.restIdleTime * 1000 ≤ f →
        (s.restOutcome d = some .warm → exec (.restAttempt d) s = .next ((s.enterDeckState d .warmRest).deckTold d))
        ∧ (s.restOutcome d = some .cold → exec (.restAttempt d) s = .next ((s.enterDeckState d .coldRest).deckTold d))
        ∧ (s.restOutcome d = none →
          exec (.restAttempt d) s = .next ((s.setDeck d { s.deck d with restIdle := some 0 }).deckTold d)))
    ∧ ∀ (s : State) (h : Request) (rest : List Request) (d : DeckId), s.HasHead 15 h rest →
      (s.restOutcome d = some .warm → exec (.restDeck (.fits (d.val + 1))) s = .next
        ((s.enterDeckState d .warmRest).replied h rest .ok (.rest .warm)))
      ∧ (s.restOutcome d = some .cold → exec (.restDeck (.fits (d.val + 1))) s = .next
        ((s.enterDeckState d .coldRest).replied h rest .ok (.rest .cold)))
      ∧ (s.restOutcome d = none → (s.deck d).state = .active → exec (.restDeck (.fits (d.val + 1))) s = .next
        ((s.setDeck d { s.deck d with restIdle := some 0 }).replied h rest .busy .none))
      ∧ (s.restOutcome d = none → (s.deck d).state ≠ .active → exec (.restDeck (.fits (d.val + 1))) s = .next
        (s.replied h rest .busy .none))
      ∧ ∀ m, (m = 0 ∨ 4 < m) → exec (.restDeck (.fits m)) s = .next (s.replied h rest .bad .none)

/-- WAKE_DECK answers by the deck state it finds: a wake event in the two rests, CAPTURING from FAULT, no effect in the other
configured states, BUSY in UNCONFIGURED and WAITING; a deck outside A–D is BAD (R39). That it does not run the tests of the
deck's lanes is log entry 33 (DEDUCED). -/
def Obligations.WakeDeck : Prop :=
  ∀ (s : State) (h : Request) (rest : List Request) (d : DeckId), s.HasHead 16 h rest →
    ((s.deck d).state = .warmRest → exec (.wakeDeck (.fits (d.val + 1))) s = .next
      ((s.enterDeckState d .waking).replied h rest .ok .none))
    ∧ ((s.deck d).state = .coldRest ∨ (s.deck d).state = .fault → exec (.wakeDeck (.fits (d.val + 1))) s = .next
      ((s.enterDeckState d .capturing).replied h rest .ok .none))
    ∧ ((s.deck d).state = .capturing ∨ (s.deck d).state = .waking ∨ (s.deck d).state = .active →
      exec (.wakeDeck (.fits (d.val + 1))) s = .next (s.replied h rest .ok .none))
    ∧ ((s.deck d).state = .unconfigured ∨ (s.deck d).state = .waiting →
      exec (.wakeDeck (.fits (d.val + 1))) s = .next (s.replied h rest .busy .none))
    ∧ ∀ m, (m = 0 ∨ 4 < m) → exec (.wakeDeck (.fits m)) s = .next (s.replied h rest .bad .none)

/-- ZERO_DECK answers by the first line of the table of R30 that applies; on OK T becomes the average of the newest N raw
masses, ZERO-LIMIT is cleared and the tracking count becomes 0. -/
def Obligations.ZeroDeck : Prop :=
  ∀ (s : State) (h : Request) (rest : List Request) (d : DeckId), s.HasHead 14 h rest →
    ((s.deck d).state ≠ .active ∨ (s.arbiter d).holder ≠ none →
      exec (.zeroDeck (.fits (d.val + 1))) s = .next (s.replied h rest .busy .none))
    ∧ (∀ r z, (s.deck d).state = .active → (s.arbiter d).holder = none → (s.deck d).record = some r →
      (s.deck d).zeros = some z →
      let n := match (s.deck d).profile with
        | .nominal => r.nominalWindow
        | .transit => r.transitWindow
      let average := roundDiv (((s.deck d).ring.take n).map RingEntry.mass).sum n
      ((s.deck d).reading.state ≠ .stable →
        exec (.zeroDeck (.fits (d.val + 1))) s = .next (s.replied h rest .motion .none))
      ∧ ((s.deck d).reading.state = .stable → 20 * r.capacity < (average - z.captured).natAbs →
        exec (.zeroDeck (.fits (d.val + 1))) s = .next (s.replied h rest .range .none))
      ∧ ((s.deck d).reading.state = .stable → (average - z.captured).natAbs ≤ 20 * r.capacity →
        exec (.zeroDeck (.fits (d.val + 1))) s = .next
          ((s.setDeck d { s.deck d with zeros := some { z with tracked := average }, zeroLimit := false,
                                        trackingCount := 0 }).replied h rest .ok (.newZero average))))
    ∧ ∀ m, (m = 0 ∨ 4 < m) → exec (.zeroDeck (.fits m)) s = .next (s.replied h rest .bad .none)

/-- LOAD_DECK by the first line of the table of R56 that applies, and what an accepted load leaves in its engine: the record, the
zero state from the new Z0, an empty window, occupancy, profile, span and counts, and CAPTURING or WAITING by the digitizer's
station (R23, R24, R32); the lanes of the deck see it, a slot whose station lost its last role carries NONE, a REJECTED station
whose role changed attempts anew, and an ENROLLED digitizer that gained the role has its taken code handed on (R57, R145, R147,
R176), the blocks in the order of log entry 26 (DESIGN CHOICE). That the code so handed on has no code before it, and that a role
is gained where the deck newly names the station, which the role checks leave to one that had none, is log entry 16 (DEDUCED,
unsafe). The record is the fields that meet the requirements of R55 with its defaults and clamps; the role checks are those of
R52. -/
def Obligations.LoadDeck : Prop :=
  (∀ (v : DeckLoad) (r : DeckRecord), deckRecordOf v = some r ↔
    (v.digitizer = r.digitizer.val + 1
      ∧ (∀ z ∈ [v.zeros.c1, v.zeros.c2, v.zeros.c3, v.zeros.c4], -8388608 ≤ z ∧ z ≤ 8388607)
      ∧ (∀ k ∈ [v.factors.c1, v.factors.c2, v.factors.c3, v.factors.c4], 32768 ≤ k ∧ k ≤ 131072)
      ∧ 1 ≤ v.scale ∧ v.scale ≤ 65535 ∧ v.division ∈ [1, 2, 5, 10, 20, 50] ∧ 1000 ≤ v.capacity ∧ v.capacity ≤ 200000
      ∧ v.capacity % v.division = 0 ∧ 500 ≤ v.capacity / v.division ∧ v.capacity / v.division ≤ 10000
      ∧ v.refZero.natAbs ≤ 1000 * v.capacity
      ∧ v.nominalWindow.getD 32 ∈ [8, 16, 32, 64] ∧ v.transitWindow.getD 8 ∈ [4, 8, 16]
      ∧ r.zeros = v.zeros ∧ r.factors = v.factors ∧ r.scale = v.scale ∧ r.division = v.division ∧ r.capacity = v.capacity
      ∧ r.refZero = v.refZero ∧ r.nominalWindow = v.nominalWindow.getD 32
      ∧ r.transitWindow = min (v.transitWindow.getD 8) (v.nominalWindow.getD 32)
      ∧ r.settleCount = max 1 (min 255 (v.settleCount.getD 50))
      ∧ r.motionBand = max 1 (min 20 (v.motionBand.getD 4))
      ∧ r.occupancyThreshold = min (max 5 (min 1000 (v.occupancyThreshold.getD 50))) (v.capacity / v.division)
      ∧ r.transitSpan = min 2000 (v.transitSpan.getD 250)
      ∧ r.restIdleTime = min 255 (v.restIdleTime.getD 120)
      ∧ r.zeroTracking = v.zeroTracking.getD true))
  ∧ (∀ (s : State) (d : DeckId) (r : DeckRecord), s.deckRolesPass d r = true ↔
    ((∀ l x, s.laneRecord l = some x → x.entryBarrier ≠ r.digitizer ∧ x.exitBarrier ≠ r.digitizer
        ∧ x.terminal ≠ r.digitizer ∧ x.reader ≠ some r.digitizer)
      ∧ (∀ e x, e ≠ d → (s.deck e).record = some x → x.digitizer ≠ r.digitizer)
      ∧ ((s.station r.digitizer).state = .enrolled → (s.station r.digitizer).kind = some .digitizer)))
  ∧ ∀ (s : State) (h : Request) (rest : List Request) (v : DeckLoadRequest), s.HasHead 13 h rest →
    ((deckOf v.deck = none ∨ deckRecordOf v.record = none) →
      exec (.loadDeck (.fits v)) s = .next (s.replied h rest .bad .none))
    ∧ ∀ d r, deckOf v.deck = some d → deckRecordOf v.record = some r →
      ((s.arbiter d).holder ≠ none → exec (.loadDeck (.fits v)) s = .next (s.replied h rest .busy .none))
      ∧ ((s.arbiter d).holder = none → s.deckRolesPass d r = false →
        exec (.loadDeck (.fits v)) s = .next (s.replied h rest .bad .none))
      ∧ ((s.arbiter d).holder = none → s.deckRolesPass d r = true →
        exec (.loadDeck (.fits v)) s = .next ((s.storeDeck d r).replied h rest .ok (.deckRecord r))
          ∧ ((s.storeDeck d r).deck d).record = some r
          ∧ ((s.storeDeck d r).deck d).zeros = some { refZero := r.refZero, captured := r.refZero, tracked := r.refZero }
          ∧ ((s.storeDeck d r).deck d).zeroLimit = false ∧ ((s.storeDeck d r).deck d).ring = []
          ∧ ((s.storeDeck d r).deck d).state = (if (s.station r.digitizer).state = .enrolled then .capturing else .waiting)
          ∧ (∀ m, m ≠ d → ((s.storeDeck d r).deck m).record = (s.deck m).record)
          ∧
          let enrolled : Bool := (s.station r.digitizer).state == .enrolled
          let excited : Bool := enrolled && (s.slot r.digitizer).taken.any fun c => decide (3 ≤ c.toNat)
          let loaded : DeckEngine := { s.deck d with
            record := some r, zeros := some { refZero := r.refZero, captured := r.refZero, tracked := r.refZero }
            zeroLimit := false, ring := [], stable := 0, pendingGap := 0, gapLatch := false, overload := false, last := none
            judged := if excited then .invalid else .filling, value := none, occupancy := .empty, profile := .nominal
            span := 0, sample := 0, streamCount := 0, trackingCount := 0
            captureCount := if (s.deck d).state = .capturing then 0 else (s.deck d).captureCount }
          let entered : State :=
            ((s.setDeck d loaded).enterDeckState d (if enrolled then .capturing else .waiting)).deckTold d
          let anew (x : Station) : Station := { x with
            state := .alive, window := 0, pages := [], failed := 0, rejection := none
            send := { x.send with waiting := match x.send.waiting with
              | some (.rejected _) => none
              | w => w } }
          ∃ base : State, base = { entered with slots := base.slots, stations := base.stations }
            ∧ (∀ n, base.slot n = if s.role n ≠ none ∧ base.role n = none then { entered.slot n with command := .none }
                else entered.slot n)
            ∧ (∀ n, base.station n = if (entered.station n).state = .rejected ∧ s.role n ≠ base.role n then anew (entered.station n)
                else entered.station n)
            ∧ (∀ c, s.role r.digitizer = none → (base.station r.digitizer).state = .enrolled →
                (base.slot r.digitizer).taken = some c → s.storeDeck d r = (base.deckCode d none c).deckTold d)
            ∧ (s.role r.digitizer ≠ none ∨ (base.station r.digitizer).state ≠ .enrolled ∨ (base.slot r.digitizer).taken = none →
                s.storeDeck d r = base))

/-! ## Vehicle, category and lane tables -/

/-- The vehicle record a load gives, exactly when every requirement of the table of R42 is met; the characters and the length of
an ident (00_scope.md, section 6). -/
def Obligations.VehicleRecordChecks : Prop :=
  (∀ c : Char, identChar c = true ↔ ('A' ≤ c ∧ c ≤ 'Z') ∨ ('0' ≤ c ∧ c ≤ '9') ∨ c = '-')
  ∧ (∀ t : Text, validIdent t = true ↔ 1 ≤ t.length ∧ t.length ≤ 16 ∧ ∀ c ∈ t, identChar c = true)
  ∧ ∀ (v : VehicleLoad) (r : VehicleRecord), vehicleRecord v = some r ↔
    (1 ≤ v.ident.length ∧ v.ident.length ≤ 16 ∧ (∀ c ∈ v.ident, identChar c = true)
      ∧ v.account = some r.account ∧ 1 ≤ r.account ∧ r.account ≤ 999999
      ∧ v.status = some r.status ∧ v.tarePolicy = some r.tarePolicy
      ∧ (r.tarePolicy ≠ .weighEach → r.storedTare ≠ none)
      ∧ (∀ k, r.storedTare = some k → 1 ≤ k ∧ k ≤ 200000)
      ∧ (r.storedTare = none → r.tareStamp = none)
      ∧ (∀ k, r.tareStamp = some k → k ≤ 4294967295)
      ∧ (∀ k, r.maxGross = some k → 1 ≤ k ∧ k ≤ 200000)
      ∧ (∀ k ∈ v.permitted, 1 ≤ k ∧ k ≤ 16)
      ∧ r.permitted = ((List.finRange 16).filter fun c => decide (c.val + 1 ∈ v.permitted))
      ∧ r.permitted ≠ [] ∧ v.defaultCategory = some (r.defaultCategory.val + 1) ∧ r.defaultCategory ∈ r.permitted
      ∧ r.ident = v.ident ∧ r.storedTare = v.storedTare ∧ r.tareStamp = v.tareStamp ∧ r.maxGross = v.maxGross)

/-- LOAD_VEHICLE, DROP_VEHICLE and READ_VEHICLE with each of their replies (R43, R44), and STORED_TARE_UPDATE on the record
of its ident or on none (R46); that an update asked for waits in a list until that command makes it is the model's own (log entry
8, DESIGN CHOICE). -/
def Obligations.VehicleRequests : Prop :=
  (∀ (s : State) (h : Request) (rest : List Request) (v : VehicleLoad), s.HasHead 1 h rest →
      (vehicleRecord v = none → exec (.loadVehicle (.fits v)) s = .next (s.replied h rest .bad .none))
      ∧ ∀ r, vehicleRecord v = some r →
        ((∃ x ∈ s.vehicles, x.ident = r.ident) → exec (.loadVehicle (.fits v)) s = .next
          (State.replied { s with vehicles := s.vehicles.map fun x => if x.ident = r.ident then r else x } h rest .ok
            (.vehicleCount s.vehicles.length)))
        ∧ ((∀ x ∈ s.vehicles, x.ident ≠ r.ident) → s.vehicles.length < 1024 → exec (.loadVehicle (.fits v)) s = .next
          (State.replied { s with vehicles := s.vehicles ++ [r] } h rest .ok (.vehicleCount (s.vehicles.length + 1))))
        ∧ ((∀ x ∈ s.vehicles, x.ident ≠ r.ident) → 1024 ≤ s.vehicles.length →
          exec (.loadVehicle (.fits v)) s = .next (s.replied h rest .full .none)))
    ∧ (∀ (s : State) (h : Request) (rest : List Request) (ident : Text), s.HasHead 2 h rest →
        (validIdent ident = true → (∃ x ∈ s.vehicles, x.ident = ident) →
          let left := s.vehicles.filter fun x => decide (x.ident ≠ ident)
          exec (.dropVehicle (.fits ident)) s = .next
            (State.replied { s with vehicles := left } h rest .ok (.vehicleCount left.length)))
        ∧ (validIdent ident = false ∨ (∀ x ∈ s.vehicles, x.ident ≠ ident) →
          exec (.dropVehicle (.fits ident)) s = .next (s.replied h rest .bad .none)))
    ∧ (∀ (s : State) (h : Request) (rest : List Request) (ident : Text), s.HasHead 3 h rest →
        (∀ before x after, s.vehicles = before ++ x :: after → x.ident = ident → (∀ y ∈ before, y.ident ≠ ident) →
          exec (.readVehicle (.fits ident)) s = .next (s.replied h rest .ok (.vehicle x s.vehicles.length)))
        ∧ ((∀ x ∈ s.vehicles, x.ident ≠ ident) →
          exec (.readVehicle (.fits ident)) s = .next (s.replied h rest .bad .none)))
    ∧ ∀ (s : State) (u : TareUpdate) (rest : List TareUpdate), s.tareUpdates = u :: rest →
      exec .storedTareUpdate s = .next
        { s with tareUpdates := rest,
                 vehicles := s.vehicles.map fun x =>
                   if x.ident = u.ident then { x with storedTare := some u.kg.toNat, tareStamp := u.stamp } else x }

/-- LOAD_CATEGORY: a number outside 1–16, a code that is not 1–8 characters of the ident rule or a missing setting is BAD;
otherwise the record is replaced whole, in any state; after power-on reset every record has no code and both settings no (R47). -/
def Obligations.LoadCategory : Prop :=
  (∀ c, State.reset.category c = { code := none, enabled := false, inspect := false })
  ∧ ∀ (s : State) (h : Request) (rest : List Request) (v : CategoryLoad), s.HasHead 4 h rest →
    (∀ (c : CategoryNo) (enabled inspect : Bool), v.number = c.val + 1 → 1 ≤ v.code.length → v.code.length ≤ 8 →
      (∀ x ∈ v.code, identChar x = true) → v.enabled = some enabled → v.inspect = some inspect →
      exec (.loadCategory (.fits v)) s = .next
        ((s.setCategory c { code := some v.code, enabled := enabled, inspect := inspect }).replied h rest .ok .none))
    ∧ (v.number = 0 ∨ 16 < v.number ∨ v.code = [] ∨ 8 < v.code.length ∨ (∃ x ∈ v.code, identChar x = false)
        ∨ v.enabled = none ∨ v.inspect = none →
      exec (.loadCategory (.fits v)) s = .next (s.replied h rest .bad .none))

/-- LOAD_LANE by the first line of the table of R50 that applies; an accepted load stands in the lane table and leaves the other
lane records as they were. A changed terminal has the lane's queue flushed (R136); a station in a barrier role keeps its barrier
record or gets a new one, one without it has none (R54, R103); the terminal carries SHOW-OFF, the reader DISARM, the slot of a
station that lost its last role or gained its first barrier role NONE (R54, R103, R147); a REJECTED station whose role changed
attempts anew (R57, R176); and the taken codes of ENROLLED stations that gained a role are handed on (R145), in slot order by the
model's choice (log entry 46), the blocks in the order of log entry 26 (DESIGN CHOICE). That a code so handed on has no code
before it, and that a role is gained by every deck or lane that newly names the station in it, a second barrier role among them,
is log entry 16 (DEDUCED, unsafe); that ENTRY exchanged for EXIT is a role gained is log entry 66 (DESIGN CHOICE); that the
lane's presence stands as it was under a terminal not ENROLLED is log entry 15 (DEDUCED, unsafe); that a lane finds the position
last told for a barrier record kept is log entry 10 (DEDUCED, unsafe). The record is the fields that meet the requirements of R49
with its defaults and clamps; the role checks are those of R52, the ident source that of R51, the deck sharing that of R53. -/
def Obligations.LoadLane : Prop :=
  (∀ (v : LaneLoad) (r : LaneRecord), laneRecordOf v = some r ↔
    (v.direction = some r.direction ∧ v.deck = r.deck.val + 1 ∧ v.entryBarrier = r.entryBarrier.val + 1
      ∧ v.exitBarrier = r.exitBarrier.val + 1 ∧ v.terminal = r.terminal.val + 1
      ∧ v.reader = r.reader.map (fun n => n.val + 1) ∧ v.unknownPolicy = some r.unknownPolicy
      ∧ v.cashCategory = r.cashCategory.map (fun c => c.val + 1)
      ∧ (r.unknownPolicy = .admitCash → r.cashCategory ≠ none)
      ∧ r.referralTimeout = max 10 (min 600 (v.referralTimeout.getD 120))
      ∧ r.tareTolerance = min 50 (v.tareTolerance.getD 5)
      ∧ r.motionLimit = max 1 (min 15 (v.motionLimit.getD 6))))
  ∧ (∀ (s : State) (l : LaneId) (r : LaneRecord),
    let crossed (x : LaneRecord) : Prop := x.deck = r.deck ∧ x.entryBarrier = r.exitBarrier ∧ x.exitBarrier = r.entryBarrier
      ∧ ((r.direction = .inward ∧ x.direction = .outward) ∨ (r.direction = .outward ∧ x.direction = .inward)
        ∨ (r.direction = .both ∧ x.direction = .both))
    let needs (n : StationId) (kind : StationKind) : Prop :=
      (s.station n).state = .enrolled → (s.station n).kind = some kind
    (s.identSource r = true ↔ (r.reader ≠ none ∨ (s.station r.terminal).state ≠ .enrolled
      ∨ (s.station r.terminal).abilities.cardReader = true))
    ∧ (s.sharingPasses l r = true ↔ (∀ m x, m ≠ l → s.laneRecord m = some x → x.deck = r.deck → crossed x)
      ∧ ∀ m k x y, m ≠ l → k ≠ l → s.laneRecord m = some x → s.laneRecord k = some y → x.deck = r.deck → y.deck = r.deck →
        m = k)
    ∧ (r.stations.Nodup → (s.laneRolesPass l r = true ↔
      ((∀ m x, m ≠ l → s.laneRecord m = some x →
          (∀ n ∈ r.terminal :: r.reader.toList, n ∉ x.stations) ∧ (∀ n ∈ x.terminal :: x.reader.toList, n ∉ r.stations)
          ∧ (crossed x ∨ ∀ n ∈ [r.entryBarrier, r.exitBarrier], n ≠ x.entryBarrier ∧ n ≠ x.exitBarrier))
        ∧ (∀ d x, (s.deck d).record = some x → x.digitizer ∉ r.stations)
        ∧ needs r.entryBarrier .barrierDrive ∧ needs r.exitBarrier .barrierDrive ∧ needs r.terminal .terminal
        ∧ ((s.station r.terminal).state = .enrolled → r.reader = none → (s.station r.terminal).abilities.cardReader = true)
        ∧ ∀ n, r.reader = some n → needs n .identReader))))
  ∧ ∀ (s : State) (h : Request) (rest : List Request) (v : LaneLoadRequest), s.HasHead 5 h rest →
    ((laneOf v.lane = none ∨ laneRecordOf v.record = none) →
      exec (.loadLane (.fits v)) s = .next (s.replied h rest .bad .none))
    ∧ ∀ l r, laneOf v.lane = some l → laneRecordOf v.record = some r →
      ((s.lane l).state ≠ .closed → exec (.loadLane (.fits v)) s = .next (s.replied h rest .busy .none))
      ∧ ((s.lane l).state = .closed →
          (¬ r.stations.Nodup ∨ s.laneRolesPass l r = false ∨ s.identSource r = false ∨ s.sharingPasses l r = false) →
          exec (.loadLane (.fits v)) s = .next (s.replied h rest .bad .none))
      ∧ ((s.lane l).state = .closed → r.stations.Nodup → s.laneRolesPass l r = true → s.identSource r = true →
          s.sharingPasses l r = true →
          exec (.loadLane (.fits v)) s = .next ((s.storeLane l r).replied h rest .ok (.laneRecord r))
            ∧ (s.storeLane l r).laneRecord l = some r
            ∧ (∀ m, m ≠ l → (s.storeLane l r).laneRecord m = s.laneRecord m)
            ∧ ((s.storeLane l r).barrier r.entryBarrier).isSome ∧ ((s.storeLane l r).barrier r.exitBarrier).isSome
            ∧
            let flushed : State := match s.laneRecord l with
              | none => s
              | some old => if old.terminal = r.terminal then s else s.flushQueue l .terminalLost
            let anew (x : Station) : Station := { x with
              state := .alive, window := 0, pages := [], failed := 0, rejection := none
              send := { x.send with waiting := match x.send.waiting with
                | some (.rejected _) => none
                | w => w } }
            ∃ base : State, base = { flushed with
                laneTable := s.laneTable.set l (some r), barriers := base.barriers, slots := base.slots
                stations := base.stations }
              ∧ (∀ n, base.role n = some .barrier → base.barrier n = some (match s.barrier n with
                  | some b => b
                  | none =>
                    { commanded := .none, position := .unknown, told := .unknown, loop := none, state := .unknown,
                      faultPosition := none, pendingLower := false, mode := .direct, edge := .none, staged := none,
                      limit := base.smallestLimit n, timer := none, obstructions := 0, awaitingReturn := false }))
              ∧ (∀ n, base.role n ≠ some .barrier → base.barrier n = none)
              ∧ (∀ n, base.slot n = { s.slot n with command :=
                  if n = r.terminal then .showOff
                  else if (r.reader = some n) then .disarm
                  else if (s.role n ≠ none ∧ base.role n = none) ∨ (base.role n = some .barrier ∧ s.barrier n = none) then .none
                  else (s.slot n).command })
              ∧ (∀ n, base.station n =
                  if (flushed.station n).state = .rejected ∧ s.role n ≠ base.role n then anew (flushed.station n)
                  else flushed.station n)
              ∧ s.storeLane l r = (allStations.filter fun n =>
                  decide ((∃ p ∈ base.rolePlaces n, p ∉ s.rolePlaces n) ∧ (base.station n).state = .enrolled)).foldl
                (fun t n => match (t.slot n).taken, t.role n with
                  | some c, some .digitizer => (match t.deckOfDigitizer n with
                    | none => t
                    | some d => (t.deckCode d none c).deckTold d)
                  | some c, some .barrier => t.barrierCode n c
                  | some c, some .reader => t.readerCode n none c
                  | some c, some (.terminal _) => (t.terminalCode n none c).ticketCode n c
                  | none, _ | _, none => t) base)

/-! ## Lanes -/

/-- A change of lane state: the terminal and reader codes and the lane timer of the table of R60, the cleared fields and the LANE
report of R59 and R60, with every other piece of state standing; a waiting claim leaves its deck's list first (R72), and a
reservation held is freed first where the state entered frees it (R59, R87). That the report of IDLE, RECOVER and CLOSED carries
no ident is read from R59 and R60 (log entry 22, DEDUCED). The report is posted for every state entered, also the one the lane is
in: R60 asks for it on a change of lane state, so that REFERRED entered anew with a new reason and RECOVER entered anew by a yard
reset post one is the model's choice (log entries 65 and 49, DESIGN CHOICE). -/
def Obligations.LaneStateEntered : Prop :=
  (∀ (s : State) (l : LaneId) (st : LaneState) (why : LaneReason) (read : Option IdentRead) (r : LaneRecord),
    s.laneRecord l = some r →
    ((s.lane l).claim = .waiting → s.enterLane l st why read =
      ((s.setArbiter r.deck { s.arbiter r.deck with claims := (s.arbiter r.deck).claims.filter (· != l) }).setLane l
        { s.lane l with claim := .none }).enterLane l st why read)
    ∧ ∀ k, (s.lane l).claim ≠ .waiting → (s.lane l).reservation = some k →
      (st = .idle ∨ st = .refused ∨ st = .recover ∨ st = .closed) →
      let t : State := s.setLane l { s.lane l with reservation := none }
      ((∃ v, s.visit k = some v ∧ v.state = .reserved ∧ v.entryLane = l) → s.enterLane l st why read =
        ({ t with visits := s.visits.filter fun x => x.key != k } : State).enterLane l st why read)
      ∧ ((∀ v, s.visit k = some v → v.state ≠ .reserved ∨ v.entryLane ≠ l) →
        s.enterLane l st why read = t.enterLane l st why read))
  ∧ ∀ (s : State) (l : LaneId) (st : LaneState) (why : LaneReason) (read : Option IdentRead) (r : LaneRecord),
    s.laneRecord l = some r → (s.lane l).claim ≠ .waiting →
    ((s.lane l).reservation = none ∨ (st ≠ .idle ∧ st ≠ .refused ∧ st ≠ .recover ∧ st ≠ .closed)) → s.RoomForReport →
    r.reader ≠ some r.terminal →
    let c := s.lane l
    let clears : Bool := st == .idle || st == .recover || st == .closed
    let reason : Option ReferralReason := match st, why with
      | .referred, .referral x => some x
      | _, _ => none
    let start (k : LaneTimerKind) (seconds : Nat) : Option LaneTimer :=
      some { kind := k, elapsed := 0, limit := 1000 * seconds }
    let t := s.enterLane l st why read
    t.lane l = { c with
        state := st, reason := reason
        vehicle := if clears then none else c.vehicle
        passage := if clears then none else c.passage
        target := if clears then none else c.target
        noVisit := if clears then false else c.noVisit
        captured := if clears then none else c.captured
        negativeReleased := if clears then false else c.negativeReleased
        pendingCategory := if clears || st == .identify then none else c.pendingCategory
        timer := (match st with
          | .identify => start .identWait 30
          | .entering => start .entry 60
          | .weighing => start .weigh 60
          | .referred => if reason.any ReferralReason.beforeEntry then start .referral r.referralTimeout else none
          | .closed | .recover | .idle | .refused | .awaitDeck | .releasing | .leaving | .fault => none)
        departSeen := if st = .entering ∨ st = .releasing then false else c.departSeen
        closing := if st = .entering then false else c.closing
        lastRead := if st = .closed then none else c.lastRead
        causes := if st = .closed ∨ st = .recover then [] else c.causes }
      ∧ t.slot r.terminal = { s.slot r.terminal with command := match st with
          | .closed => .showOff
          | .recover | .refused | .fault => .showStop
          | .idle => .showIdle
          | .identify | .awaitDeck | .weighing => .showWait
          | .referred => .showRefer
          | .entering => .showDriveOn
          | .releasing | .leaving => .showGo }
      ∧ (∀ n, r.reader = some n → t.slot n = { s.slot n with command := if st = .identify then .arm else .disarm })
      ∧ (∀ n, n ≠ r.terminal → r.reader ≠ some n → t.slot n = s.slot n)
      ∧ (∀ m, m ≠ l → t.lane m = s.lane m)
      ∧ t.reports = s.reports ++
          [{ body := .lane l st why (if clears then none else c.vehicle.map Vehicle.ident) read, stamp := s.now }]
      ∧ t = { s with lanes := t.lanes, slots := t.slots, reports := t.reports }

/-- ENABLE_LANE (R62), RESUME_LANE (R81) and DISABLE_LANE (R82) with each of their replies; an enabled or resumed lane enters
RECOVER, asks its recovery LOWERs and tests its conditions, and stays there while one of its stations is not ENROLLED or one of
its barriers is in FAULT or MANUAL (R63, R122); a disabled one is CLOSED with its claim, hold and reservation given up, and a
hold released is granted on, after the lanes of its deck in RECOVER have asked their recovery LOWERs and tested their conditions
in lane order by the model's choice (log entry 56). That a disabled lane's own state comes before its partner's tests and the
grant is the model's choice (log entry 21); that a lane without a record is answered as a CLOSED one is read from R82 (log entry
40, DEDUCED); that a lane entering RECOVER tests its conditions in the same handling is log entry 20, and that one position last
told serves all lanes of a barrier log entry 10 (both DEDUCED). -/
def Obligations.LaneService : Prop :=
  ∀ (s : State) (h : Request) (rest : List Request),
    (s.HasHead 6 h rest →
      (∀ m, (m = 0 ∨ 4 < m) → exec (.enableLane (.fits m)) s = .next (s.replied h rest .bad .none))
      ∧ ∀ l : LaneId,
        (s.laneRecord l = none → exec (.enableLane (.fits (l.val + 1))) s = .next (s.replied h rest .bad .none))
        ∧ ∀ r, s.laneRecord l = some r →
          ((s.lane l).state ≠ .closed → exec (.enableLane (.fits (l.val + 1))) s = .next (s.replied h rest .busy .none))
          ∧ ((s.lane l).state = .closed → exec (.enableLane (.fits (l.val + 1))) s = .next
            ((s.enterRecover l (.event .enabled)).replied h rest .ok .none)))
    ∧ (s.HasHead 8 h rest →
      (∀ m, (m = 0 ∨ 4 < m) → exec (.resumeLane (.fits m)) s = .next (s.replied h rest .bad .none))
      ∧ (∀ l : LaneId, s.laneRecord l = none →
        exec (.resumeLane (.fits (l.val + 1))) s = .next (s.replied h rest .bad .none))
      ∧ ∀ (l : LaneId) (r : LaneRecord), s.laneRecord l = some r →
        let ready : Prop := s.stationsEnrolled r = true ∧ s.barrierStopped r.entryBarrier = false
          ∧ s.barrierStopped r.exitBarrier = false
        ((s.lane l).state ≠ .fault → exec (.resumeLane (.fits (l.val + 1))) s = .next (s.replied h rest .bad .none))
        ∧ ((s.lane l).state = .fault → ¬ ready →
          exec (.resumeLane (.fits (l.val + 1))) s = .next (s.replied h rest .busy .none))
        ∧ ((s.lane l).state = .fault → ready → exec (.resumeLane (.fits (l.val + 1))) s = .next
          ((s.enterRecover l (.event .resumed)).replied h rest .ok .none)))
    ∧ (s.HasHead 7 h rest →
      (∀ m, (m = 0 ∨ 4 < m) → exec (.disableLane (.fits m)) s = .next (s.replied h rest .bad .none))
      ∧ (∀ l : LaneId, s.laneRecord l = none →
        exec (.disableLane (.fits (l.val + 1))) s = .next (s.replied h rest .busy .none))
      ∧ ∀ (l : LaneId) (r : LaneRecord), s.laneRecord l = some r →
        ((s.lane l).state ≠ .idle → (s.lane l).state ≠ .recover → (s.lane l).state ≠ .fault →
          exec (.disableLane (.fits (l.val + 1))) s = .next (s.replied h rest .busy .none))
        ∧ ((s.lane l).state = .idle ∨ (s.lane l).state = .recover ∨ (s.lane l).state = .fault →
          ((s.arbiter r.deck).holder ≠ some l → exec (.disableLane (.fits (l.val + 1))) s = .next
            ((s.enterLane l .closed (.event .disabled)).replied h rest .ok .none))
          ∧ ((s.arbiter r.deck).holder = some l → exec (.disableLane (.fits (l.val + 1))) s = .next
            (((((s.setArbiter r.deck { s.arbiter r.deck with holder := none }).setLane l
              { s.lane l with claim := .none }).enterLane l .closed (.event .disabled)).afterRelease r.deck).replied h rest .ok .none))))
    ∧ (∀ (l : LaneId) (r : LaneRecord), s.laneRecord l = some r →
      let stations : Prop := ∀ n ∈ [r.entryBarrier, r.exitBarrier, r.terminal] ++ r.reader.toList, (s.station n).state = .enrolled
      let stops : Prop := ∃ n b, (n = r.entryBarrier ∨ n = r.exitBarrier) ∧ s.barrier n = some b
        ∧ (b.state = .fault ∨ b.state = .manual)
      let down (n : StationId) : Prop := ∃ b, s.barrier n = some b ∧ b.told = .down
      let other : Prop := ∃ m, m ≠ l ∧ (s.arbiter r.deck).holder = some m
      (s.stationsEnrolled r = true ↔ stations)
      ∧ (∀ n, s.barrierStopped n = true ↔ ∃ b, s.barrier n = some b ∧ (b.state = .fault ∨ b.state = .manual))
      ∧ (∀ why, (¬ stations ∨ stops) → ((s.enterRecover l why).lane l).state = .recover)
      ∧ (∀ why, s.enterRecover l why = ((s.enterLane l .recover why).askRecovery l).testRecover l)
      ∧ ((s.lane l).state = .recover → (other → s.askRecovery l = s)
        ∧ (¬ other → s.askRecovery l = (s.askBarrier l .entry .lower).askBarrier l .exit .lower))
      ∧ ((s.lane l).state ≠ .recover ∨ ¬ stations ∨ stops ∨ ¬ down r.entryBarrier ∨ ¬ down r.exitBarrier ∨ other
          ∨ ((s.arbiter r.deck).holder = some l ∧ (s.deck r.deck).occupancy = .occupied) → s.testRecover l = s)
      ∧ ((s.lane l).state = .recover → stations → ¬ stops → down r.entryBarrier → down r.exitBarrier →
        ((s.arbiter r.deck).holder = none → s.testRecover l = s.enterIdle l (.event .recovered))
        ∧ ((s.arbiter r.deck).holder = some l → (s.deck r.deck).occupancy = .empty →
          s.testRecover l = (((s.setArbiter r.deck { s.arbiter r.deck with holder := none }).setLane l
            { s.lane l with claim := .none }).enterIdle l (.event .recovered)).afterRelease r.deck))
      ∧ ((s.arbiter r.deck).holder ≠ some l → s.recoverFree l = s.testRecover l)
      ∧ ((s.arbiter r.deck).holder = some l → s.recoverFree l = s))
    ∧ ∀ (d : DeckId), s.afterRelease d = ((allLanes.filter fun l => decide (∃ r, s.laneRecord l = some r ∧ r.deck = d)).foldl
      (fun t l => (t.askRecovery l).recoverFree l) s).grantDeck d

/-- The lane timers: IDENT_WAIT_EXPIRY, WEIGH_TIMEOUT and ENTRY_TIMEOUT on an OCCUPIED deck refer the lane, ENTRY_TIMEOUT on
an EMPTY deck cancels the entry, REFERRAL_TIMEOUT refuses it (R64, R68, R74, R75); and REFUSE with its replies (R70). That a
cancelled lane enters IDLE before its partner tests and the arbiter grants is the model's choice (log entry 21). -/
def Obligations.LaneTimersEnd : Prop :=
  (∀ (s : State) (l : LaneId) (d : DeckId),
    ((s.arbiter d).holder = some l → s.clearHold l d =
      (s.setArbiter d { s.arbiter d with holder := none }).setLane l { s.lane l with claim := .none })
    ∧ ((s.arbiter d).holder ≠ some l → s.clearHold l d = s))
  ∧ (∀ (s : State) (l : LaneId) (c : LaneTimer), (s.lane l).timer = some c → c.limit ≤ c.elapsed →
      (c.kind = .identWait → exec (.identWaitExpiry l) s = .next (s.enterLane l .referred (.referral .noIdent)))
      ∧ (c.kind = .weigh → exec (.weighTimeout l) s = .next (s.enterLane l .referred (.referral .noStable)))
      ∧ (c.kind = .referral → exec (.referralTimeout l) s = .next (s.enterLane l .refused (.event .referralTimeout)))
      ∧ ∀ r, s.laneRecord l = some r → c.kind = .entry →
        ((s.deck r.deck).occupancy = .occupied →
          exec (.entryTimeout l) s = .next (s.enterLane l .referred (.referral .entryIncomplete)))
        ∧ ((s.deck r.deck).occupancy = .empty → exec (.entryTimeout l) s = .next
          ((((s.askBarrier l .entry .lower).clearHold l r.deck).enterIdle l (.event .cancelled)).afterRelease r.deck)))
    ∧ ∀ (s : State) (h : Request) (rest : List Request), s.HasHead 10 h rest →
      (∀ m, (m = 0 ∨ 4 < m) → exec (.refuseLane (.fits m)) s = .next (s.replied h rest .bad .none))
      ∧ ∀ (l : LaneId) (r : LaneRecord), s.laneRecord l = some r →
        ((s.lane l).state ≠ .referred → exec (.refuseLane (.fits (l.val + 1))) s = .next (s.replied h rest .bad .none))
        ∧ ∀ why, (s.lane l).state = .referred → (s.lane l).reason = some why →
          (why.beforeEntry = true → exec (.refuseLane (.fits (l.val + 1))) s = .next
            ((s.enterLane l .refused (.event .officeRefuses)).replied h rest .ok .none))
          ∧ (why.beforeEntry = false →
            exec (.refuseLane (.fits (l.val + 1))) s = .next (s.replied h rest .bad .none))

/-- DECK_GRANT: on an ACTIVE deck with no holder the oldest claim leaves the list, its lane holds the deck, enters ENTERING and
asks its entry barrier to RAISE (R72 to R74); with no claim, a holder or a deck that is not ACTIVE nothing happens, which is how
the model answers a command whose event is not due (log entry 4, DESIGN CHOICE). A lane that enters AWAIT-DECK makes its claim,
which wakes a resting deck, and is referred with DECK-FAULT when the deck is in FAULT; else the arbiter tests for a grant (R37,
R72, R73). The lanes of a deck that see its record replaced act by their state: AWAIT-DECK on a FAULT (R73), ENTERING on an
OCCUPIED deck (R74), WEIGHING on a reading (R75), RELEASING on an EMPTY deck (R78), RECOVER on its conditions (R63); in lane
order by the model's choice (log entry 56), with the grant test last and in the same step (log entry 36, DEDUCED). The closing
phase and LEAVING test the position told in the same handling (log entry 20, DEDUCED), and the report of LEAVING names the EMPTY
deck (log entry 47, DESIGN CHOICE). A lane that enters IDLE with its presence PRESENT goes on to IDENTIFY (R64), the ARRIVE given
as the reason by the model's choice (log entry 48). -/
def Obligations.DeckGrant : Prop :=
  (∀ (s : State) (d : DeckId),
    (∀ l rest, (s.deck d).state = .active → (s.arbiter d).holder = none → (s.arbiter d).claims = l :: rest →
      exec (.deckGrant d) s = .next
        ((((s.setArbiter d { holder := some l, claims := rest }).setLane l { s.lane l with claim := .held }).enterLane l
          .entering (.event .granted)).askBarrier l .entry .raise))
    ∧ (((s.deck d).state ≠ .active ∨ (s.arbiter d).holder ≠ none ∨ (s.arbiter d).claims = []) →
      exec (.deckGrant d) s = .next s)
    ∧ exec (.deckGrant d) ((allLanes.filter fun l => decide (∃ r, s.laneRecord l = some r ∧ r.deck = d)).foldl
        (fun t l => t.deckSeen l) s) = .next (s.deckTold d))
  ∧ (∀ (s : State) (l : LaneId) (r : LaneRecord) (why : LaneReason) (read : Option IdentRead), s.laneRecord l = some r →
    let t := s.enterLane l .awaitDeck why read
    let claimed : State := (t.setArbiter r.deck { t.arbiter r.deck with claims := (t.arbiter r.deck).claims ++ [l] }).setLane l
      { t.lane l with claim := .waiting }
    let woken : State := match (s.deck r.deck).state with
      | .warmRest => claimed.enterDeckState r.deck .waking
      | .coldRest => claimed.enterDeckState r.deck .capturing
      | .unconfigured | .waiting | .capturing | .active | .waking | .fault => claimed
    ((s.deck r.deck).state = .fault →
      s.awaitDeck l why read = claimed.enterLane l .referred (.referral .deckFault))
    ∧ ((s.deck r.deck).state ≠ .fault → exec (.deckGrant r.deck) woken = .next (s.awaitDeck l why read)))
  ∧ (∀ (s : State) (l : LaneId) (r : LaneRecord), s.laneRecord l = some r →
    let c := s.lane l
    let deck := s.deck r.deck
    (c.state = .awaitDeck →
      (deck.state = .fault → s.deckSeen l = s.enterLane l .referred (.referral .deckFault))
      ∧ (deck.state ≠ .fault → s.deckSeen l = s))
    ∧ (c.state = .entering →
      (c.closing = false → c.departSeen = true → deck.occupancy = .occupied → s.deckSeen l =
        ((s.setLane l { c with closing := true, timer := none }).askBarrier l .entry .lower).positionTold l)
      ∧ (c.closing = true ∨ c.departSeen = false ∨ deck.occupancy = .empty → s.deckSeen l = s))
    ∧ (c.state = .weighing → s.deckSeen l = s.tryCapture l)
    ∧ (c.state = .releasing →
      (c.departSeen = true → deck.occupancy = .empty → s.deckSeen l =
        ((s.enterLane l .leaving (.event .deckEmpty)).askBarrier l .exit .lower).positionTold l)
      ∧ (c.departSeen = false ∨ deck.occupancy = .occupied → s.deckSeen l = s))
    ∧ (c.state = .recover → s.deckSeen l = s.testRecover l)
    ∧ (c.state = .closed ∨ c.state = .idle ∨ c.state = .identify ∨ c.state = .referred ∨ c.state = .refused
        ∨ c.state = .leaving ∨ c.state = .fault → s.deckSeen l = s))
  ∧ ∀ (s : State) (l : LaneId) (why : LaneReason),
    ((s.lane l).present = false → s.enterIdle l why = s.enterLane l .idle why)
    ∧ ((s.lane l).present = true →
      s.enterIdle l why = (s.enterLane l .idle why).enterLane l .identify (.event .presenceArrive))

/-- IDENT_READ: a read from a station no lane names becomes a NOTE, a repeat within 3,000 frames is discarded, a stray read is
noted, and in IDENTIFY or REFERRED with NO-IDENT the deck is told and the decision made (R65, R167). That the stray read of a
CLOSED lane becomes its last read is log entry 67 (DESIGN CHOICE). -/
def Obligations.IdentReadHandled : Prop :=
  (∀ (s : State) (n : StationId), s.identLane n = match s.laneOfReader n with
    | some l => some l
    | none => s.laneOfTerminal n)
  ∧ ∀ (s : State) (n : StationId) (m : UpMessage) (rest : List UpMessage) (x : IdentRead),
    s.HasMessage n m rest → m.kind = .identRead → validIdent x.ident = true → x.quality ≤ 100 →
    let t := s.messagesLeft n rest
    ((∀ l r, s.laneRecord l = some r → r.reader ≠ some n ∧ r.terminal ≠ n) → s.RoomForReport →
      exec (.identRead n (.fits x)) s = .next (t.reported (.noteRead none n x)))
    ∧ ∀ (l : LaneId) (r : LaneRecord), s.identLane n = some l → s.laneRecord l = some r →
      (∀ f, (s.lane l).lastRead = some (x.ident, f) → f < 3000 → exec (.identRead n (.fits x)) s = .next t)
      ∧ ((∀ f, (s.lane l).lastRead = some (x.ident, f) → 3000 ≤ f) →
        ((s.lane l).state ≠ .identify → ((s.lane l).state ≠ .referred ∨ (s.lane l).reason ≠ some .noIdent) →
          s.RoomForReport →
          exec (.identRead n (.fits x)) s = .next
            ((t.setLane l { s.lane l with lastRead := some (x.ident, 0) }).reported (.noteRead (some l) n x)))
        ∧ ((s.lane l).state = .identify ∨ ((s.lane l).state = .referred ∧ (s.lane l).reason = some .noIdent) →
          exec (.identRead n (.fits x)) s = .next
            (((((t.setLane l { s.lane l with lastRead := some (x.ident, 0), timer := none }).deckRead r.deck).deckTold
              r.deck).makeDecision l x.ident none none (.event .identRead) (some x)))))

/-- The admission decision: the lines of R66 with no pending category and with one, which an admitted inbound vehicle takes when
it is permitted and which is refused with KEY-REFUSED in every other case (R66, R67), its report first, the model's choice (log
entry 24); and the lines of R67 for a vehicle that goes on. With them, what they ask: a permitted category (R48), the vehicle
record of an ident (R45), the visits of an ident (R97), the vehicle of a record (R66) and a RESERVED record (R84, R86). That a
lane already REFERRED posts a LANE report when it is referred again is log entry 65 (DESIGN CHOICE). -/
def Obligations.AdmissionDecision : Prop :=
  (∀ (s : State) (v : Vehicle) (c : CategoryNo), s.permits v c = true ↔ c ∈ v.permitted ∧ (s.category c).enabled = true)
  ∧ (∀ (s : State) (t : Text),
    let out (v : Visit) : Prop := v.ident = t ∧ (v.state = .open_ ∨ v.state = .ticketed)
    ((∀ v ∈ s.vehicles, v.ident ≠ t) → s.lookup t = none)
    ∧ (∀ before v after, s.vehicles = before ++ v :: after → (∀ x ∈ before, x.ident ≠ t) → v.ident = t → s.lookup t = some v)
    ∧ ((∀ v ∈ s.visits, ¬ out v) → s.outVisit t = none)
    ∧ (∀ before v after, s.visits = before ++ v :: after → (∀ x ∈ before, ¬ out x) → out v → s.outVisit t = some v)
    ∧ (s.inYard t = true ↔
      ∃ x ∈ s.visits, x.ident = t ∧ (x.state = .reserved ∨ x.state = .open_ ∨ x.state = .ticketed)))
  ∧ (∀ v : VehicleRecord, v.vehicle =
    { ident := v.ident, account := v.account, tarePolicy := v.tarePolicy, storedTare := v.storedTare, maxGross := v.maxGross,
      permitted := v.permitted, category := some v.defaultCategory, cash := false })
  ∧ (∀ (key : Nat) (l : LaneId) (v : Vehicle), newVisit key l v =
    { key := key, ident := v.ident, account := v.account, category := v.category, tarePolicy := v.tarePolicy
      storedTare := v.storedTare, entryLane := l, state := .reserved, gross := none, tare := none, net := none
      exitWeight := none, tareCheck := none, exitLane := none, ticketNo := none, outcome := none, anomalies := []
      closeTime := none })
  ∧ (∀ (s : State) (l : LaneId) (r : LaneRecord) (t : Text) (why : LaneReason) (read : Option IdentRead) (k : CategoryNo),
    s.laneRecord l = some r → (s.lane l).pendingCategory = some k → s.RoomForReport →
    let inbound : Prop := r.direction = .inward ∨ (r.direction = .both ∧ s.outVisit t = none)
    let settled (v : Vehicle) : State := s.setLane l { s.lane l with vehicle := some v, pendingCategory := none }
    let keyRefused (v : Vehicle) : State := (settled v).reported (.laneKeyRefused l k)
    let bare : Vehicle :=
      { ident := t, account := 0, tarePolicy := .weighEach, storedTare := none, maxGross := none, permitted := [],
        category := none, cash := false }
    let cash : Vehicle :=
      { ident := t, account := 0, tarePolicy := .weighEach, storedTare := none, maxGross := none,
        permitted := r.cashCategory.toList, category := r.cashCategory, cash := true }
    let goesOn (v : Vehicle) : Prop :=
      (inbound → s.permits v k = true →
        s.makeDecision l t none none why read = (settled { v with category := some k }).yardCheck l why read)
      ∧ (¬ inbound ∨ s.permits v k = false →
        s.makeDecision l t none none why read = (keyRefused v).yardCheck l why read)
    (∀ v, s.lookup t = some v → v.status = .admits → goesOn v.vehicle)
    ∧ (s.lookup t = none → r.unknownPolicy = .admitCash → goesOn cash)
    ∧ (∀ v, s.lookup t = some v → v.status = .bars →
      s.makeDecision l t none none why read = (keyRefused v.vehicle).enterLane l .refused why read)
    ∧ (∀ v, s.lookup t = some v → v.status = .refers →
      s.makeDecision l t none none why read = (keyRefused v.vehicle).enterLane l .referred (.referral .status) read)
    ∧ (s.lookup t = none → r.unknownPolicy = .refer →
      s.makeDecision l t none none why read = (keyRefused bare).enterLane l .referred (.referral .unknown) read))
  ∧ ∀ (s : State) (l : LaneId) (r : LaneRecord) (t : Text) (why : LaneReason) (read : Option IdentRead),
    s.laneRecord l = some r → (s.lane l).pendingCategory = none →
    let known (v : Vehicle) : State := s.setLane l { s.lane l with vehicle := some v }
    (∀ v, s.lookup t = some v → v.status = .bars →
      s.makeDecision l t none none why read = (known v.vehicle).enterLane l .refused why read)
    ∧ (∀ v, s.lookup t = some v → v.status = .refers →
      s.makeDecision l t none none why read = (known v.vehicle).enterLane l .referred (.referral .status) read)
    ∧ (s.lookup t = none → r.unknownPolicy = .refer →
      s.makeDecision l t none none why read =
        (known { ident := t, account := 0, tarePolicy := .weighEach, storedTare := none, maxGross := none,
                 permitted := [], category := none, cash := false }).enterLane l .referred (.referral .unknown) read)
    ∧ (s.lookup t = none → r.unknownPolicy = .admitCash →
      s.makeDecision l t none none why read =
        (known { ident := t, account := 0, tarePolicy := .weighEach, storedTare := none, maxGross := none,
                 permitted := r.cashCategory.toList, category := r.cashCategory, cash := true }).yardCheck l why read)
    ∧ (∀ v, s.lookup t = some v → v.status = .admits →
      s.makeDecision l t none none why read = (known v.vehicle).yardCheck l why read)
    ∧ ∀ v : Vehicle, (s.lane l).vehicle = some v →
      let passing (p : Passage) : LaneContext := { s.lane l with passage := some p }
      (r.direction = .inward ∨ (r.direction = .both ∧ s.outVisit v.ident = none) →
        ((∃ x ∈ s.visits, x.ident = v.ident ∧ (x.state = .reserved ∨ x.state = .open_ ∨ x.state = .ticketed)) →
          s.yardCheck l why read = (s.setLane l (passing .inbound)).enterLane l .referred (.referral .alreadyInYard) read)
        ∧ (s.inYard v.ident = false → v.category.any (s.permits v) = false →
          s.yardCheck l why read = (s.setLane l (passing .inbound)).enterLane l .referred (.referral .category) read)
        ∧ (s.inYard v.ident = false → v.category.any (s.permits v) = true → 64 ≤ s.visits.length →
          s.yardCheck l why read = (s.setLane l (passing .inbound)).enterLane l .referred (.referral .yardFull) read)
        ∧ (s.inYard v.ident = false → v.category.any (s.permits v) = true → s.visits.length < 64 →
          s.yardCheck l why read =
            (State.setLane { s with visits := s.visits ++ [newVisit s.nextVisitKey l v], nextVisitKey := s.nextVisitKey + 1 } l
              { passing .inbound with reservation := some s.nextVisitKey }).awaitDeck l why read))
      ∧ (r.direction = .outward ∨ (r.direction = .both ∧ s.outVisit v.ident ≠ none) →
        (s.outVisit v.ident = none →
          s.yardCheck l why read = (s.setLane l (passing .outbound)).enterLane l .referred (.referral .notInYard) read)
        ∧ ∀ x, s.outVisit v.ident = some x →
          s.yardCheck l why read =
            (s.setLane l { passing .outbound with target := some x.key }).awaitDeck l why read)

/-- KEY_ENTRY: a key of a station no lane names as terminal is a NOTE, CALL-ATTENDANT a LANE report, and a category key is held,
replaces the vehicle's category or is refused by the table of R79. That a lane already REFERRED posts a LANE report when it is
referred again is log entry 65 (DESIGN CHOICE). -/
def Obligations.KeyEntryHandled : Prop :=
  ∀ (s : State) (n : StationId) (m : UpMessage) (rest : List UpMessage),
    s.HasMessage n m rest → m.kind = .keyEntry →
    let t := s.messagesLeft n rest
    (s.RoomForReport → (∀ l r, s.laneRecord l = some r → r.terminal ≠ n) →
      ∀ e : KeyEntry, e.wellFormed = true → exec (.keyEntry n (.fits e)) s = .next (t.reported (.noteKey n e)))
    ∧ ∀ l : LaneId, s.laneOfTerminal n = some l →
      (s.RoomForReport → exec (.keyEntry n (.fits .callAttendant)) s = .next (t.reported (.laneCallAttendant l)))
      ∧ ∀ k : CategoryNo,
        ((s.lane l).state = .identify → exec (.keyEntry n (.fits (.category (k.val + 1)))) s = .next
          (t.setLane l { s.lane l with pendingCategory := some k }))
        ∧ (∀ v, (s.lane l).vehicle = some v → (s.lane l).passage = some .inbound → s.permits v k = true →
          ((s.lane l).state = .awaitDeck ∨ (s.lane l).state = .entering ∨ (s.lane l).state = .weighing
            ∨ ((s.lane l).state = .referred ∧ ∃ w, (s.lane l).reason = some w ∧ w.beforeEntry = true ∧ w ≠ .category) →
            exec (.keyEntry n (.fits (.category (k.val + 1)))) s = .next
              (t.setLane l { s.lane l with vehicle := some { v with category := some k } }))
          ∧ ((s.lane l).state = .referred → (s.lane l).reason = some .category →
            exec (.keyEntry n (.fits (.category (k.val + 1)))) s = .next
              ((t.setLane l { s.lane l with vehicle := some { v with category := some k } }).reserveAndWait l
                { v with category := some k } (.event .keyEntry) none)))
        ∧ (s.RoomForReport → (s.lane l).state ≠ .identify →
          ((s.lane l).vehicle = none ∨ (s.lane l).passage ≠ some .inbound
            ∨ (∃ v, (s.lane l).vehicle = some v ∧ s.permits v k = false)
            ∨ (s.lane l).state = .closed ∨ (s.lane l).state = .recover ∨ (s.lane l).state = .idle
            ∨ (s.lane l).state = .refused ∨ (s.lane l).state = .releasing ∨ (s.lane l).state = .leaving
            ∨ (s.lane l).state = .fault
            ∨ ((s.lane l).state = .referred ∧ ∃ w, (s.lane l).reason = some w ∧ w.beforeEntry = false)) →
          exec (.keyEntry n (.fits (.category (k.val + 1)))) s = .next (t.reported (.laneKeyRefused l k)))

/-- ADMIT: BAD on a lane that is not REFERRED with a reason raised before entry (R68) and on fields that do not serve, spelled
out here: an account or a category outside its range, a category not enabled, a required field left out (R69), or an ident that
breaks the ident rule (R182, log entry 13, DEDUCED); BUSY when ALREADY-IN-YARD or YARD-FULL still stands; and the point each
reason continues from, with the account and the category carried in place of the vehicle's, the category taken as permitted
(R69). With them, the admission decision with an account and a category carried (R66, R67), and the YARD-FULL check with the
reservation (R67, R86); a KEY-REFUSED stands before the report of the decision by the model's choice (log entry 24). That a BUSY
ADMIT changes nothing, that one on NO-IDENT makes no last read and no ident read for the deck, and that account and category
carried take the place of the vehicle's after the lookup is read from the rules (log entry 13, DEDUCED). A lane without a record
is never REFERRED (R49, R62). That a lane already REFERRED posts a LANE report when it is referred again is log entry 65 (DESIGN
CHOICE). -/
def Obligations.Admit : Prop :=
  (∀ (x : Vehicle) (account : Option Nat) (category : Option CategoryNo), x.overridden account category = { x with
    account := match account with
      | none => x.account
      | some a => a
    category := match category with
      | none => x.category
      | some c => some c
    permitted := match category with
      | none => x.permitted
      | some c => if c ∈ x.permitted then x.permitted else x.permitted ++ [c] })
  ∧ (∀ (s : State) (l : LaneId) (r : LaneRecord) (t : Text) (account : Option Nat) (category : Option CategoryNo)
      (why : LaneReason) (read : Option IdentRead), s.laneRecord l = some r →
    ((s.lane l).pendingCategory ≠ none → s.RoomForReport) →
    let inbound : Prop := r.direction = .inward ∨ (r.direction = .both ∧ s.outVisit t = none)
    let placed (v : Vehicle) : State :=
      s.setLane l { s.lane l with vehicle := some (v.overridden account category), pendingCategory := none }
    let turned (v : Vehicle) : State := match (s.lane l).pendingCategory with
      | none => placed v
      | some k => (placed v).reported (.laneKeyRefused l k)
    let bare : Vehicle :=
      { ident := t, account := 0, tarePolicy := .weighEach, storedTare := none, maxGross := none, permitted := [],
        category := none, cash := false }
    let cash : Vehicle :=
      { ident := t, account := 0, tarePolicy := .weighEach, storedTare := none, maxGross := none,
        permitted := r.cashCategory.toList, category := r.cashCategory, cash := true }
    let decided : State := s.makeDecision l t account category why read
    let goesOn (v : Vehicle) : Prop :=
      (∀ k, (s.lane l).pendingCategory = some k → inbound → s.permits v k = true →
        decided = (placed { v with category := some k }).yardCheck l why read)
      ∧ ((∀ k, (s.lane l).pendingCategory = some k → ¬ inbound ∨ s.permits v k = false) →
        decided = (turned v).yardCheck l why read)
    (∀ v, s.lookup t = some v → v.status = .admits → goesOn v.vehicle)
    ∧ (s.lookup t = none → r.unknownPolicy = .admitCash → goesOn cash)
    ∧ (∀ v, s.lookup t = some v → v.status = .bars → decided = (turned v.vehicle).enterLane l .refused why read)
    ∧ (∀ v, s.lookup t = some v → v.status = .refers →
      decided = (turned v.vehicle).enterLane l .referred (.referral .status) read)
    ∧ (s.lookup t = none → r.unknownPolicy = .refer →
      decided = (turned bare).enterLane l .referred (.referral .unknown) read))
  ∧ (∀ (s : State) (l : LaneId) (x : Vehicle) (why : LaneReason) (read : Option IdentRead),
    (64 ≤ s.visits.length → s.reserveAndWait l x why read = s.enterLane l .referred (.referral .yardFull) read)
    ∧ (s.visits.length < 64 →
      (s.inYard x.ident = true → s.reserveAndWait l x why read = s.enterLane l .referred (.referral .alreadyInYard) read)
      ∧ (s.inYard x.ident = false → s.reserveAndWait l x why read =
        (State.setLane { s with visits := s.visits ++ [newVisit s.nextVisitKey l x], nextVisitKey := s.nextVisitKey + 1 } l
          { s.lane l with reservation := some s.nextVisitKey }).awaitDeck l why read)))
  ∧ ∀ (s : State) (h : Request) (rest : List Request) (v : AdmitLoad), s.HasHead 9 h rest →
    ((v.lane = 0 ∨ 4 < v.lane) → exec (.admitLane (.fits v)) s = .next (s.replied h rest .bad .none))
    ∧ (∀ l : LaneId, v.lane = l.val + 1 → (s.laneRecord l = none ∨ (s.lane l).state ≠ .referred ∨ (s.lane l).reason = none) →
      exec (.admitLane (.fits v)) s = .next (s.replied h rest .bad .none))
    ∧ ∀ (l : LaneId) (r : LaneRecord) (why : ReferralReason), v.lane = l.val + 1 → s.laneRecord l = some r →
      (s.lane l).state = .referred → (s.lane l).reason = some why →
      let serves (category : Option CategoryNo) : Prop :=
        why ∈ [.noIdent, .unknown, .status, .alreadyInYard, .category, .yardFull, .notInYard, .deckFault]
        ∧ (∀ t, v.ident = some t → 1 ≤ t.length ∧ t.length ≤ 16 ∧ ∀ c ∈ t, identChar c = true)
        ∧ (∀ a, v.account = some a → 1 ≤ a ∧ a ≤ 999999)
        ∧ v.category = category.map (fun c => c.val + 1) ∧ (∀ c, category = some c → (s.category c).enabled = true)
        ∧ (why = .noIdent → v.ident ≠ none) ∧ (why = .category → v.category ≠ none)
        ∧ (why = .unknown → v.category ≠ none ∨ r.cashCategory ≠ none)
      ((why.beforeEntry = false ∨ (∃ a, v.account = some a ∧ (a = 0 ∨ 999999 < a))
          ∨ (∃ k, v.category = some k ∧ (k = 0 ∨ 16 < k))
          ∨ (∃ c : CategoryNo, v.category = some (c.val + 1) ∧ (s.category c).enabled = false)
          ∨ (why = .noIdent ∧ v.ident = none) ∨ (why = .category ∧ v.category = none)
          ∨ (why = .unknown ∧ v.category = none ∧ r.cashCategory = none)
          ∨ (∃ t, v.ident = some t ∧ (t = [] ∨ 16 < t.length ∨ ∃ c ∈ t, identChar c = false))) →
        exec (.admitLane (.fits v)) s = .next (s.replied h rest .bad .none))
      ∧ ((∀ category, ¬ serves category) → exec (.admitLane (.fits v)) s = .next (s.replied h rest .bad .none))
      ∧ ∀ category, serves category →
        let changed (x : Vehicle) : Vehicle := x.overridden v.account category
        let t := s.setLane l { s.lane l with vehicle := (s.lane l).vehicle.map changed }
        let office : LaneReason := .event .officeAdmits
        ((why = .alreadyInYard ∧ ∃ x, (s.lane l).vehicle = some x ∧ s.inYard x.ident = true)
            ∨ (why = .yardFull ∧ 64 ≤ s.visits.length) →
          exec (.admitLane (.fits v)) s = .next (s.replied h rest .busy .none))
        ∧ (∀ ident, why = .noIdent → v.ident = some ident → exec (.admitLane (.fits v)) s = .next
          ((s.makeDecision l ident v.account category office none).replied h rest .ok .none))
        ∧ (why = .status → exec (.admitLane (.fits v)) s = .next ((t.yardCheck l office none).replied h rest .ok .none))
        ∧ ((why = .alreadyInYard ∧ ∀ x, (s.lane l).vehicle = some x → s.inYard x.ident = false) →
          exec (.admitLane (.fits v)) s = .next ((t.yardCheck l office none).replied h rest .ok .none))
        ∧ (∀ x, (s.lane l).vehicle = some x → (why = .category ∨ (why = .yardFull ∧ s.visits.length < 64)) →
          exec (.admitLane (.fits v)) s = .next
            ((t.reserveAndWait l (changed x) office none).replied h rest .ok .none))
        ∧ (why = .notInYard → exec (.admitLane (.fits v)) s = .next
          (((t.setLane l { t.lane l with noVisit := true }).awaitDeck l office none).replied h rest .ok .none))
        ∧ (why = .deckFault → exec (.admitLane (.fits v)) s = .next
          ((t.awaitDeck l office none).replied h rest .ok .none))
        ∧ (∀ x, why = .unknown → (s.lane l).vehicle = some x →
          let given : Option CategoryNo := match category with
            | none => r.cashCategory
            | some c => some c
          let cash : Vehicle :=
            { ident := x.ident, account := v.account.getD 0, tarePolicy := .weighEach, storedTare := none,
              maxGross := none, permitted := given.toList, category := given, cash := true }
          exec (.admitLane (.fits v)) s = .next
            (((s.setLane l { s.lane l with vehicle := some cash }).yardCheck l office none).replied h rest .ok .none))

/-- RELEASE and RETRY by the lane's referral reason, with each of their replies, the reservation freed by a release without a
weight (R59, R70, R87), and the closing phase of ENTRY-INCOMPLETE tested in the same handling (log entry 20, DEDUCED); and the
capture they go on with: the conditions of a capture and the weight it freezes (R75, R76), the steps of each passage and tare
policy (R76, R77), what each check refers on, the commit and RELEASING after it, and VISIT-GONE when a step finds the target
visit gone (R77). That one position last told serves all lanes of a barrier is log entry 10 (DEDUCED); the field that remembers a
released net check is the model's own (log entry 8). That a lane already REFERRED posts a LANE report when it is referred again
is log entry 65 (DESIGN CHOICE). -/
def Obligations.ReleaseAndRetry : Prop :=
  (∀ (s : State) (l : LaneId) (r : LaneRecord), s.laneRecord l = some r →
    let reading := (s.deck r.deck).reading
    let ready (w : Int) : Prop := (s.lane l).state = .weighing ∧ (s.deck r.deck).state = .active
      ∧ (s.arbiter r.deck).holder = some l ∧ reading.state = .stable ∧ reading.value = some w
      ∧ (∃ k, (s.deck r.deck).record = some k ∧ ((1000 * k.occupancyThreshold * k.division : Nat) : Int) ≤ w)
      ∧ ∀ n, (n = r.entryBarrier ∨ n = r.exitBarrier) → ∃ b, s.barrier n = some b ∧ b.told = .down
    ((∀ w, ¬ ready w) → s.tryCapture l = s)
    ∧ ∀ w, ready w → s.RoomForReport →
      let c : Weight :=
        { kg := w / 1000, deck := reading.deck, sample := reading.sample, stamp := reading.stamp, degraded := reading.degraded }
      let t := (s.setLane l { s.lane l with captured := some c, negativeReleased := false, timer := none }).reported
        (.capture l ((s.lane l).vehicle.map Vehicle.ident) (s.lane l).passage c)
      s.tryCapture l = runSteps l r c (.event .captured) (t.captureSteps l) t)
  ∧ (∀ (s : State) (l : LaneId),
    (∀ v, (s.lane l).passage = some .inbound → (s.lane l).vehicle = some v →
      (v.tarePolicy = .weighEach → s.captureSteps l = [.inspect, .commit true])
      ∧ (v.tarePolicy ≠ .weighEach → s.captureSteps l = [.netCheck, .inspect, .numberCheck, .commit true]))
    ∧ (∀ k v, (s.lane l).passage = some .outbound → (s.lane l).target = some k → s.visit k = some v →
      (v.state = .open_ → s.captureSteps l = [.netCheck, .numberCheck, .commit true])
      ∧ (v.state = .ticketed → s.captureSteps l = [.tareCheck, .commit true]))
    ∧ ((s.lane l).passage = some .outbound → (s.lane l).target = none → s.captureSteps l = [.commit true])
    ∧ ∀ (x : CaptureStep) (steps : List CaptureStep), stepsAfter x (x :: steps) = steps
      ∧ ∀ y, y ≠ x → stepsAfter x (y :: steps) = stepsAfter x steps)
  ∧ (∀ (s : State) (l : LaneId) (r : LaneRecord) (w : Weight),
    (∀ v t, (s.lane l).passage = some .inbound → (s.lane l).vehicle = some v → v.storedTare = some t →
      s.checkFails l r w .netCheck = if w.kg < t then some .negativeNet else none)
    ∧ (∀ v c, (s.lane l).vehicle = some v → v.category = some c →
      s.checkFails l r w .inspect = if (s.category c).inspect = true then some .inspect else none)
    ∧ ((∃ k, s.counter = .valid k) → s.checkFails l r w .numberCheck = none)
    ∧ ((∀ k, s.counter ≠ .valid k) → s.checkFails l r w .numberCheck = some .noTicketNumber)
    ∧ ∀ k v, (s.lane l).passage = some .outbound → (s.lane l).target = some k → s.visit k = some v →
      (∀ g, v.state = .open_ → v.gross = some g →
        s.checkFails l r w .netCheck = if g.kg - w.kg < 0 then some .negativeNet else none)
      ∧ ∀ t e, v.state = .ticketed → v.storedTare = some t → (s.deck r.deck).record = some e →
        s.checkFails l r w .tareCheck =
          if (w.kg - t).natAbs ≤ r.tareTolerance * e.division then none else some .tareMismatch)
  ∧ (∀ (s : State) (l : LaneId) (r : LaneRecord) (w : Weight) (why : LaneReason) (steps : List CaptureStep),
    let gone : Prop := (s.lane l).passage = some .outbound
      ∧ ∃ k, (s.lane l).target = some k ∧ ∀ v, s.visit k = some v → v.state ≠ .open_ ∧ v.state ≠ .ticketed
    (s.findsGone l = true ↔ gone)
    ∧ (∀ x, gone → s.RoomForReport → runSteps l r w why (x :: steps) s =
      ((((s.setLane l { s.lane l with target := none, noVisit := true }).reported
        (.visitGone l ((s.lane l).vehicle.map Vehicle.ident))).enterLane l .releasing why).askBarrier l .exit .raise))
    ∧ (¬ gone →
      (∀ pass, runSteps l r w why (.commit pass :: steps) s =
        ((s.commitCapture l w pass).enterLane l .releasing why).askBarrier l .exit .raise)
      ∧ ∀ x, (x = .netCheck ∨ x = .inspect ∨ x = .numberCheck ∨ x = .tareCheck) →
        (∀ y, s.checkFails l r w x = some y →
          runSteps l r w why (x :: steps) s = s.enterLane l .referred (.referral y))
        ∧ (s.checkFails l r w x = none → runSteps l r w why (x :: steps) s = runSteps l r w why steps s)))
  ∧ ∀ (s : State) (h : Request) (rest : List Request),
    (s.HasHead 12 h rest →
      (∀ m, (m = 0 ∨ 4 < m) → exec (.retryLane (.fits m)) s = .next (s.replied h rest .bad .none))
      ∧ ∀ (l : LaneId) (r : LaneRecord), s.laneRecord l = some r →
        ((s.lane l).state ≠ .referred ∨ (s.lane l).reason ≠ some .noStable →
          exec (.retryLane (.fits (l.val + 1))) s = .next (s.replied h rest .bad .none))
        ∧ ((s.lane l).state = .referred → (s.lane l).reason = some .noStable →
          exec (.retryLane (.fits (l.val + 1))) s = .next
            (((s.enterLane l .weighing (.event .officeRetries)).tryCapture l).replied h rest .ok .none)))
    ∧ (s.HasHead 11 h rest →
      (∀ m, (m = 0 ∨ 4 < m) → exec (.releaseLane (.fits m)) s = .next (s.replied h rest .bad .none))
      ∧ ∀ (l : LaneId) (r : LaneRecord), s.laneRecord l = some r →
        ((s.lane l).state ≠ .referred → exec (.releaseLane (.fits (l.val + 1))) s = .next (s.replied h rest .bad .none))
        ∧ ∀ why, (s.lane l).state = .referred → (s.lane l).reason = some why →
          (why.beforeEntry = true →
            exec (.releaseLane (.fits (l.val + 1))) s = .next (s.replied h rest .bad .none))
          ∧ (why = .entryIncomplete → exec (.releaseLane (.fits (l.val + 1))) s = .next
            (let t := s.enterLane l .entering (.event .officeReleases);
              (((t.setLane l { t.lane l with closing := true, timer := none }).askBarrier l .entry .lower).positionTold l).replied
                h rest .ok .none))
          ∧ (why = .noStable → s.RoomForReport → (s.lane l).reservation = none →
            exec (.releaseLane (.fits (l.val + 1))) s = .next
              ((((s.reported (.noStable l ((s.lane l).vehicle.map Vehicle.ident))).enterLane l .releasing
                (.event .officeReleases)).askBarrier l .exit .raise).replied h rest .ok .none))
          ∧ (∀ k, why = .noStable → s.RoomForReport → (s.lane l).reservation = some k →
            let freed : State := s.setLane l { s.lane l with reservation := none }
            let released (t : State) : State := (((t.reported (.noStable l ((s.lane l).vehicle.map Vehicle.ident))).enterLane l
              .releasing (.event .officeReleases)).askBarrier l .exit .raise).replied h rest .ok .none
            ((∃ v, s.visit k = some v ∧ v.state = .reserved ∧ v.entryLane = l) →
              exec (.releaseLane (.fits (l.val + 1))) s = .next
                (released { freed with visits := s.visits.filter fun x => x.key != k }))
            ∧ ((∀ v, s.visit k = some v → v.state ≠ .reserved ∨ v.entryLane ≠ l) →
              exec (.releaseLane (.fits (l.val + 1))) s = .next (released freed)))
          ∧ (why = .noTicketNumber → s.findsGone l = false → (∀ k, s.counter ≠ .valid k) →
            exec (.releaseLane (.fits (l.val + 1))) s = .next (s.replied h rest .busy .none))
          ∧ ∀ w, (s.lane l).captured = some w → s.findsGone l = false →
            (why = .inspect → exec (.releaseLane (.fits (l.val + 1))) s = .next
              ((runSteps l r w (.event .officeReleases) (stepsAfter .inspect (s.captureSteps l)) s).replied h rest .ok .none))
            ∧ (why = .tareMismatch → exec (.releaseLane (.fits (l.val + 1))) s = .next
              ((((s.commitCapture l w false).enterLane l .releasing (.event .officeReleases)).askBarrier l .exit .raise).replied
                h rest .ok .none))
            ∧ (why = .negativeNet → exec (.releaseLane (.fits (l.val + 1))) s = .next
              ((runSteps l r w (.event .officeReleases) (stepsAfter .netCheck (s.captureSteps l))
                (s.setLane l { s.lane l with negativeReleased := true })).replied h rest .ok .none))
            ∧ ((∃ k, s.counter = .valid k) → why = .noTicketNumber →
              exec (.releaseLane (.fits (l.val + 1))) s = .next
                ((((s.commitCapture l w true).enterLane l .releasing (.event .officeReleases)).askBarrier l .exit .raise).replied
                  h rest .ok .none)))

/-! ## Barriers -/

/-- MOTION_TIMEOUT: a motion timer that has run the limit in force puts the barrier in FAULT with its fault position and a
BARRIER report, and tells the lanes naming it (R109), in lane order by the model's choice (log entry 56); what each lane does on
a fault cause (R80). That a cause the lane knows already changes nothing and posts nothing is read from R80 (log entry 23,
DEDUCED). -/
def Obligations.MotionTimeout : Prop :=
  (∀ (s : State) (n : StationId) (b : BarrierRecord) (f : Nat), s.barrier n = some b → b.timer = some f →
      b.limit * 1000 ≤ f → s.RoomForReport →
      let a : BarrierRecord :=
        { b with state := .fault, commanded := .hold, pendingLower := false, timer := none, faultPosition := some b.position }
      let t := (s.setBarrier n (some a)).setSlot n { s.slot n with command := .hold }
      exec (.motionTimeout n) s = .next
        ((t.reported (.barrier .motionTimeout (t.barrierSnapshot n a))).faultLanes n (.barrierFault n)))
    ∧ (∀ (s : State) (n : StationId) (cause : FaultCause), s.faultLanes n cause =
      (allLanes.filter fun l => decide (∃ r, s.laneRecord l = some r ∧ (r.entryBarrier = n ∨ r.exitBarrier = n))).foldl
        (fun t l => t.laneFault l cause) s)
    ∧ ∀ (s : State) (l : LaneId) (cause : FaultCause),
      ((s.lane l).state = .closed ∨ (s.lane l).state = .recover → s.laneFault l cause = s)
      ∧ ((s.lane l).state = .fault → cause ∈ (s.lane l).causes → s.laneFault l cause = s)
      ∧ ((s.lane l).state = .fault → cause ∉ (s.lane l).causes → s.RoomForReport →
        s.laneFault l cause =
          (s.setLane l { s.lane l with causes := (s.lane l).causes ++ [cause] }).reported (.laneCause l cause))
      ∧ ((s.lane l).state ≠ .closed → (s.lane l).state ≠ .recover → (s.lane l).state ≠ .fault → (s.lane l).causes = [] →
        s.laneFault l cause = (s.setLane l { s.lane l with causes := [cause] }).enterLane l .fault (.cause cause))

/-- The barrier record as it takes a position and an arm loop: the reversal of the interlock (R108), a pending-lower carried out
(R107), the return to service (R111), and the state of the table of R104; as it takes FAULT or MANUAL (R110); and as its station
leaves ENROLLED (R112). Over the state, a position code writes the record, posts OBSTRUCTION or RETURNED, routes its edge and
brings a staged order due, and tells the lanes last (R105): the routing by the deck hold (R114), what the edge does to the lane
(R74, R78), the order due on an edge (R118), the recovery LOWERs of a return (R111), the taking of a lane's request (R113), and
what each lane does when told (R63, R74, R75, R78). The motion timer of a code that the interlock leaves alone is stopped at the
end commanded and started afresh when the arm leaves that end (R109). That a return stops a motion timer is log entry 12
(DEDUCED); that every lane is told before the first of them acts, and that the lanes hold UNKNOWN for a lost barrier, is log
entry 10 (DEDUCED); that a lane entering WEIGHING, LEAVING or its closing phase tests its end in the same handling is log entry
20 (DEDUCED); that the lanes act in lane order is log entry 56, that a LEAVING lane makes its own change to IDLE before its
partner tests and the arbiter grants is log entry 21, and that recovery LOWERs are made in lane order, so that the limit of the
first lane stands, and that the report of LEAVING names the EMPTY deck when the DEPART comes last are log entries 52 and 47, all
four the model's choices (DESIGN CHOICE). A barrier in FAULT or MANUAL, or lost, is not under LOWER (R109, R110, R112), so no
code both reverses a barrier and returns it to service. With them, the status and command values of a barrier drive, an undefined
value as FAULT (R146, R154; acted on again after FAULT or another such value, log entry 63, DESIGN CHOICE), the lanes naming a
barrier with their roles and their deck (R103, R114), the record a report carries (R121), and RAISE and LOWER as they are applied
(R106, R107; a timer stopped by them as log entry 12 reads, DEDUCED). -/
def Obligations.BarrierRecordTakesCode : Prop :=
  (∀ (b : BarrierRecord) (p : Position) (loop : ArmLoop),
      let a := b.takes p loop
      a.position = p ∧ a.loop = some loop ∧ a.told = b.told ∧ a.limit = b.limit ∧ a.mode = b.mode ∧ a.edge = b.edge ∧ a.staged = b.staged
        ∧ (b.returns p = false → b.state ≠ .fault → b.state ≠ .manual → a.state = (match a.commanded, p with
            | .none, .unknown => .unknown
            | .none, .down => .down
            | .none, .up => .up
            | .none, .rising | .none, .falling => .held
            | .raise, .up => .up
            | .raise, .unknown | .raise, .down | .raise, .rising | .raise, .falling => .raising
            | .lower, .down => .down
            | .lower, .unknown | .lower, .up | .lower, .rising | .lower, .falling => .lowering
            | .hold, _ => .held))
        ∧ (b.returns p = false → (b.state = .fault ∨ b.state = .manual) → a.state = b.state)
        ∧ (b.returns p = false → a.faultPosition = b.faultPosition ∧ a.awaitingReturn = b.awaitingReturn)
        ∧ (loop = .occupied → b.commanded = .lower → b.returns p = false →
          a.commanded = .raise ∧ a.pendingLower = true ∧ a.obstructions = min 255 (b.obstructions + 1)
            ∧ a.timer = if p = .up then none else some 0)
        ∧ (loop = .clear → b.pendingLower = true → b.returns p = false →
          a.commanded = .lower ∧ a.pendingLower = false ∧ a.obstructions = b.obstructions
            ∧ a.timer = if p = .down then none else some 0)
        ∧ ((loop = .occupied ∧ b.commanded ≠ .lower) ∨ (loop = .clear ∧ b.pendingLower = false) → b.returns p = false →
          a.commanded = b.commanded ∧ a.pendingLower = b.pendingLower ∧ a.obstructions = b.obstructions
            ∧ a.timer = if (b.commanded = .raise ∧ p = .up) ∨ (b.commanded = .lower ∧ p = .down) then none
              else if (b.commanded = .raise ∧ b.position = .up) ∨ (b.commanded = .lower ∧ b.position = .down) then some 0
              else b.timer)
        ∧ (b.returns p = true → a.commanded = .none ∧ a.faultPosition = none ∧ a.timer = none ∧ a.awaitingReturn = false
            ∧ a.state = (match p with
                | .unknown => .unknown
                | .down => .down
                | .up => .up
                | .rising | .falling => .held)))
    ∧ barrierStatus 0 = .shows .down .clear ∧ barrierStatus 1 = .shows .down .occupied
    ∧ barrierStatus 2 = .shows .up .clear ∧ barrierStatus 3 = .shows .up .occupied
    ∧ barrierStatus 4 = .shows .rising .clear ∧ barrierStatus 5 = .shows .rising .occupied
    ∧ barrierStatus 6 = .shows .falling .clear ∧ barrierStatus 7 = .shows .falling .occupied
    ∧ barrierStatus 8 = .manual ∧ (∀ c : Code, 9 ≤ c.toNat → barrierStatus c = .fault)
    ∧ BarrierCommand.none.code = .none ∧ BarrierCommand.raise.code = .raise ∧ BarrierCommand.lower.code = .lower
    ∧ BarrierCommand.hold.code = .hold
    ∧ (∀ (s : State) (n : StationId),
        let names (r : LaneRecord) : Prop := r.entryBarrier = n ∨ r.exitBarrier = n
        (∀ l role, (l, role) ∈ s.barrierLanes n ↔ ∃ r, s.laneRecord l = some r
          ∧ ((role = .entry ∧ r.entryBarrier = n) ∨ (role = .exit ∧ r.entryBarrier ≠ n ∧ r.exitBarrier = n)))
        ∧ (s.barrierLanes n).Pairwise (fun x y => x.1 < y.1)
        ∧ (∀ d, s.barrierDeck n = some d ↔ ∃ l r, s.laneRecord l = some r ∧ names r ∧ r.deck = d
          ∧ ∀ m, m < l → ∀ x, s.laneRecord m = some x → ¬ names x)
        ∧ ∀ b, s.barrierSnapshot n b =
          { station := n, state := b.state, commanded := b.commanded, position := b.position, loop := b.loop
            pendingLower := b.pendingLower, obstructions := b.obstructions, mode := b.mode, staged := b.staged
            lanes := (s.barrierLanes n).map fun x => (x.1, x.2, (s.lane x.1).state) })
    ∧ (∀ (b : BarrierRecord) (limit : Nat), b.state ≠ .fault → b.state ≠ .manual →
        (b.commanded = .raise → b.applyRaise limit =
          { b with pendingLower := false, timer := if b.state = .up then b.timer else some 0 })
        ∧ (b.commanded ≠ .raise → b.applyRaise limit = { b with
            commanded := .raise, pendingLower := false, limit := limit, timer := if b.position = .up then none else some 0
            state := if b.position = .up then .up else .raising })
        ∧ (b.loop = some .occupied → b.applyLower limit = { b with pendingLower := true })
        ∧ (b.loop ≠ some .occupied → b.commanded = .lower → b.applyLower limit =
          { b with pendingLower := false, timer := if b.state = .down then b.timer else some 0 })
        ∧ (b.loop ≠ some .occupied → b.commanded ≠ .lower → b.applyLower limit = { b with
            commanded := .lower, pendingLower := false, limit := limit, timer := if b.position = .down then none else some 0
            state := if b.position = .down then .down else .lowering }))
    ∧ (∀ (s : State) (n : StationId) (b : BarrierRecord) (c : Code), s.barrier n = some b → s.RoomForReport →
        let stopped (st : BarrierState) : BarrierRecord :=
          { b with state := st, commanded := .hold, pendingLower := false, timer := none, faultPosition := none,
                   awaitingReturn := false }
        let placed (st : BarrierState) : State :=
          (s.setBarrier n (some (stopped st))).setSlot n { s.slot n with command := .hold }
        (c.toNat = 8 → s.barrierCode n c =
          ((placed .manual).reported (.barrier .manual ((placed .manual).barrierSnapshot n (stopped .manual)))).faultLanes n
            (.barrierManual n))
        ∧ (9 ≤ c.toNat → s.barrierCode n c =
          ((placed .fault).reported (.barrier .fault ((placed .fault).barrierSnapshot n (stopped .fault)))).faultLanes n
            (.barrierFault n)))
    ∧ (∀ (s : State) (n : StationId) (b : BarrierRecord), s.barrier n = some b → s.RoomForReport →
      let a : BarrierRecord :=
        { b with commanded := .none, pendingLower := false, timer := none, position := .unknown, told := .unknown, loop := none,
                 state := .unknown, faultPosition := none, awaitingReturn := true }
      let t := (s.setBarrier n (some a)).setSlot n { s.slot n with command := .none }
      s.barrierLost n = t.reported (.barrier .lost (t.barrierSnapshot n a)))
    ∧ (∀ (s : State) (n : StationId) (b : BarrierRecord) (c : Code) (p : Position) (loop : ArmLoop),
      s.barrier n = some b → barrierStatus c = .shows p loop →
      let a := b.takes p loop
      let t : State := (s.setBarrier n (some a)).setSlot n { s.slot n with command := a.commanded.code }
      let edge : Option Edge := match b.loop, loop with
        | some .clear, .occupied => some .arrive
        | some .occupied, .clear => some .depart
        | _, _ => none
      let goesOn (u : State) : State := match edge with
        | none => u.tellLanes n
        | some e => ((u.routeEdge n e).edgeDue n e).tellLanes n
      let reversed : Prop := loop = .occupied ∧ b.commanded = .lower
      (¬ reversed → b.returns p = false → s.barrierCode n c = goesOn t)
      ∧ (reversed → b.returns p = false → s.RoomForReport →
        s.barrierCode n c = goesOn (t.reported (.barrier .obstruction (t.barrierSnapshot n a))))
      ∧ (¬ reversed → b.returns p = true → s.RoomForReport →
        s.barrierCode n c = goesOn ((t.reported (.barrier .returned (t.barrierSnapshot n a))).recoveryLowers n)))
    ∧ (∀ (b : BarrierRecord) (p : Position), b.returns p = true ↔
      b.awaitingReturn = true ∨ ((b.state = .fault ∨ b.state = .manual) ∧ b.faultPosition ≠ some p))
    ∧ (∀ (s : State) (n : StationId) (d : DeckId) (e : Edge), s.barrierDeck n = some d →
      (∀ l role, (s.arbiter d).holder = some l → (l, role) ∈ s.barrierLanes n → s.routeEdge n e = s.laneEdge l role e)
      ∧ (∀ l, (s.arbiter d).holder = some l → (∀ role, (l, role) ∉ s.barrierLanes n) → s.routeEdge n e = s)
      ∧ ∀ b, (s.arbiter d).holder = none → s.barrier n = some b → s.RoomForReport →
        s.routeEdge n e = s.reported (.barrier (.unexpectedPassage e) (s.barrierSnapshot n b)))
    ∧ (∀ (s : State) (l : LaneId) (r : LaneRecord) (role : BarrierRole) (e : Edge), s.laneRecord l = some r →
      let seen : State := s.setLane l { s.lane l with departSeen := true }
      let occupancy := (s.deck r.deck).occupancy
      (e = .depart → role = .entry → (s.lane l).state = .entering →
        ((s.lane l).closing = false → occupancy = .occupied → s.laneEdge l role e =
          ((seen.setLane l { s.lane l with departSeen := true, closing := true, timer := none }).askBarrier l .entry .lower).positionTold l)
        ∧ ((s.lane l).closing = true ∨ occupancy = .empty → s.laneEdge l role e = seen))
      ∧ (e = .depart → role = .exit → (s.lane l).state = .releasing →
        (occupancy = .empty → s.laneEdge l role e =
          ((seen.enterLane l .leaving (.event .deckEmpty)).askBarrier l .exit .lower).positionTold l)
        ∧ (occupancy = .occupied → s.laneEdge l role e = seen))
      ∧ (e = .arrive ∨ (role = .entry ∧ (s.lane l).state ≠ .entering) ∨ (role = .exit ∧ (s.lane l).state ≠ .releasing) →
        s.laneEdge l role e = s))
    ∧ (∀ (s : State) (n : StationId) (b : BarrierRecord) (e : Edge), s.barrier n = some b →
      let selected : Prop := b.mode = .stagedLoop
        ∧ (b.edge = .both ∨ (b.edge = .arrive ∧ e = .arrive) ∨ (b.edge = .depart ∧ e = .depart))
      (b.staged = none ∨ ¬ selected → s.edgeDue n e = s)
      ∧ ∀ o, b.staged = some o → selected → s.edgeDue n e = s.orderDue n b o)
    ∧ (∀ (s : State) (n : StationId),
      s.recoveryLowers n = ((s.barrierLanes n).filter fun x => decide ((s.lane x.1).state = .recover)).foldl
        (fun t x => t.askBarrier x.1 x.2 .lower) s
      ∧ ∀ b, s.barrier n = some b → s.tellLanes n =
        (allLanes.filter fun l => decide (∃ r, s.laneRecord l = some r ∧ (r.entryBarrier = n ∨ r.exitBarrier = n))).foldl
          (fun t l => t.positionTold l) (s.setBarrier n (some { b with told := b.position })))
    ∧ (∀ (s : State) (l : LaneId) (r : LaneRecord) (role : BarrierRole) (m : Motion) (b : BarrierRecord),
      s.laneRecord l = some r →
      let n := match role with
        | .entry => r.entryBarrier
        | .exit => r.exitBarrier
      s.barrier n = some b →
      let taken : Prop := (s.arbiter r.deck).holder = some l
        ∨ ((s.lane l).state = .recover ∧ m = .lower ∧ (s.arbiter r.deck).holder = none)
      let a : BarrierRecord := if b.state = .fault ∨ b.state = .manual then b else match m with
        | .raise => b.applyRaise r.motionLimit
        | .lower => b.applyLower r.motionLimit
      (¬ taken → s.askBarrier l role m = s)
      ∧ (taken → s.askBarrier l role m = (s.setBarrier n (some a)).setSlot n { s.slot n with command := a.commanded.code }))
    ∧ ∀ (s : State) (l : LaneId) (r : LaneRecord), s.laneRecord l = some r →
      let down (n : StationId) : Prop := ∃ b, s.barrier n = some b ∧ b.told = .down
      ((s.lane l).state = .entering → (s.lane l).closing = true → down r.entryBarrier → down r.exitBarrier →
        s.positionTold l = (s.enterLane l .weighing (.event .closingDone)).tryCapture l)
      ∧ ((s.lane l).state = .entering → ((s.lane l).closing = false ∨ ¬ down r.entryBarrier ∨ ¬ down r.exitBarrier) →
        s.positionTold l = s)
      ∧ ((s.lane l).state = .weighing → s.positionTold l = s.tryCapture l)
      ∧ ((s.lane l).state = .recover → s.positionTold l = s.testRecover l)
      ∧ ((s.lane l).state = .leaving → ¬ down r.exitBarrier → s.positionTold l = s)
      ∧ ((s.lane l).state = .leaving → down r.exitBarrier → (s.arbiter r.deck).holder = some l →
        s.positionTold l = (((s.setArbiter r.deck { s.arbiter r.deck with holder := none }).setLane l
          { s.lane l with claim := .none }).enterIdle l (.event .exitDown)).afterRelease r.deck)
      ∧ ((s.lane l).state ≠ .entering → (s.lane l).state ≠ .weighing → (s.lane l).state ≠ .leaving →
        (s.lane l).state ≠ .recover → s.positionTold l = s)

/-- BARRIER_ORDER by the first line of the table of R115 that applies, and how an order is applied: RAISE and LOWER with the
smallest motion limit of the lanes, either of them under way already, LOWER held back on an OCCUPIED loop, HOLD (R106, R107,
R116). That a timer still running is stopped by a RAISE sent at UP or a LOWER sent at DOWN is log entry 12 (DEDUCED). -/
def Obligations.BarrierOrders : Prop :=
  ∀ (s : State) (h : Request) (rest : List Request), s.HasHead 24 h rest →
    (∀ m o, (m = 0 ∨ 24 < m) → exec (.barrierOrder (.fits { station := m, order := o })) s = .next (s.replied h rest .bad .none))
    ∧ ∀ n : StationId,
      (s.barrier n = none → ∀ o,
        exec (.barrierOrder (.fits { station := n.val + 1, order := o })) s = .next (s.replied h rest .bad .none))
      ∧ ∀ b, s.barrier n = some b →
        let order (o : BarrierOrder) : Instr := .barrierOrder (.fits { station := n.val + 1, order := o })
        let done (a : BarrierRecord) (o : BarrierOrder) : State :=
          let t := (s.setBarrier n (some a)).setSlot n { s.slot n with command := a.commanded.code }
          t.reported (.barrier (.orderApplied o) (t.barrierSnapshot n a))
        let held : BarrierRecord := { b with commanded := .hold, pendingLower := false, timer := none, state := .held }
        let limit := s.smallestLimit n
        let stopped : Prop := b.state = .fault ∨ b.state = .manual
        (stopped → exec (order .hold) s = .next (s.replied h rest .ok .applied))
        ∧ (stopped → ∀ o, o ≠ .hold → exec (order o) s = .next (s.replied h rest .busy .none))
        ∧ (¬ stopped → s.lanesQuiet n = false → s.RoomForReport →
          exec (order .hold) s = .next ((done held .hold).replied h rest .ok .applied))
        ∧ (¬ stopped → s.lanesQuiet n = false → ∀ o, o ≠ .hold → exec (order o) s = .next (s.replied h rest .busy .none))
        ∧ (¬ stopped → s.lanesQuiet n = true → b.mode = .direct → s.RoomForReport →
          exec (order .hold) s = .next ((done held .hold).replied h rest .ok .applied)
          ∧ (b.commanded ≠ .raise → exec (order .raise) s = .next ((done { b with
                commanded := .raise, pendingLower := false, limit := limit,
                timer := if b.position = .up then none else some 0,
                state := if b.position = .up then .up else .raising } .raise).replied h rest .ok .applied))
          ∧ (b.commanded = .raise → exec (order .raise) s = .next ((done { b with
                pendingLower := false, timer := if b.state = .up then b.timer else some 0 } .raise).replied h rest .ok .applied))
          ∧ (b.loop ≠ some .occupied → b.commanded = .lower → exec (order .lower) s = .next ((done { b with
                pendingLower := false, timer := if b.state = .down then b.timer else some 0 } .lower).replied h rest .ok .applied))
          ∧ (b.loop = some .occupied → exec (order .lower) s = .next
            ((done { b with pendingLower := true } .lower).replied h rest .ok .applied))
          ∧ (b.loop ≠ some .occupied → b.commanded ≠ .lower → exec (order .lower) s = .next ((done { b with
                commanded := .lower, pendingLower := false, limit := limit,
                timer := if b.position = .down then none else some 0,
                state := if b.position = .down then .down else .lowering } .lower).replied h rest .ok .applied)))
        ∧ (¬ stopped → s.lanesQuiet n = true → b.mode ≠ .direct → ∀ o,
          exec (order o) s = .next ((s.setBarrier n (some { b with staged := some o })).replied h rest .ok .staged))

/-- RELEASE_STAGED (R117) and SET_BARRIER_MODE (R119) with each of their replies. A staged order that falls due, by
RELEASE_STAGED or on an edge, leaves the record and is applied, or discarded with its report (R117, R118); how an order is
applied (R106, R107, R116, a timer stopped by it as log entry 12 reads, DEDUCED); the quiet states (R115) and the smallest motion
limit of the lanes (R54). -/
def Obligations.StagedOrders : Prop :=
  (∀ (s : State) (n : StationId) (b : BarrierRecord), s.RoomForReport →
    let names (r : LaneRecord) : Prop := r.entryBarrier = n ∨ r.exitBarrier = n
    let stopped : Prop := b.state = .fault ∨ b.state = .manual
    (∀ o,
      let cleared : BarrierRecord := { b with staged := none }
      let t := s.setBarrier n (some cleared)
      (s.lanesQuiet n = true → (o = .hold ∨ ¬ stopped) → s.orderDue n b o = t.applyOrder n cleared o)
      ∧ (s.lanesQuiet n = false ∨ (o ≠ .hold ∧ stopped) → s.orderDue n b o =
        t.reported (.barrier (.stagedDiscarded o) (t.barrierSnapshot n cleared))))
    ∧ (let done (a : BarrierRecord) (o : BarrierOrder) : State :=
        let t := (s.setBarrier n (some a)).setSlot n { s.slot n with command := a.commanded.code }
        t.reported (.barrier (.orderApplied o) (t.barrierSnapshot n a))
      let limit := s.smallestLimit n
      (stopped → s.applyOrder n b .hold = s)
      ∧ (¬ stopped →
        s.applyOrder n b .hold = done { b with commanded := .hold, pendingLower := false, timer := none, state := .held } .hold
        ∧ (b.commanded ≠ .raise → s.applyOrder n b .raise = done { b with
            commanded := .raise, pendingLower := false, limit := limit
            timer := if b.position = .up then none else some 0
            state := if b.position = .up then .up else .raising } .raise)
        ∧ (b.commanded = .raise → s.applyOrder n b .raise = done { b with
            pendingLower := false, timer := if b.state = .up then b.timer else some 0 } .raise)
        ∧ (b.loop = some .occupied → s.applyOrder n b .lower = done { b with pendingLower := true } .lower)
        ∧ (b.loop ≠ some .occupied → b.commanded = .lower → s.applyOrder n b .lower = done { b with
            pendingLower := false, timer := if b.state = .down then b.timer else some 0 } .lower)
        ∧ (b.loop ≠ some .occupied → b.commanded ≠ .lower → s.applyOrder n b .lower = done { b with
            commanded := .lower, pendingLower := false, limit := limit
            timer := if b.position = .down then none else some 0
            state := if b.position = .down then .down else .lowering } .lower)))
    ∧ (s.lanesQuiet n = true ↔ ∀ l r, s.laneRecord l = some r → names r →
        (s.lane l).state = .closed ∨ (s.lane l).state = .idle ∨ (s.lane l).state = .referred ∨ (s.lane l).state = .refused
          ∨ (s.lane l).state = .fault ∨ (s.lane l).state = .recover)
    ∧ (∀ l r, s.laneRecord l = some r → names r → s.smallestLimit n ≤ r.motionLimit)
    ∧ ((∃ l r, s.laneRecord l = some r ∧ names r) →
        ∃ l r, s.laneRecord l = some r ∧ names r ∧ s.smallestLimit n = r.motionLimit))
  ∧ ∀ (s : State) (h : Request) (rest : List Request),
    (s.HasHead 26 h rest →
      (∀ m, (m = 0 ∨ 24 < m) → exec (.releaseStaged (.fits m)) s = .next (s.replied h rest .bad .none))
      ∧ ∀ n : StationId,
        (s.barrier n = none → exec (.releaseStaged (.fits (n.val + 1))) s = .next (s.replied h rest .bad .none))
        ∧ ∀ b, s.barrier n = some b →
          let cleared : BarrierRecord := { b with staged := none }
          let t := s.setBarrier n (some cleared)
          (b.mode ≠ .stagedMsg ∨ b.staged = none →
            exec (.releaseStaged (.fits (n.val + 1))) s = .next (s.replied h rest .bad .none))
          ∧ ∀ o, b.mode = .stagedMsg → b.staged = some o →
            (s.lanesQuiet n = true → (o = .hold ∨ (b.state ≠ .fault ∧ b.state ≠ .manual)) →
              exec (.releaseStaged (.fits (n.val + 1))) s = .next ((t.applyOrder n cleared o).replied h rest .ok .none))
            ∧ (s.lanesQuiet n = false ∨ (o ≠ .hold ∧ (b.state = .fault ∨ b.state = .manual)) → s.RoomForReport →
              exec (.releaseStaged (.fits (n.val + 1))) s = .next
                ((t.reported (.barrier (.stagedDiscarded o) (t.barrierSnapshot n cleared))).replied h rest .busy .none)))
    ∧ (s.HasHead 25 h rest →
      ∀ (mode : OfficeMode) (edge : Option EdgeSelect),
        (∀ m, (m = 0 ∨ 24 < m) →
          exec (.setBarrierMode (.fits { station := m, mode := mode, edge := edge })) s = .next (s.replied h rest .bad .none))
        ∧ ∀ n : StationId,
          let request : Instr := .setBarrierMode (.fits { station := n.val + 1, mode := mode, edge := edge })
          (s.barrier n = none → exec request s = .next (s.replied h rest .bad .none))
          ∧ ∀ b, s.barrier n = some b →
            let select : EdgeSelect := edge.getD b.edge
            (mode ≠ .direct ∨ b.staged = none →
              exec request s = .next ((s.setBarrier n (some { b with mode := mode, edge := select })).replied h rest .ok
                (.barrierMode mode select b.staged)))
            ∧ ∀ o, mode = .direct → b.staged = some o → s.RoomForReport →
              let a : BarrierRecord := { b with mode := .direct, edge := select, staged := none }
              let t := s.setBarrier n (some a)
              exec request s = .next
                ((t.reported (.barrier (.stagedDiscarded o) (t.barrierSnapshot n a))).replied h rest .ok
                  (.barrierMode .direct select none)))

/-- GROUP_ORDER: BAD on an empty set or a station outside 1–24; else every station of the set, in slot order, has its own
outcome by the lines of R115, NOT-A-BARRIER or SKIPPED, each barrier is dealt with as by its own order with its own motion limit
and its ORDER-APPLIED report (R106, R107, R116, R121), and the outcome of one does not depend on another (R120). The slot order,
in which the reports stand too, is the model's choice (log entry 53). That RAISE sent at UP or LOWER sent at DOWN stops a running
timer is log entry 12 (DEDUCED). The quiet lanes and the smallest limit are said by StagedOrders, a post by OfficeLine. -/
def Obligations.GroupOrders : Prop :=
  ∀ (s : State) (h : Request) (rest : List Request) (stations : List Nat) (o : BarrierOrder), s.HasHead 27 h rest →
    ((stations = [] ∨ ∃ m ∈ stations, m = 0 ∨ 24 < m) →
      exec (.groupOrder (.fits { stations := stations, order := o })) s = .next (s.replied h rest .bad .none))
    ∧ (stations ≠ [] → (∀ m ∈ stations, 1 ≤ m ∧ m ≤ 24) →
      let members := allStations.filter fun n => decide (n.val + 1 ∈ stations)
      let outcome (n : StationId) : GroupOutcome := match s.barrier n with
        | none => .notABarrier
        | some b =>
          if b.state = .fault ∨ b.state = .manual then .skipped
          else if s.lanesQuiet n = false then (if o = .hold then .applied else .refused)
          else if b.mode = .direct then .applied
          else .staged
      let after (n : StationId) (b : BarrierRecord) : BarrierRecord := match o with
        | .hold => { b with commanded := .hold, pendingLower := false, timer := none, state := .held }
        | .raise =>
          if b.commanded = .raise then { b with pendingLower := false, timer := if b.state = .up then b.timer else some 0 }
          else { b with
            commanded := .raise, pendingLower := false, limit := s.smallestLimit n
            timer := if b.position = .up then none else some 0
            state := if b.position = .up then .up else .raising }
        | .lower =>
          if b.loop = some .occupied then { b with pendingLower := true }
          else if b.commanded = .lower then
            { b with pendingLower := false, timer := if b.state = .down then b.timer else some 0 }
          else { b with
            commanded := .lower, pendingLower := false, limit := s.smallestLimit n
            timer := if b.position = .down then none else some 0
            state := if b.position = .down then .down else .lowering }
      let deals (u : State) (n : StationId) : State := match s.barrier n, outcome n with
        | some b, .applied =>
          ((u.setBarrier n (some (after n b))).setSlot n { s.slot n with command := (after n b).commanded.code }).post
            (.barrier (.orderApplied o) (s.barrierSnapshot n (after n b)))
        | some b, .staged => u.setBarrier n (some { b with staged := some o })
        | _, _ => u
      let applied := members.filter fun n => decide (outcome n = .applied)
      ∃ t : State,
        exec (.groupOrder (.fits { stations := stations, order := o })) s = .next
          (t.replied h rest .ok (.group (members.map fun n => (n, outcome n))))
        ∧ t = members.foldl deals s
        ∧ (s.reports.length + applied.length ≤ 32 →
            t.reports = s.reports ++ applied.filterMap (fun n => (s.barrier n).map fun b =>
              { body := .barrier (.orderApplied o) (s.barrierSnapshot n (after n b)), stamp := s.now })
            ∧ t.dropped = s.dropped ∧ t.overrun = s.overrun)
        ∧ (∀ n ∈ members, ∀ b, s.barrier n = some b →
            t.barrier n = (if b.state = .fault ∨ b.state = .manual then some b else (s.dealOrder n b o).barrier n)
              ∧ t.slot n = (if b.state = .fault ∨ b.state = .manual then s.slot n else (s.dealOrder n b o).slot n))
        ∧ (∀ n, (n ∉ members ∨ s.barrier n = none) → t.barrier n = s.barrier n ∧ t.slot n = s.slot n)
        ∧ t = { s with barriers := t.barriers, slots := t.slots, reports := t.reports, dropped := t.dropped,
                       overrun := t.overrun })

/-! ## Station messages and enrolment -/

/-- A message that a station sends unit by unit, each unit in two consecutive good records, is received whole and handed out
once, and the channel is back in IDLE with the TAKEN answer of its last unit, whichever frame the first unit comes in (R160 to
R162). A kind unit and a length unit that are validated are taken, or refused with ABORT and, for an unknown kind or a length
above 60, with BAD-MESSAGE (R162, R163); that an unknown kind from a REJECTED station posts none, and from an ALIVE or ENROLLING
one posts it, is the model's choice (log entry 58). That the refused unit becomes the last taken unit is log entry 18 (DEDUCED,
unsafe). One frame of a working channel in every case: no good record, a record that makes no pair, a validated NONE (R161), a
repeat of the last taken unit, a NEXT in IDLE and ABORTING, the length and the body units (R162), and the stale count, which rises
in RECEIVING when no new unit is taken (R163); and the values of the upstream kinds (R158). -/
def Obligations.WholeMessageReceived : Prop :=
  (∀ (c : ReceiveChannel) (st : StationState) (f : Nat) (u : UnitFields), c.candidate = some { fields := u, frame := f } →
    c.lastTaken ≠ some (u.mark, u.parity) → st ≠ .silent → st ≠ .lost →
    let g := (f + 1) % 8
    let seen : ReceiveChannel := { c with candidate := some { fields := u, frame := g }, lastTaken := some (u.mark, u.parity), stale := 0 }
    let refused : ReceiveChannel := { seen with phase := .aborting, answer := .abort }
    (u.mark = .first →
      (st = .rejected → c.frame st g (some u) = (refused, .none))
      ∧ (st ≠ .rejected → upKindOf u.unit = none → c.frame st g (some u) = (refused, .badValue u.unit))
      ∧ ∀ k, st ≠ .rejected → upKindOf u.unit = some k →
        ((st = .alive ∨ st = .enrolling) → k ≠ .enrolPage → c.frame st g (some u) = (refused, .none))
        ∧ ((st ≠ .alive ∧ st ≠ .enrolling) ∨ k = .enrolPage → c.frame st g (some u) =
          ({ seen with phase := .receiving { kind := k, length := none, body := [] }, answer := .taken0 }, .none)))
    ∧ ∀ k, u.mark = .next → c.phase = .receiving { kind := k, length := none, body := [] } → 60 < u.unit.toNat →
      c.frame st g (some u) = (refused, .badValue u.unit))
  ∧ (∀ (c : ReceiveChannel) (st : StationState), st ≠ .silent → st ≠ .lost →
    let aged (x : ReceiveChannel) : ReceiveChannel := match x.phase with
      | .receiving _ => { x with stale := min 64 (x.stale + 1) }
      | .idle | .aborting => x
    (∀ g, c.frame st g none = (aged { c with candidate := none }, .none))
    ∧ (∀ g u, (∀ x, c.candidate = some x → x.fields ≠ u ∨ (x.frame + 1) % 8 ≠ g) →
      c.frame st g (some u) = (aged { c with candidate := some { fields := u, frame := g } }, .none))
    ∧ ∀ (f : Nat) (u : UnitFields), c.candidate = some { fields := u, frame := f } →
      let g := (f + 1) % 8
      let seen : ReceiveChannel := { c with candidate := some { fields := u, frame := g } }
      (u.mark = .none →
        (c.phase = .idle → c.frame st g (some u) = ({ seen with answer := .none }, .none))
        ∧ (c.phase ≠ .idle →
          c.frame st g (some u) = ({ seen with phase := .idle, answer := .none, lastTaken := none }, .none)))
      ∧ (u.mark ≠ .none → c.lastTaken = some (u.mark, u.parity) → c.frame st g (some u) = (aged seen, .none))
      ∧ (u.mark = .next → c.lastTaken ≠ some (u.mark, u.parity) →
        (c.phase = .idle ∨ c.phase = .aborting → c.frame st g (some u) = (seen, .none))
        ∧ ∀ p : Partial, c.phase = .receiving p →
          let taken : ReceiveChannel := { seen with
            answer := if u.parity then .taken1 else .taken0, lastTaken := some (u.mark, u.parity), stale := 0 }
          (p.length = none →
            (u.unit.toNat = 0 →
              c.frame st g (some u) = ({ taken with phase := .idle }, .complete { kind := p.kind, body := [] }))
            ∧ (1 ≤ u.unit.toNat → u.unit.toNat ≤ 60 → c.frame st g (some u) =
              ({ taken with phase := .receiving { p with length := some u.unit.toNat } }, .none))
            ∧ (60 < u.unit.toNat → c.frame st g (some u) =
              ({ taken with phase := .aborting, answer := .abort }, .badValue u.unit)))
          ∧ ∀ n, p.length = some n →
            let body := p.body ++ [u.unit]
            (n ≤ body.length →
              c.frame st g (some u) = ({ taken with phase := .idle }, .complete { kind := p.kind, body := body }))
            ∧ (body.length < n →
              c.frame st g (some u) = ({ taken with phase := .receiving { p with body := body } }, .none))))
  ∧ (∀ b : Byte, upKindOf b = if b = 0x11 then some .identRead else if b = 0x12 then some .keyEntry
    else if b = 0x13 then some .printOutcome else if b = 0x14 then some .enrolPage
    else if b = 0x15 then some .stationNote else none)
  ∧ takenAnswer false = .taken0 ∧ takenAnswer true = .taken1
  ∧ ∀ (c : ReceiveChannel) (k : UpKind) (body : List Byte) (f : Nat), body.length ≤ 60 → f < 8 →
    c.phase = .idle → c.candidate = none → c.lastTaken ≠ some (.first, false) →
    let out := c.run .enrolled f ((messageUnits k body).flatMap fun u => [some u, some u])
    out.2.filter (fun x => decide (x ≠ .none)) = [.complete { kind := k, body := body }]
      ∧ out.1.phase = .idle ∧ out.1.answer = takenAnswer (body.length % 2 == 0)

/-- STATION_NOTE goes to the office as a NOTE (R167); a message of any kind whose body does not hold its fields is discarded with
BAD-MESSAGE (R168), by IDENT_READ, KEY_ENTRY, PRINT_OUTCOME, STATION_NOTE and ENROL_PAGE alike, and a malformed ENROL_PAGE fails
an open attempt as well (R172); and a command whose kind of message is not the oldest complete one changes nothing (log entry 4).
That the fields of a message come as an operand of its command, or are said not to fit, is log entry 7 (DESIGN CHOICE). With them,
the values each field may have (R167, R168, R173). -/
def Obligations.StationMessages : Prop :=
  (∀ c : Char, textChar c = true ↔ identChar c = true ∨ c ∈ [' ', '.', ',', ':', '/'])
  ∧ (∀ t : Text, validText t = true ↔ t.length ≤ 40 ∧ ∀ c ∈ t, textChar c = true)
  ∧ (∀ x : IdentRead, x.wellFormed = true ↔ (1 ≤ x.ident.length ∧ x.ident.length ≤ 16 ∧ ∀ c ∈ x.ident, identChar c = true)
    ∧ x.quality ≤ 100)
  ∧ (∀ k, (KeyEntry.category k).wellFormed = true ↔ 1 ≤ k ∧ k ≤ 16) ∧ KeyEntry.callAttendant.wellFormed = true
  ∧ (∀ x : PrintMessage, x.wellFormed = true ↔ 1 ≤ x.number ∧ x.number ≤ 99999999)
  ∧ (∀ kind abilities revision follow toggle, (EnrolPage.base kind abilities revision follow toggle).wellFormed = true ↔
    abilitiesFit kind abilities = true ∧ revision ≤ 255 ∧ follow ≤ 3)
  ∧ (∀ number chunk toggle, (EnrolPage.next number chunk toggle).wellFormed = true ↔
    1 ≤ number ∧ number ≤ 3 ∧ chunk.length ≤ 8 ∧ ∀ c ∈ chunk, identChar c = true)
  ∧ (∀ (α : Type) (test : α → Bool), (Body.misfit : Body α).read test = none
    ∧ ∀ x : α, (Body.fits x).read test = if test x = true then some x else none)
  ∧ ∀ (s : State) (n : StationId) (m : UpMessage) (rest : List UpMessage), s.HasMessage n m rest →
    let t := s.messagesLeft n rest
    (∀ text : Text, m.kind = .stationNote → text.length ≤ 40 → (∀ c ∈ text, textChar c = true) → s.RoomForReport →
      exec (.stationNote n (.fits text)) s = .next (t.reported (.noteText n text)))
    ∧ (∀ b : Body Text, m.kind = .stationNote → b.read validText = none → s.RoomForReport →
      exec (.stationNote n b) s = .next (t.reported (.badMessageKind n .stationNote)))
    ∧ (∀ b : Body IdentRead, m.kind = .identRead → b.read IdentRead.wellFormed = none → s.RoomForReport →
      exec (.identRead n b) s = .next (t.reported (.badMessageKind n .identRead)))
    ∧ (∀ b : Body KeyEntry, m.kind = .keyEntry → b.read KeyEntry.wellFormed = none → s.RoomForReport →
      exec (.keyEntry n b) s = .next (t.reported (.badMessageKind n .keyEntry)))
    ∧ (∀ b : Body PrintMessage, m.kind = .printOutcome → b.read PrintMessage.wellFormed = none → s.RoomForReport →
      exec (.printOutcome n b) s = .next (t.reported (.badMessageKind n .printOutcome)))
    ∧ (∀ b : Body EnrolPage, m.kind = .enrolPage → b.read EnrolPage.wellFormed = none → s.RoomForReport →
      ((s.station n).state = .alive ∨ (s.station n).state = .enrolling →
        exec (.enrolPage n b) s = .next ((t.reported (.badMessageKind n .enrolPage)).attemptFailed n))
      ∧ ((s.station n).state ≠ .alive → (s.station n).state ≠ .enrolling →
        exec (.enrolPage n b) s = .next (t.reported (.badMessageKind n .enrolPage))))
    ∧ (∀ b : Body Text, m.kind ≠ .stationNote → exec (.stationNote n b) s = .next s)
    ∧ (∀ b : Body IdentRead, m.kind ≠ .identRead → exec (.identRead n b) s = .next s)
    ∧ (∀ b : Body KeyEntry, m.kind ≠ .keyEntry → exec (.keyEntry n b) s = .next s)
    ∧ (∀ b : Body PrintMessage, m.kind ≠ .printOutcome → exec (.printOutcome n b) s = .next s)
    ∧ ∀ b : Body EnrolPage, m.kind ≠ .enrolPage → exec (.enrolPage n b) s = .next s

/-- SEND_START: on a start condition that holds, the channel takes the waiting enrolment result, else the head ticket job in
WAITING, else the forward buffer, and enters SENDING at attempt 1 (R164, R166); with the condition not met, or nothing to send,
nothing happens (log entry 4, DESIGN CHOICE). That the waiting result leaves its place as it is taken is log entry 19 (DEDUCED).
The TICKET message does not depend on the terminal and the visit link of its job, and no body is longer than 60 units (R129,
R169). That the body is a free value cut to 60 units is log entry 1 (DESIGN CHOICE). -/
def Obligations.SendStart : Prop :=
  (∀ (s : State) (n : StationId),
    let x := s.station n
    let sending (m : DownMessage) (waiting : Option EnrolResult) : State :=
      s.setStation n { x with send := { x.send with
        phase := .sending, message := some { msg := m, unit := 0, attempt := 1 }, timer := 0, gap := 0, noneSeen := true,
        waiting := waiting } }
    let ready : Prop := (x.state = .alive ∨ x.state = .enrolling ∨ x.state = .enrolled ∨ x.state = .rejected)
      ∧ x.send.phase = .idle ∧ x.send.noneShown = 2 ∧ x.send.noneHeard = 2
    (∀ w, ready → x.send.waiting = some w → exec (.sendStart n) s = .next (sending (enrolResultMessage w) none))
    ∧ (∀ l j jobs, ready → x.send.waiting = none → x.state = .enrolled → s.laneOfTerminal n = some l →
      (s.queue l).jobs = j :: jobs → (s.queue l).phase = .waiting →
      exec (.sendStart n) s = .next ((sending (ticketMessage l j) none).setQueue l { s.queue l with phase := .sending }))
    ∧ (∀ text, ready → x.send.waiting = none → x.state = .enrolled → s.offeredTicket n = none → x.forward = some text →
      exec (.sendStart n) s = .next (sending (displayMessage text) none))
    ∧ (¬ ready → exec (.sendStart n) s = .next s)
    ∧ (x.send.waiting = none → (x.state ≠ .enrolled ∨ (s.offeredTicket n = none ∧ x.forward = none)) →
      exec (.sendStart n) s = .next s)
    ∧ (s.offeredTicket n = none ↔ ∀ l j jobs, s.laneOfTerminal n = some l → (s.queue l).jobs = j :: jobs →
      (s.queue l).phase ≠ .waiting))
    ∧ (∀ (l : LaneId) (j : TicketJob), (ticketMessage l j).kind = 0x21 ∧ (ticketMessage l j).source = .ticket l
      ∧ (ticketMessage l j).body.length ≤ 60
      ∧ ∀ (terminal : StationId) (visit : Nat), ticketMessage l { j with terminal := terminal, visit := visit } = ticketMessage l j)
    ∧ (∀ text : Text, (displayMessage text).kind = 0x22 ∧ (displayMessage text).source = .forward
      ∧ (displayMessage text).body.length ≤ 60)
    ∧ ∀ r : EnrolResult, (enrolResultMessage r).kind = 0x23 ∧ (enrolResultMessage r).source = .enrolResult r
      ∧ (enrolResultMessage r).body.length ≤ 60

/-- The message channels: RECEIVE_STALE discards a partial message (R163), UNIT_TIMER_EXPIRY fails an attempt, the third with the
source told (R135, R165, R166), GAP_END begins the next attempt (R165); what one frame of a station does to its send channel:
NONE heard and seen, ABORT, the unit matched, the message delivered and its source told (R129, R164 to R166); and the withdrawal
of a TICKET (R165). That the result in progress has left the waiting place is log entry 19 (DEDUCED), and that the unit timer
ends when the slot of its frame is judged is log entry 25 (DEDUCED). That the second and the third attempt begin with none seen
clear, whatever answers the gap heard, is log entry 59 (DESIGN CHOICE, unsafe), and what the timer, the gap count and none seen
hold where they are not used is log entry 38 (DESIGN CHOICE). -/
def Obligations.ChannelTimers : Prop :=
  (∀ (s : State) (n : StationId),
    let x := s.station n
    let send (c : SendChannel) : State := s.setStation n { x with send := c }
    let rests (c : SendChannel) : SendChannel :=
      { c with phase := .idle, message := none, timer := 0, gap := 0, noneSeen := false }
    let quiet (c : SendChannel) : SendChannel := { c with phase := .gap, timer := 0, gap := 0, noneSeen := false }
    (∀ p, x.receive.phase = .receiving p → 64 ≤ x.receive.stale → exec (.receiveStale n) s = .next
      (s.setStation n { x with receive := { x.receive with phase := .idle, answer := .none, lastTaken := none, stale := 0 } }))
    ∧ (∀ p, x.send.phase = .sending → x.send.message = some p → 32 ≤ x.send.timer → (s.slot n).awaited = false →
      (p.attempt < 3 → exec (.unitTimerExpiry n) s = .next (send (quiet x.send)))
      ∧ (3 ≤ p.attempt →
        (∀ r, p.msg.source = .enrolResult r → s.RoomForReport →
          exec (.unitTimerExpiry n) s = .next ((send (rests x.send)).reported (.messageDropped n .enrolResult)))
        ∧ (p.msg.source = .forward → s.RoomForReport → exec (.unitTimerExpiry n) s = .next
          ((s.setStation n { x with forward := none, send := rests x.send }).reported (.messageDropped n .displayText)))
        ∧ ∀ l, p.msg.source = .ticket l →
          exec (.unitTimerExpiry n) s = .next ((send (rests x.send)).jobLeaves l (.notPrinted .noAnswer))))
    ∧ (∀ p, x.send.phase = .gap → x.send.message = some p → 4 ≤ x.send.gap → exec (.gapEnd n) s = .next
      (send { x.send with phase := .sending, message := some { msg := p.msg, unit := 0, attempt := p.attempt + 1 },
                          timer := 0, gap := 0, noneSeen := false })))
    ∧ (∀ (s : State) (n : StationId),
      let x := s.station n
      let works : Prop := x.state = .alive ∨ x.state = .enrolling ∨ x.state = .enrolled ∨ x.state = .rejected
      let send (c : SendChannel) : State := s.setStation n { x with send := c }
      let unheard : SendChannel := { x.send with noneHeard := 0 }
      let rests : SendChannel := { x.send with
        phase := .idle, message := none, timer := 0, gap := 0, noneSeen := false, noneHeard := 0 }
      (¬ works → ∀ a, s.sendFrame n a = s)
      ∧ (works →
        s.sendFrame n none = send unheard
        ∧ s.sendFrame n (some .none) = send { x.send with
            noneHeard := min 2 (x.send.noneHeard + 1), noneSeen := x.send.noneSeen || x.send.phase == .sending }
        ∧ (x.send.phase ≠ .sending → ∀ a, a ≠ .none → s.sendFrame n (some a) = send unheard)
        ∧ ∀ p, x.send.phase = .sending → x.send.message = some p →
          (p.attempt < 3 → s.sendFrame n (some .abort) =
            send { x.send with phase := .gap, timer := 0, gap := 0, noneSeen := false, noneHeard := 0 })
          ∧ (3 ≤ p.attempt →
            (∀ r, p.msg.source = .enrolResult r → s.RoomForReport →
              s.sendFrame n (some .abort) = (send rests).reported (.messageDropped n .enrolResult))
            ∧ (p.msg.source = .forward → s.RoomForReport → s.sendFrame n (some .abort) =
              (s.setStation n { x with forward := none, send := rests }).reported (.messageDropped n .displayText))
            ∧ ∀ l, p.msg.source = .ticket l →
              s.sendFrame n (some .abort) = (send rests).jobLeaves l (.notPrinted .noAnswer))
          ∧ ∀ a : Answer, a = .taken0 ∨ a = .taken1 →
            let own : Answer := if p.unit % 2 = 1 then .taken1 else .taken0
            ((a ≠ own ∨ (p.unit = 0 ∧ x.send.noneSeen = false)) → s.sendFrame n (some a) = send unheard)
            ∧ (a = own → (p.unit ≠ 0 ∨ x.send.noneSeen = true) →
              (p.unit + 1 < p.msg.body.length + 2 → s.sendFrame n (some a) =
                send { unheard with message := some { p with unit := p.unit + 1 }, timer := 0 })
              ∧ (p.msg.body.length + 2 ≤ p.unit + 1 →
                (∀ r, p.msg.source = .enrolResult r → s.sendFrame n (some a) = send rests)
                ∧ (p.msg.source = .forward → s.sendFrame n (some a) =
                  s.setStation n { x with forward := none, send := rests })
                ∧ ∀ l, p.msg.source = .ticket l → s.sendFrame n (some a) =
                  (send rests).setQueue l { s.queue l with phase := .awaitOutcome 0 }))))
    ∧ ∀ (s : State) (n : StationId) (l : LaneId),
      let x := s.station n
      (∀ p, x.send.message = some p → p.msg.source = .ticket l → s.withdrawTicket n l = s.setStation n
        { x with send := { x.send with phase := .idle, message := none, timer := 0, gap := 0, noneSeen := false } })
      ∧ ((∀ p, x.send.message = some p → p.msg.source ≠ .ticket l) → s.withdrawTicket n l = s)

/-- ENROL_PAGE and ENROL_WINDOW_EXPIRY: a base page begins an attempt, and the page that makes the announced number complete
completes it; a station with no role or of the kind and the ability its role requires is ENROLLED with what follows, any other
REJECTED(MISMATCH), its report naming the kind received and the role with the deck or the lanes that give it (R51, R174; both
lanes of a shared barrier by log entry 64, DEDUCED); a duplicate has no effect; a page out of order, a base page that is no
duplicate, a malformed page and the end of the window fail the attempt, the seventh with REJECTED(NO-ENROL); a base page of an
ENROLLED station restarts it (R168, R172 to R175). What follows a completed attempt stands in one order: the report and the code
handed on, then the deck's CAPTURING and its telling, then the lanes; that order, and the order in which the owners of a
restarted station act on its loss, is the model's choice (log entry 26), and so is the lane order of two lanes (log entry 56).
The hand-on of the taken code at enrolment: BAD-CODE for a value its kind does not define, then the owner of its role (R145,
R146); that the report comes first is log entry 17, and that it is posted at each enrolment, so also when a restarted station's
taken code was reported before, is log entry 62 (both DESIGN CHOICE); that the code is handed with no code before it is log entry
16 (DEDUCED). The loss of a restarted station: LOST with RESTARTED, its forward, ticket queue and channels, then its deck,
barrier and lanes (R175, R177; the receive channel left with no last taken unit by log entry 18, DEDUCED; the NONE answers heard
before it no longer counting by log entry 68, DESIGN CHOICE). The abilities a kind defines (R171) and the pages of an attempt
(R173). -/
def Obligations.Enrolment : Prop :=
  (∀ (s : State) (n : StationId),
      ((s.slot n).taken = none → s.handOnEnrolled n = s)
      ∧ ∀ c kind, (s.slot n).taken = some c → (s.station n).kind = some kind → (codeDefined kind c = false → s.RoomForReport) →
        let told : State := if codeDefined kind c = true then s else s.reported (.badCode n c)
        (s.role n = none → s.handOnEnrolled n = told)
        ∧ (∀ d, s.role n = some .digitizer → s.deckOfDigitizer n = some d →
          s.handOnEnrolled n = (told.deckCode d none c).deckTold d)
        ∧ (s.role n = some .barrier → s.handOnEnrolled n = told.barrierCode n c)
        ∧ (s.role n = some .reader → s.handOnEnrolled n = told.readerCode n none c)
        ∧ ∀ needs, s.role n = some (.terminal needs) →
          s.handOnEnrolled n = (told.terminalCode n none c).ticketCode n c)
    ∧ (∀ (s : State) (n : StationId), s.reports.length < 31 →
      let a : State := (s.setStation n
        { s.station n with state := .lost, wasLost := true, pages := [], window := 0, forward := none }).reported (.lost n true)
      let b : State := if (s.station n).forward = none then a else a.reported (.messageDropped n .displayText)
      let c : State := match s.laneOfTerminal n with
        | none => b
        | some l => b.flushQueue l .terminalLost
      let t : State := c.setStation n { c.station n with
        receive := { phase := .idle, answer := .none, candidate := none, lastTaken := none, stale := 0 }
        send := { (c.station n).send with
          phase := .idle, message := none, timer := 0, gap := 0, noneSeen := false, waiting := none, noneHeard := 0 } }
      s.enrolledLost n true = ((t.deckLost n).barrierLost n).lanesSeeLost n)
    ∧ (∀ pages : List EnrolPage, pagesComplete pages = true ↔ ∃ kind abilities revision follow toggle more,
      pages = .base kind abilities revision follow toggle :: more ∧ more.length = follow)
    ∧ (∀ (kind : StationKind) (x : Abilities), abilitiesFit kind x = true ↔ (match kind with
      | .digitizer => x.cardReader = false ∧ x.keypad = false
      | .terminal => x.reducedRate = false ∧ x.off = false
      | .barrierDrive | .identReader =>
        x.reducedRate = false ∧ x.off = false ∧ x.cardReader = false ∧ x.keypad = false))
    ∧ (∀ kind abilities revision follow toggle, let page : EnrolPage := .base kind abilities revision follow toggle
      page.number = 0 ∧ page.chunk = [] ∧ page.toggle = toggle)
    ∧ (∀ number chunk toggle, let page : EnrolPage := .next number chunk toggle
      page.number = number ∧ page.chunk = chunk ∧ page.toggle = toggle)
    ∧ Role.digitizer.kind = .digitizer ∧ Role.barrier.kind = .barrierDrive ∧ Role.reader.kind = .identReader
    ∧ (∀ needs, (Role.terminal needs).kind = .terminal)
    ∧ (∀ (s : State) (n : StationId),
      (s.role n = none → s.rolePlaces n = [])
      ∧ s.rolePlaces n =
        (allDecks.filter fun d => decide (∃ r, (s.deck d).record = some r ∧ r.digitizer = n)).map .digitizer
          ++ (s.barrierLanes n).map (fun x => .barrier x.1 x.2)
          ++ (allLanes.filter fun l => decide (∃ r, s.laneRecord l = some r ∧ r.reader = some n)).map .reader
          ++ (allLanes.filter fun l => decide (∃ r, s.laneRecord l = some r ∧ r.terminal = n)).map .terminal)
    ∧ (∀ (s : State) (n : StationId), s.RoomForReport →
      let x := s.station n
      (x.failed < 6 → s.attemptFailed n =
        s.setStation n { x with state := .alive, window := 0, pages := [], failed := x.failed + 1 })
      ∧ (6 ≤ x.failed → s.attemptFailed n =
        (s.setStation n { x with
          state := .rejected, rejection := some .noEnrol, failed := x.failed + 1, pages := [],
          send := { x.send with waiting := some (.rejected .noEnrol) } }).reported (.rejectedNoEnrol n))
      ∧ ((x.state = .alive ∨ x.state = .enrolling) → 2000 ≤ x.window →
        exec (.enrolWindowExpiry n) s = .next (s.attemptFailed n)))
    ∧ (∀ (s : State) (n : StationId) (m : UpMessage) (rest : List UpMessage), s.HasMessage n m rest → m.kind = .enrolPage →
      s.RoomForReport →
      let t := s.messagesLeft n rest
      let x := t.station n
      (∀ kind abilities revision follow toggle, abilitiesFit kind abilities = true → revision ≤ 255 →
        let base : EnrolPage := .base kind abilities revision follow toggle
        (1 ≤ follow → follow ≤ 3 → x.state = .alive → x.pages = [] →
          exec (.enrolPage n (.fits base)) s = .next (t.setStation n { x with state := .enrolling, pages := [base] }))
        ∧ (follow = 0 → x.state = .alive → x.pages = [] → s.role n = none → (s.slot n).taken = none →
          exec (.enrolPage n (.fits base)) s = .next
            ((t.setStation n { x with
              state := .enrolled, kind := some kind, abilities := abilities, revision := some revision, serial := some [],
              failed := 0, pages := [], send := { x.send with waiting := some .accepted } }).reported
              (.enrolled n kind abilities revision [])))
        ∧ (∀ role, follow = 0 → x.state = .alive → x.pages = [] → s.role n = some role → kind ≠ role.kind →
          exec (.enrolPage n (.fits base)) s = .next
            ((t.setStation n { x with
              state := .rejected, rejection := some .mismatch, kind := some kind, abilities := abilities,
              revision := some revision, serial := some [], pages := [],
              send := { x.send with waiting := some (.rejected .mismatch) } }).reported
              (.rejectedMismatch n kind (some role) (s.rolePlaces n)))))
      ∧ (∀ number chunk toggle, 1 ≤ number → number ≤ 3 → chunk.length ≤ 8 → (∀ c ∈ chunk, identChar c = true) →
        let page : EnrolPage := .next number chunk toggle
        (x.state = .alive → exec (.enrolPage n (.fits page)) s = .next (t.attemptFailed n))
        ∧ (x.state = .enrolled ∨ x.state = .rejected → exec (.enrolPage n (.fits page)) s = .next t)
        ∧ ∀ last, x.state = .enrolling → x.pages.getLast? = some last →
          (last.toggle = toggle → exec (.enrolPage n (.fits page)) s = .next t)
          ∧ (last.toggle ≠ toggle → number ≠ last.number + 1 → exec (.enrolPage n (.fits page)) s = .next (t.attemptFailed n))
          ∧ (last.toggle ≠ toggle → number = last.number + 1 → pagesComplete (x.pages ++ [page]) = false →
            exec (.enrolPage n (.fits page)) s = .next (t.setStation n { x with pages := x.pages ++ [page] })))
      ∧ ((x.state = .alive ∨ x.state = .enrolling) →
        exec (.enrolPage n .misfit) s = .next ((t.reported (.badMessageKind n .enrolPage)).attemptFailed n))
      ∧ (∀ kind abilities revision follow toggle, abilitiesFit kind abilities = true → revision ≤ 255 → follow ≤ 3 →
        let base : EnrolPage := .base kind abilities revision follow toggle
        (x.state = .rejected → exec (.enrolPage n (.fits base)) s = .next t)
        ∧ (∀ last, x.state = .enrolling → x.pages.getLast? = some last →
          (last.toggle = toggle → exec (.enrolPage n (.fits base)) s = .next t)
          ∧ (last.toggle ≠ toggle → 6 ≤ x.failed → exec (.enrolPage n (.fits base)) s = .next (t.attemptFailed n))
          ∧ (last.toggle ≠ toggle → x.failed < 6 →
            let u := t.setStation n { x with state := .enrolling, window := 0, pages := [base], failed := x.failed + 1 }
            (1 ≤ follow → exec (.enrolPage n (.fits base)) s = .next u)
            ∧ (follow = 0 → exec (.enrolPage n (.fits base)) s = .next (u.attemptComplete n))))
        ∧ (x.state = .enrolled →
          let lost := t.enrolledLost n true
          let u := lost.setStation n { lost.station n with state := .enrolling, window := 0, pages := [base] }
          (1 ≤ follow → exec (.enrolPage n (.fits base)) s = .next u)
          ∧ (follow = 0 → exec (.enrolPage n (.fits base)) s = .next (u.attemptComplete n)))
        ∧ ∀ more number chunk tog, x.state = .enrolling → x.pages = base :: more → 1 ≤ number → number ≤ 3 →
          chunk.length ≤ 8 → (∀ c ∈ chunk, identChar c = true) →
          (∀ last, (base :: more).getLast? = some last → last.toggle ≠ tog ∧ number = last.number + 1) →
          let u := t.setStation n { x with pages := base :: more ++ [.next number chunk tog] }
          (more.length + 1 = follow → exec (.enrolPage n (.fits (.next number chunk tog))) s = .next (u.attemptComplete n))
          ∧ (more.length + 1 ≠ follow → exec (.enrolPage n (.fits (.next number chunk tog))) s = .next u)))
    ∧ ∀ (s : State) (n : StationId) (kind : StationKind) (abilities : Abilities) (revision follow : Nat) (toggle : Bool)
      (more : List EnrolPage), (s.station n).pages = .base kind abilities revision follow toggle :: more → s.RoomForReport →
      let x := s.station n
      let serial := more.flatMap EnrolPage.chunk
      let fits : Prop := s.role n = none ∨ ∃ role, s.role n = some role ∧ kind = role.kind
        ∧ (role = .terminal true → abilities.cardReader = true)
      (fits →
        let u := (s.setStation n { x with
          state := .enrolled, kind := some kind, abilities := abilities, revision := some revision, serial := some serial,
          failed := 0, pages := [], send := { x.send with waiting := some .accepted } }).reported
            (.enrolled n kind abilities revision serial)
        let handed : State := u.handOnEnrolled n
        let told : State := match handed.deckOfDigitizer n with
          | none => handed
          | some d => if (handed.deck d).state = .waiting then (handed.enterDeckState d .capturing).deckTold d
            else handed.deckTold d
        s.attemptComplete n = told.lanesSeeEnrolled n)
      ∧ (¬ fits → s.attemptComplete n = (s.setStation n { x with
          state := .rejected, rejection := some .mismatch, kind := some kind, abilities := abilities,
          revision := some revision, serial := some serial, pages := [],
          send := { x.send with waiting := some (.rejected .mismatch) } }).reported (.rejectedMismatch n kind (s.role n) (s.rolePlaces n)))

/-- FORWARD by the first line of the table of R170 that applies, and READ_STATION with what it clears and the threshold it may
carry (R152, R178); and the entry the reply shows (R178). -/
def Obligations.StationRequests : Prop :=
  (∀ (s : State) (n : StationId), s.stationStatus n =
    { state := (s.station n).state, rejection := (s.station n).rejection, kind := (s.station n).kind
      abilities := (s.station n).abilities, revision := (s.station n).revision, serial := (s.station n).serial
      failed := (s.station n).failed, taken := (s.slot n).taken, near := (s.slot n).near, far := (s.slot n).far
      periodErrors := (s.slot n).periodErrors, degraded := (s.slot n).degraded, threshold := (s.slot n).threshold
      wasLost := (s.station n).wasLost, wasDegraded := (s.station n).wasDegraded
      receivePhase := match (s.station n).receive.phase with
        | .idle => .idle
        | .receiving _ => .receiving
        | .aborting => .aborting
      sendPhase := (s.station n).send.phase, forwardHeld := (s.station n).forward.isSome
      obstructions := match s.barrier n with
        | none => none
        | some b => some b.obstructions })
  ∧ (∀ (s : State) (h : Request) (rest : List Request) (v : ForwardLoad), s.HasForward h rest →
      ((v.station = 0 ∨ 24 < v.station ∨ 40 < v.text.length ∨ ∃ c ∈ v.text, textChar c = false) →
        exec (.forward (.fits v)) s = .next (s.replied h rest .bad .none))
      ∧ ∀ n : StationId, v.station = n.val + 1 → v.text.length ≤ 40 → (∀ c ∈ v.text, textChar c = true) →
        ((s.station n).state ≠ .enrolled → exec (.forward (.fits v)) s = .next (s.replied h rest .busy .none))
        ∧ ((s.station n).state = .enrolled → (s.station n).kind ≠ some .terminal →
          exec (.forward (.fits v)) s = .next (s.replied h rest .bad .none))
        ∧ ((s.station n).state = .enrolled → (s.station n).kind = some .terminal → (s.station n).forward ≠ none →
          exec (.forward (.fits v)) s = .next (s.replied h rest .busy .none))
        ∧ ((s.station n).state = .enrolled → (s.station n).kind = some .terminal → (s.station n).forward = none →
          exec (.forward (.fits v)) s = .next
            ((s.setStation n { s.station n with forward := some v.text }).replied h rest .ok .none)))
    ∧ ∀ (s : State) (h : Request) (rest : List Request) (v : StationLoad), s.HasHead 28 h rest →
      ((v.station = 0 ∨ 24 < v.station ∨ ∃ k, v.threshold = some k ∧ 255 < k) →
        exec (.readStation (.fits v)) s = .next (s.replied h rest .bad .none))
      ∧ ∀ n : StationId, v.station = n.val + 1 → (∀ k, v.threshold = some k → k ≤ 255) →
        let threshold := match v.threshold with
          | none => (s.slot n).threshold
          | some 0 => 1
          | some (k + 1) => k + 1
        let t := (s.setSlot n { s.slot n with near := 0, far := 0, threshold := threshold }).setStation n
          { s.station n with wasLost := false, wasDegraded := false }
        (s.barrier n = none → exec (.readStation (.fits v)) s = .next
          (t.replied h rest .ok (.station (s.stationStatus n))))
        ∧ ∀ b, s.barrier n = some b → exec (.readStation (.fits v)) s = .next
          ((t.setBarrier n (some { b with obstructions := 0 })).replied h rest .ok (.station (s.stationStatus n)))

/-! ## Tickets and visits -/

/-- SET_TICKET_BASE: a base outside 1–99,999,999 is BAD and changes nothing; any other makes the counter VALID with that base,
in any state, and the reply carries the counter before and the new next number (R124). -/
def Obligations.SetTicketBase : Prop :=
  ∀ (s : State) (h : Request) (rest : List Request) (base : Nat), s.HasHead 19 h rest →
    (1 ≤ base → base ≤ 99999999 → exec (.setTicketBase (.fits base)) s = .next
      (State.replied { s with counter := .valid base } h rest .ok (.ticketBase s.counter base)))
    ∧ ((base = 0 ∨ 99999999 < base) → exec (.setTicketBase (.fits base)) s = .next (s.replied h rest .bad .none))

/-- A stamp takes the next number of a VALID counter, builds the job from the visit as it stands, places it by the first line of
R127 that applies, writes number and outcome into the visit and posts TICKET ISSUED (R123, R126, R127). The commits that ask for
it: which commit a capture makes (R76, R77), the anomalies it has earned and their reports (R96), the net (R88), the inbound
commit by the tare policy (R89, R90), the outbound commit against an OPEN and a TICKETED visit with the request for the
stored-tare update (R91 to R93), and CLOSING or CLOSED by the print outcome. That a commit posts its ANOMALY reports before the
stamp is the model's choice (log entry 50). The order in which several anomalies of one commit are posted is that of the list of
anomalies earned (log entry 57, DESIGN CHOICE). -/
def Obligations.TicketStamped : Prop :=
  (∀ (s : State) (l : LaneId) (w : Weight) (pass : Bool),
    let c := s.lane l
    let commit : Commit := { lane := l, weight := w, anomalies := earnedAnomalies c w pass }
    (∀ v k x, c.passage = some .inbound → c.vehicle = some v → c.reservation = some k → s.visit k = some x →
      x.state = .reserved → x.entryLane = l →
      s.commitCapture l w pass = (s.setLane l { c with reservation := none }).commitInbound k commit v.account v.category)
    ∧ (∀ v k, c.passage = some .inbound → c.vehicle = some v → c.reservation = some k → s.RoomForReport →
      (∀ x, s.visit k = some x → x.state ≠ .reserved ∨ x.entryLane ≠ l) →
      s.commitCapture l w pass = (s.setLane l { c with reservation := none }).reported (.visitGone l (some v.ident)))
    ∧ (∀ k x, c.passage = some .outbound → c.target = some k → s.visit k = some x →
      (x.state = .open_ → s.commitCapture l w pass = s.commitOutboundOpen k commit)
      ∧ (x.state = .ticketed → s.commitCapture l w pass = s.commitOutboundTicketed k commit pass))
    ∧ (c.passage = some .outbound → c.target = none → s.commitCapture l w pass = s)
    ∧ ∀ a, a ∈ earnedAnomalies c w pass ↔ (match a with
      | .overload => c.passage = some .inbound ∧ ∃ v m, c.vehicle = some v ∧ v.maxGross = some m ∧ (m : Int) < w.kg
      | .negativeNet => c.negativeReleased = true
      | .tareCheckFail => pass = false
      | .degraded => w.degraded = true
      | .forced => False))
  ∧ (∀ (s : State) (k : Nat) (v : Visit) (xs : List Anomaly) (lane : Option LaneId), s.visit k = some v →
    let fresh := xs.filter fun a => decide (a ∉ v.anomalies)
    s.reports.length + fresh.length ≤ 32 →
    s.addAnomalies k xs lane = { s with
      visits := s.visits.map fun x => if x.key = k then { x with anomalies := x.anomalies ++ fresh } else x
      reports := s.reports ++ fresh.map fun a =>
        { body := .visitAnomaly a v.ident v.ticketNo ((s.visits.map Visit.key).idxOf k + 1) lane, stamp := s.now } })
  ∧ (∀ v : Visit,
    (∀ g t, v.gross = some g → v.tare = some t → v.withNet = { v with net := some (g.kg - t.kg) })
    ∧ (v.gross = none ∨ v.tare = none → v.withNet = v)
    ∧ (∀ kg, (Tare.stored kg).kg = kg) ∧ ∀ w, (Tare.weighed w).kg = w.kg)
  ∧ (∀ (s : State) (k : Nat) (v : Visit), s.visit k = some v →
    let position := (s.visits.map Visit.key).idxOf k + 1
    let written (f : Visit → Visit) : State := { s with visits := s.visits.map fun x => if x.key = k then f x else x }
    (s.RoomForReport → s.postOpened k = s.reported (.visitOpened
      { ticketNo := v.ticketNo, position := position, ident := v.ident, account := v.account, category := v.category,
        entryLane := v.entryLane, gross := v.gross, anomalies := v.anomalies, tare := v.tare, net := v.net,
        outcome := v.outcome }))
    ∧ (v.outcome = some .pending → s.finishVisit k = written fun x => { x with state := .closing })
    ∧ (v.outcome ≠ some .pending → s.RoomForReport → s.finishVisit k =
      (written fun x => { x with state := .closed, closeTime := s.now }).reported
        (.visitClosed position { v with state := .closed, closeTime := s.now }))
    ∧ ∀ c : Commit,
      (∀ account category, v.tarePolicy = .weighEach → s.commitInbound k c account category =
        ((written fun x => { x with account := account, category := category, gross := some c.weight, state := .open_ }).addAnomalies
          k c.anomalies (some c.lane)).postOpened k)
      ∧ (∀ account category, v.tarePolicy ≠ .weighEach → s.commitInbound k c account category =
        ((((written fun x => Visit.withNet
            { x with account := account, category := category, gross := some c.weight,
                     tare := x.storedTare.map Tare.stored }).addAnomalies
          k c.anomalies (some c.lane)).stampTicket k v.entryLane).updateVisit k
            fun x => { x with state := .ticketed }).postOpened k)
      ∧ s.commitOutboundOpen k c =
        (((written fun x => Visit.withNet { x with tare := some (.weighed c.weight), exitLane := some c.lane }).addAnomalies
          k c.anomalies (some c.lane)).stampTicket k c.lane).finishVisit k
      ∧ ∀ pass,
        let t := ((written fun x =>
          { x with exitWeight := some c.weight, exitLane := some c.lane, tareCheck := some pass }).addAnomalies
            k c.anomalies (some c.lane)).finishVisit k
        s.commitOutboundTicketed k c pass = if pass = true ∧ v.tarePolicy = .storedAuto then
          { t with tareUpdates := t.tareUpdates ++ [{ ident := v.ident, kg := c.weight.kg, stamp := c.weight.stamp }] }
          else t)
  ∧ ∀ (s : State) (k n : Nat) (l : LaneId) (v : Visit) (r : LaneRecord) (gross : Weight) (tare : Tare) (net : Int),
    s.counter = .valid n → s.visit k = some v → s.laneRecord l = some r → v.gross = some gross → v.tare = some tare →
    v.net = some net → s.RoomForReport →
    let after : TicketCounter := if n < 99999999 then .valid (n + 1) else .exhausted
    let job : TicketJob :=
      { number := n, lane := l, terminal := r.terminal, ident := v.ident, account := v.account,
        categoryCode := v.category.bind fun c => (s.category c).code, gross := gross.kg, grossStamp := gross.stamp,
        tare := tare, net := net, anomalies := v.anomalies,
        degraded := gross.degraded || (match tare with
          | .stored _ => false
          | .weighed w => w.degraded),
        issueTime := if s.clock.set then some s.clock.seconds else none, visit := v.key }
    let written (o : PrintOutcome) (t : State) (jobs : Nat) : State :=
      ({ t with counter := after
                visits := s.visits.map fun x => if x.key = k then { x with ticketNo := some n, outcome := some o } else x } : State).reported
        (.ticketIssued n l r.terminal v.ident o jobs after)
    ((s.station r.terminal).state ≠ .enrolled →
      s.stampTicket k l = written (.notPrinted .terminalLost) s (s.queue l).jobs.length)
    ∧ ((s.station r.terminal).state = .enrolled → 8 ≤ (s.queue l).jobs.length →
      s.stampTicket k l = written (.notPrinted .queueFull) s (s.queue l).jobs.length)
    ∧ ((s.station r.terminal).state = .enrolled → (s.queue l).jobs = [] →
      s.stampTicket k l = written .pending (s.setQueue l { jobs := [job], phase := .waiting }) 1)
    ∧ ((s.station r.terminal).state = .enrolled → (s.queue l).jobs ≠ [] → (s.queue l).jobs.length < 8 →
      s.stampTicket k l = written .pending
        (s.setQueue l { s.queue l with jobs := (s.queue l).jobs ++ [job] }) ((s.queue l).jobs.length + 1))

/-- PRINT_OUTCOME matched to the head job in AWAIT-OUTCOME, or posted as a NOTE (R131 to R133); OUTCOME_WAIT_EXPIRY after 20 s
(R134); and what a job that leaves its queue does to the queue, the reports and its visit (R94, R95, R130). And what the ticket
queue makes of a code of its lane's terminal: READY or LOW returns a HELD head job to WAITING, any other code and any other phase
change nothing (R132). That the outcome is written by the job's link to its visit is log entry 35 (DEDUCED), and that the phase
of an empty queue stands at WAITING is log entry 38 (DESIGN CHOICE). -/
def Obligations.PrintOutcomes : Prop :=
  (∀ (s : State) (n : StationId) (c : Code),
    (s.laneOfTerminal n = none → s.ticketCode n c = s)
    ∧ ∀ l, s.laneOfTerminal n = some l →
      (c.toNat ≤ 3 → (s.queue l).phase = .held → s.ticketCode n c = s.setQueue l { s.queue l with phase := .waiting })
      ∧ (3 < c.toNat ∨ (s.queue l).phase ≠ .held → s.ticketCode n c = s))
  ∧ (∀ (s : State) (before after : List Visit) (v : Visit), s.visits = before ++ v :: after → (∀ x ∈ before, x.key ≠ v.key) →
    s.visit v.key = some v ∧ s.visitPosition v.key = before.length + 1)
  ∧ (∀ (s : State) (n : StationId) (m : UpMessage) (rest : List UpMessage) (number : Nat), s.HasMessage n m rest →
      m.kind = .printOutcome → 1 ≤ number → number ≤ 99999999 →
      let t := s.messagesLeft n rest
      let tells (o : PrintReport) : Instr := .printOutcome n (.fits { number := number, outcome := o })
      (∀ l j jobs f, s.laneOfTerminal n = some l → (s.queue l).jobs = j :: jobs → (s.queue l).phase = .awaitOutcome f →
        j.number = number →
        exec (tells .printed) s = .next (t.jobLeaves l .printed)
          ∧ exec (tells .jam) s = .next (t.jobLeaves l (.notPrinted .jam))
          ∧ exec (tells .fault) s = .next (t.jobLeaves l (.notPrinted .fault))
          ∧ (s.RoomForReport → exec (tells .paperOut) s = .next
            ((t.setQueue l { s.queue l with phase := .held }).reported
              (.ticketHeld j.number j.lane j.terminal (jobs.length + 1)))))
      ∧ (s.RoomForReport →
        (s.laneOfTerminal n = none
          ∨ ∃ l, s.laneOfTerminal n = some l ∧ ((s.queue l).jobs = []
            ∨ (s.queue l).phase = .waiting ∨ (s.queue l).phase = .sending ∨ (s.queue l).phase = .held
            ∨ ∃ j jobs, (s.queue l).jobs = j :: jobs ∧ j.number ≠ number)) →
        ∀ o, exec (tells o) s = .next (t.reported (.notePrint n { number := number, outcome := o }))))
    ∧ (∀ (s : State) (l : LaneId) (f : Nat), (s.queue l).jobs ≠ [] → (s.queue l).phase = .awaitOutcome f → 20000 ≤ f →
        exec (.outcomeWaitExpiry l) s = .next (s.jobLeaves l (.notPrinted .noOutcome)))
    ∧ ∀ (s : State) (l : LaneId) (j : TicketJob) (jobs : List TicketJob) (o : PrintOutcome) (v : Visit),
      (s.queue l).jobs = j :: jobs → o ≠ .pending → s.visit j.visit = some v → s.reports.length < 31 →
      let t := (s.setQueue l { jobs := jobs, phase := .waiting }).reported
        (.ticketOutcome j.number j.lane j.terminal o jobs.length)
      (v.state ≠ .closing → s.jobLeaves l o = t.updateVisit j.visit fun x => { x with outcome := some o })
      ∧ (v.state = .closing → s.jobLeaves l o =
        (t.updateVisit j.visit fun x => { x with outcome := some o, state := .closed, closeTime := s.now }).reported
          (.visitClosed (s.visitPosition j.visit) { v with outcome := some o, state := .closed, closeTime := s.now }))

/-- READ_VISIT with each selector and NEXT_CLOSED, with the position of the record and the number held (R98, R99). -/
def Obligations.VisitReads : Prop :=
  ∀ (s : State) (h : Request) (rest : List Request), s.visits.Pairwise (fun a b => a.key ≠ b.key) →
    let held := s.visits.length
    (s.HasHead 20 h rest →
      ∀ (before after : List Visit) (v : Visit), s.visits = before ++ v :: after → before.length < 64 →
        exec (.readVisit (.fits (.position (before.length + 1)))) s = .next
          (s.replied h rest .ok (.visit v (before.length + 1) held))
        ∧ (∀ k, v.ticketNo = some k → 1 ≤ k → k ≤ 99999999 → (∀ x ∈ before, x.ticketNo ≠ some k) →
          exec (.readVisit (.fits (.ticket k))) s = .next (s.replied h rest .ok (.visit v (before.length + 1) held)))
        ∧ (validIdent v.ident = true → (∀ x ∈ after, x.ident ≠ v.ident) →
          exec (.readVisit (.fits (.ident v.ident))) s = .next
            (s.replied h rest .ok (.visit v (before.length + 1) held))))
    ∧ (s.HasHead 20 h rest →
      (∀ p, (p = 0 ∨ held < p) → exec (.readVisit (.fits (.position p))) s = .next (s.replied h rest .bad .none))
      ∧ (∀ k, (∀ x ∈ s.visits, x.ticketNo ≠ some k) →
        exec (.readVisit (.fits (.ticket k))) s = .next (s.replied h rest .bad .none))
      ∧ ∀ ident, (∀ x ∈ s.visits, x.ident ≠ ident) →
        exec (.readVisit (.fits (.ident ident))) s = .next (s.replied h rest .bad .none))
    ∧ (s.HasHead 21 h rest →
      (h.body.length ≠ 1 → exec .nextClosed s = .next (s.replied h rest .bad .none))
      ∧ (h.body.length = 1 →
        ((∀ x ∈ s.visits, x.state ≠ .closed) → exec .nextClosed s = .next (s.replied h rest .ok (.nextClosed none held)))
        ∧ ∀ (before after : List Visit) (v : Visit), s.visits = before ++ v :: after → v.state = .closed →
          (∀ x ∈ before, x.state ≠ .closed) →
          exec .nextClosed s = .next (s.replied h rest .ok (.nextClosed (some (v, before.length + 1)) held))))

/-- CLEAR_VISIT and FORCE_CLOSE with each of their replies: the record chosen by ticket number or by ident, the record removed,
and the record an OPEN or TICKETED visit becomes, with the ANOMALY FORCED report of a record that did not carry it and the
VISIT-CLOSED report of one that closes (R95, R96, R100, R101). -/
def Obligations.VisitClears : Prop :=
  (∀ x : VisitState, x.standing = true ↔ x = .reserved ∨ x = .open_ ∨ x = .ticketed)
  ∧ ∀ (s : State) (h : Request) (rest : List Request), s.visits.Pairwise (fun a b => a.key ≠ b.key) →
    (s.HasHead 22 h rest →
      (∀ p, exec (.clearVisit (.fits (.position p))) s = .next (s.replied h rest .bad .none))
      ∧ (∀ k, (∀ x ∈ s.visits, x.ticketNo ≠ some k) →
        exec (.clearVisit (.fits (.ticket k))) s = .next (s.replied h rest .bad .none))
      ∧ (∀ ident, (∀ x ∈ s.visits, x.ident ≠ ident) →
        exec (.clearVisit (.fits (.ident ident))) s = .next (s.replied h rest .bad .none))
      ∧ ∀ (before after : List Visit) (v : Visit), s.visits = before ++ v :: after →
        let cleared : State := State.replied { s with visits := before ++ after } h rest .ok
          (.removedVisit v (before.length + after.length))
        (∀ k, v.ticketNo = some k → 1 ≤ k → k ≤ 99999999 → (∀ x ∈ before, x.ticketNo ≠ some k) →
          (v.state = .closed → exec (.clearVisit (.fits (.ticket k))) s = .next cleared)
          ∧ (v.state ≠ .closed → exec (.clearVisit (.fits (.ticket k))) s = .next (s.replied h rest .busy .none)))
        ∧ (validIdent v.ident = true →
          (v.state = .closed → (∀ x ∈ before, x.ident = v.ident → x.state ≠ .closed) →
            exec (.clearVisit (.fits (.ident v.ident))) s = .next cleared)
          ∧ ((∀ x ∈ s.visits, x.ident = v.ident → x.state ≠ .closed) →
            exec (.clearVisit (.fits (.ident v.ident))) s = .next (s.replied h rest .busy .none))))
    ∧ (s.HasHead 23 h rest →
      (∀ p, exec (.forceClose (.fits (.position p))) s = .next (s.replied h rest .bad .none))
      ∧ (∀ ident, (∀ x ∈ s.visits, x.ident ≠ ident) →
        exec (.forceClose (.fits (.ident ident))) s = .next (s.replied h rest .bad .none))
      ∧ (∀ k, (∀ x ∈ s.visits, x.ticketNo ≠ some k) →
        exec (.forceClose (.fits (.ticket k))) s = .next (s.replied h rest .bad .none))
      ∧ (∀ ident, validIdent ident = true → (∃ x ∈ s.visits, x.ident = ident) →
        (∀ x ∈ s.visits, x.ident = ident → x.state = .closing ∨ x.state = .closed) →
        exec (.forceClose (.fits (.ident ident))) s = .next (s.replied h rest .busy .none))
      ∧ ∀ (before after : List Visit) (v : Visit) (sel : Selector), s.visits = before ++ v :: after →
        ((∃ k, sel = .ticket k ∧ v.ticketNo = some k ∧ 1 ≤ k ∧ k ≤ 99999999 ∧ ∀ x ∈ before, x.ticketNo ≠ some k)
          ∨ (sel = .ident v.ident ∧ validIdent v.ident = true ∧ v.state.standing = true
            ∧ ∀ x ∈ before, x.ident = v.ident → x.state.standing = false)) →
        (v.state = .reserved ∨ v.state = .closing ∨ v.state = .closed →
          exec (.forceClose (.fits sel)) s = .next (s.replied h rest .busy .none))
        ∧ (v.state = .open_ ∨ v.state = .ticketed →
          let anomalies := if .forced ∈ v.anomalies then v.anomalies else v.anomalies ++ [.forced]
          let w : Visit :=
            if v.state = .open_ then
              { v with anomalies := anomalies, outcome := some (.notPrinted .none), state := .closed, closeTime := s.now }
            else if v.outcome = some .pending then { v with anomalies := anomalies, state := .closing }
            else { v with anomalies := anomalies, state := .closed, closeTime := s.now }
          ∃ t : State, exec (.forceClose (.fits sel)) s = .next (t.replied h rest .ok (.forcedVisit w))
            ∧ t = { s with visits := before ++ w :: after, reports := t.reports, dropped := t.dropped,
                           overrun := t.overrun }
            ∧ (s.reports.length < 31 →
              let anomaly : List Report := if .forced ∈ v.anomalies then [] else
                [{ body := .visitAnomaly .forced v.ident v.ticketNo (before.length + 1) none, stamp := s.now }]
              let close : List Report := if w.state = .closed then
                [{ body := .visitClosed (before.length + 1) w, stamp := s.now }] else []
              t.reports = s.reports ++ anomaly ++ close ∧ t.dropped = s.dropped ∧ t.overrun = s.overrun)))

/-! ## The office line -/

/-- The bytes of a whole REQUEST or FORWARD frame, sent to a receiver that hunts, arrive as one request of the buffer, as an
entry of the refusal list when the buffer is full, or as nothing when both are; a frame of another kind or with a wrong check
is dropped and leaves the state as it was (R180, R181). Bytes of noise before a start byte are ignored, a length below 2 or above
1,026 discards the frame after the length, a frame that comes in parts is received as one that comes whole, its part held by the
receiver, and the check is computed bit by bit as R159 gives (R180). -/
def Obligations.OfficeFrameArrives : Prop :=
  (∀ (s : State) (first rest : List Byte), ∃ u : State,
    exec (.officeFrame first) s = .next u ∧ exec (.officeFrame (first ++ rest)) s = exec (.officeFrame rest) u)
  ∧ (∀ s : State, s.receiver = none →
    (∀ noise rest : List Byte, (∀ b ∈ noise, b ≠ 0xC3) →
      exec (.officeFrame (noise ++ rest)) s = exec (.officeFrame rest) s)
    ∧ ∀ (hi lo : Byte) (rest : List Byte), (hi.toNat * 256 + lo.toNat < 2 ∨ 1026 < hi.toNat * 256 + lo.toNat) →
      exec (.officeFrame (0xC3 :: hi :: lo :: rest)) s = exec (.officeFrame rest) s)
  ∧ officeCheck [] = 0xFFFF
  ∧ (∀ (bytes : List Byte) (b : Byte), officeCheck (bytes ++ [b]) = [7, 6, 5, 4, 3, 2, 1, 0].foldl
    (fun (check : BitVec 16) (i : Nat) =>
      if check.getLsbD 15 = b.getLsbD i then check <<< 1 else (check <<< 1) ^^^ 0b0001000000100001#16) (officeCheck bytes))
  ∧ ∀ (s : State) (kind : RequestKind) (tag : Byte) (body : List Byte), s.receiver = none → body.length ≤ 1024 →
    let bytes := officeFrameBytes kind.byte tag body
    let name : RequestName := match kind with
      | .forward => .forward
      | .request => .number (body.head?.getD 0)
    (s.buffer.length < 4 → exec (.officeFrame bytes) s = .next
      { s with buffer := s.buffer ++ [{ kind := kind, tag := tag, body := body, reply := none }] })
    ∧ (4 ≤ s.buffer.length → s.refusals.length < 4 → exec (.officeFrame bytes) s = .next
      { s with refusals := s.refusals ++ [{ tag := tag, name := name }] })
    ∧ (4 ≤ s.buffer.length → 4 ≤ s.refusals.length → exec (.officeFrame bytes) s = .next s)
    ∧ (∀ other : Byte, other ≠ 0x51 → other ≠ 0x54 → exec (.officeFrame (officeFrameBytes other tag body)) s = .next s)
    ∧ (∀ k, 1 ≤ k → k < bytes.length →
      exec (.officeFrame (bytes.take k)) s = .next { s with receiver := some ((bytes.take k).drop 1) })
    ∧ ∀ a b : Byte, (bytes.drop (body.length + 5)) ≠ [a, b] →
      exec (.officeFrame (bytes.take (body.length + 5) ++ [a, b])) s = .next s

/-- OFFICE_BYTE_GAP discards the frame being received (R180); UNKNOWN_REQUEST answers a REQUEST of no number (R182);
TRANSMIT_START takes the first frame waiting by the order of R184, a report with the overrun note and the dropped count
(R185), and puts its bytes on the line: kind REPLY with the tag and the name of the request, BUSY with no data for a refusal,
or kind REPORT with tag 0 (R159, R184); on a busy line it changes nothing (log entry 4, DESIGN CHOICE); OFFICE_FRAME_SENT frees
the line and what was sent leaves (R181, R184, R185); a report finds room or is counted as dropped (R185). The bytes of codes,
data and reports are free values (log entry 42). -/
def Obligations.OfficeLine : Prop :=
  (∀ s : State, exec .officeByteGap s = .next { s with receiver := none })
    ∧ (∀ (s : State) (h : Request) (rest : List Request), s.buffer = h :: rest → h.kind = .request → h.reply = none →
        s.resetsDue = .clear → (h.body = [] ∨ ∃ b, h.body.head? = some b ∧ (b.toNat = 0 ∨ 31 < b.toNat)) →
        exec .unknownRequest s = .next (s.replied h rest .unknown .none))
    ∧ (∀ (kind tag : Byte) (body : List Byte), body.length ≤ 1024 →
        ∃ hi lo c1 c2 : Byte, officeFrameBytes kind tag body = 0xC3 :: hi :: lo :: kind :: tag :: (body ++ [c1, c2])
          ∧ hi.toNat * 256 + lo.toNat = body.length + 2
          ∧ (c1 ++ c2 : BitVec 16) = officeCheck (hi :: lo :: kind :: tag :: body))
    ∧ (∀ s : State, s.line = none →
        let replied (tag : Byte) (name : RequestName) (code : ReplyCode) (data : ReplyData) : List Byte :=
          officeFrameBytes 0x52 tag ((Config.replyCodeBytes code
            ++ (match name with
              | .number k => [k]
              | .forward => Config.forwardNameBytes)
            ++ (match data with
              | .none => []
              | d => Config.replyDataBytes d)).take 1024)
        (∀ x refusals, s.refusals = x :: refusals →
          exec .transmitStart s = .next { s with line := some (.refusal x.tag x.name)
                                                 sentOffice := replied x.tag x.name .busy .none })
        ∧ (∀ h rest y, s.refusals = [] → s.buffer = h :: rest → h.reply = some y →
          exec .transmitStart s = .next { s with line := some (.reply h.tag (requestName h.kind h.body) y)
                                                 sentOffice := replied h.tag (requestName h.kind h.body) y.code y.data })
        ∧ (∀ r reports, s.refusals = [] → (s.buffer = [] ∨ ∃ h rest, s.buffer = h :: rest ∧ h.reply = none) →
          s.reports = r :: reports →
          exec .transmitStart s = .next
            { s with line := some (.report r s.overrun s.dropped), overrun := false, dropped := 0
                     sentOffice := officeFrameBytes 0x53 0 ((Config.reportBody r s.overrun s.dropped).take 1024) }))
    ∧ (∀ (s : State) (f : OutFrame), s.line = some f → exec .transmitStart s = .next s)
    ∧ (∀ s : State,
        (∀ tag name, s.line = some (.refusal tag name) →
          exec .officeFrameSent s = .next { s with line := none, refusals := s.refusals.tail })
        ∧ (∀ tag name y, s.line = some (.reply tag name y) →
          exec .officeFrameSent s = .next { s with line := none, buffer := s.buffer.tail })
        ∧ ∀ r note count, s.line = some (.report r note count) →
          exec .officeFrameSent s = .next { s with line := none, reports := s.reports.tail })
    ∧ ∀ (s : State) (b : ReportBody),
      (s.reports.length < 32 → s.post b = s.reported b)
      ∧ (32 ≤ s.reports.length → s.post b = { s with dropped := min 255 (s.dropped + 1), overrun := true })

/-- A body whose fields do not fit its request is answered BAD by its owner and changes nothing else: every REQUEST with its
number, and FORWARD (R182, R183). That a command says by its operand that the body does not fit, where its fields have no byte
layout, is log entry 5 (DESIGN CHOICE). -/
def Obligations.MisfitBodiesRefused : Prop :=
  ∀ (s : State) (h : Request) (rest : List Request),
    let bad : Host.Outcome State Fault Refusal := .next (s.replied h rest .bad .none)
    (s.HasHead 1 h rest → exec (.loadVehicle .misfit) s = bad)
    ∧ (s.HasHead 2 h rest → exec (.dropVehicle .misfit) s = bad)
    ∧ (s.HasHead 3 h rest → exec (.readVehicle .misfit) s = bad)
    ∧ (s.HasHead 4 h rest → exec (.loadCategory .misfit) s = bad)
    ∧ (s.HasHead 5 h rest → exec (.loadLane .misfit) s = bad)
    ∧ (s.HasHead 6 h rest → exec (.enableLane .misfit) s = bad)
    ∧ (s.HasHead 7 h rest → exec (.disableLane .misfit) s = bad)
    ∧ (s.HasHead 8 h rest → exec (.resumeLane .misfit) s = bad)
    ∧ (s.HasHead 9 h rest → exec (.admitLane .misfit) s = bad)
    ∧ (s.HasHead 10 h rest → exec (.refuseLane .misfit) s = bad)
    ∧ (s.HasHead 11 h rest → exec (.releaseLane .misfit) s = bad)
    ∧ (s.HasHead 12 h rest → exec (.retryLane .misfit) s = bad)
    ∧ (s.HasHead 13 h rest → exec (.loadDeck .misfit) s = bad)
    ∧ (s.HasHead 14 h rest → exec (.zeroDeck .misfit) s = bad)
    ∧ (s.HasHead 15 h rest → exec (.restDeck .misfit) s = bad)
    ∧ (s.HasHead 16 h rest → exec (.wakeDeck .misfit) s = bad)
    ∧ (s.HasHead 17 h rest → exec (.streamDeck .misfit) s = bad)
    ∧ (s.HasHead 18 h rest → exec (.readDeck .misfit) s = bad)
    ∧ (s.HasHead 19 h rest → exec (.setTicketBase .misfit) s = bad)
    ∧ (s.HasHead 20 h rest → exec (.readVisit .misfit) s = bad)
    ∧ (s.HasHead 21 h rest → h.body.length ≠ 1 → exec .nextClosed s = bad)
    ∧ (s.HasHead 22 h rest → exec (.clearVisit .misfit) s = bad)
    ∧ (s.HasHead 23 h rest → exec (.forceClose .misfit) s = bad)
    ∧ (s.HasHead 24 h rest → exec (.barrierOrder .misfit) s = bad)
    ∧ (s.HasHead 25 h rest → exec (.setBarrierMode .misfit) s = bad)
    ∧ (s.HasHead 26 h rest → exec (.releaseStaged .misfit) s = bad)
    ∧ (s.HasHead 27 h rest → exec (.groupOrder .misfit) s = bad)
    ∧ (s.HasHead 28 h rest → exec (.readStation .misfit) s = bad)
    ∧ (s.HasHead 29 h rest → exec (.setClock .misfit) s = bad)
    ∧ (s.HasHead 30 h rest → h.body.length ≠ 1 → exec .yardReset s = bad)
    ∧ (s.HasHead 31 h rest → h.body.length ≠ 1 → exec .identify s = bad)
    ∧ (s.HasForward h rest → exec (.forward .misfit) s = bad)

/-- IDENTIFY (R188) and the Office Line Port's own part of YARD_RESET: the waiting reports removed but for one being sent, the
overrun note and the dropped count cleared, the counts in the reply, and the reset handed to every block that acts on it (R189);
the requests behind it are not handled before every block has taken it, which is how the model has them find the state it leaves
(log entry 54, DEDUCED). That the report queue is cleared in this step, before any block takes its reset, so that the blocks' own
reports stand, where R189 leaves either order open, is log entry 51 (DESIGN CHOICE, unsafe). -/
def Obligations.IdentifyAndYardReset : Prop :=
  (∀ (s : State) (h : Request) (rest : List Request), h.body.length = 1 →
    (s.HasHead 31 h rest → exec .identify s = .next (s.replied h rest .ok
      (.identity "WILBERGAN".toList "ISPOMAR".toList "YL-4220".toList 1 s.rate
        (if s.clock.set then some s.clock.seconds else none))))
    ∧ (s.HasHead 30 h rest →
      let due : ResetsDue :=
        { decks := Vector.replicate 4 true, lanes := true, visits := true, barriers := true, tickets := true }
      (∀ r note count, s.line = some (.report r note count) → exec .yardReset s = .next
        (State.replied { s with reports := s.reports.take 1, overrun := false, dropped := 0, resetsDue := due } h rest .ok
          (.yardReset (s.reports.length - 1) s.dropped)))
      ∧ ((∀ r note count, s.line ≠ some (.report r note count)) → exec .yardReset s = .next
        (State.replied { s with reports := [], overrun := false, dropped := 0, resetsDue := due } h rest .ok
          (.yardReset s.reports.length s.dropped)))))
  ∧ ∀ s : State, (s.resetsDue.lanes = true ∨ s.resetsDue.visits = true ∨ s.resetsDue.barriers = true
      ∨ s.resetsDue.tickets = true ∨ ∃ d : DeckId, s.resetsDue.decks[d] = true) →
    (∀ number handle, s.serve number handle = s) ∧ (∀ v, exec (.forward v) s = .next s) ∧ exec .unknownRequest s = .next s
      ∧ exec .identify s = .next s ∧ exec .yardReset s = .next s

/-- The five blocks take a yard reset handed to them: a deck clears its window and starts its counts again (R23, R41), the Visit
Table drops RESERVED records (R102), the Barrier Controller its staged orders (R122), the Ticket Stamper flushes the four queues
head to tail with NOT-PRINTED(RESET), its TICKET reports and the closing of visits (R130, R137), in lane order by the model's
choice (log entry 27), and every lane that is not CLOSED enters RECOVER with its claim withdrawn, its hold kept, its reservation
freed, its timer stopped and its fields cleared, where a lane with a station that is not ENROLLED or a barrier in FAULT or MANUAL
stays (R59, R63, R83, R122). That a lane already in RECOVER reports RECOVER again is the model's choice (log entry 49), and so it
is that the RECOVER reports stand in lane order, all before the first lane's recovery tests and their reports (log entry 56);
that they carry no ident is read from R59 and R60 (log entry 22, DEDUCED). That the reports of the blocks stand is log entry 51
(DESIGN CHOICE), that an outcome is written by the job's link log entry 35 (DEDUCED), and that the phase of an emptied queue
stands at WAITING log entry 38 (DESIGN CHOICE). -/
def Obligations.BlocksTakeYardReset : Prop :=
  ∀ s : State,
    (∀ d : DeckId, s.resetsDue.decks[d] = true →
      let e := s.deck d
      let cleared : DeckEngine := { e with
        ring := [], stable := 0, pendingGap := 0, gapLatch := false, overload := false, last := none,
        judged := if s.excited d then .invalid else .filling, value := none, trackingCount := 0, captureCount := 0,
        streamCount := 0, restIdle := if e.state = .active then some 0 else none }
      exec (.deckYardReset d) s = .next
        (((({ s with resetsDue := { s.resetsDue with decks := s.resetsDue.decks.set d false } } : State).setDeck d
          cleared).replaceReading d).deckTold d))
    ∧ (s.resetsDue.visits = true → exec .visitYardReset s = .next
      { s with resetsDue := { s.resetsDue with visits := false },
               visits := s.visits.filter fun v => decide (v.state ≠ .reserved) })
    ∧ (s.resetsDue.barriers = true → exec .barrierYardReset s = .next
      { s with resetsDue := { s.resetsDue with barriers := false },
               barriers := s.barriers.map (Option.map fun b => { b with staged := none }) })
    ∧ (∀ (l : LaneId) (why : NotPrinted),
      ((s.queue l).jobs = [] → s.flushQueue l why = s)
      ∧ ∀ j jobs, (s.queue l).jobs = j :: jobs →
        s.flushQueue l why = (j :: jobs).foldl (fun t _ => t.jobLeaves l (.notPrinted why)) (s.withdrawTicket j.terminal l))
    ∧ (s.resetsDue.tickets = true → ∃ t : State, exec .ticketYardReset s = .next t
      ∧ t = (((({ s with resetsDue := { s.resetsDue with tickets := false } } : State).flushQueue 0 .reset).flushQueue 1
          .reset).flushQueue 2 .reset).flushQueue 3 .reset
      ∧ (∀ l, (t.queue l).jobs = [] ∧ (t.queue l).phase = (if (s.queue l).jobs = [] then (s.queue l).phase else .waiting))
      ∧ (∀ l j jobs, (s.queue l).jobs = j :: jobs → ∀ p, (t.station j.terminal).send.message = some p →
          p.msg.source ≠ .ticket l)
      ∧ (∀ l j v, j ∈ (s.queue l).jobs → s.visit j.visit = some v → ∃ w, t.visit j.visit = some w
          ∧ w.outcome = some (.notPrinted .reset) ∧ w.state = (if v.state = .closing then .closed else v.state)
          ∧ (v.state = .closing → w.closeTime = s.now))
      ∧ (s.reports.length + 2 * ((s.queue 0).jobs.length + (s.queue 1).jobs.length + (s.queue 2).jobs.length
            + (s.queue 3).jobs.length) ≤ 32 →
          (∀ l before j after, (s.queue l).jobs = before ++ j :: after →
            { body := .ticketOutcome j.number j.lane j.terminal (.notPrinted .reset) after.length, stamp := s.now } ∈ t.reports)
          ∧ ∀ l j v, j ∈ (s.queue l).jobs → s.visit j.visit = some v → v.state = .closing →
            { body := .visitClosed (s.visitPosition j.visit)
                { v with outcome := some (.notPrinted .reset), state := .closed, closeTime := s.now },
              stamp := s.now } ∈ t.reports)
      ∧ t = { s with resetsDue := { s.resetsDue with tickets := false }, queues := t.queues, stations := t.stations,
                     visits := t.visits, reports := t.reports, dropped := t.dropped, overrun := t.overrun })
    ∧ (s.resetsDue.lanes = true → ∃ t : State, exec .laneYardReset s = .next t
      ∧ t.resetsDue = { s.resetsDue with lanes := false } ∧ t.counter = s.counter ∧ t.queues = s.queues
      ∧ (s.HoldLaw →
        (∀ d, (t.arbiter d).claims = [])
        ∧ (s.reports.length + 4 ≤ 32 → ∃ more, t.reports = s.reports
            ++ (allLanes.filter fun l => decide ((s.lane l).state ≠ .closed) && (s.laneRecord l).isSome).map
              (fun l => { body := .lane l .recover (.event .yardReset) none none, stamp := s.now }) ++ more)
        ∧ ∀ l, ((s.lane l).state = .closed → t.lane l = s.lane l)
          ∧ ∀ r, s.laneRecord l = some r → (s.lane l).state ≠ .closed →
            (∀ k v, (s.lane l).reservation = some k → s.visit k = some v → v.state = .reserved → v.entryLane = l →
              t.visit k = none)
            ∧ (s.stationsEnrolled r = false ∨ s.barrierStopped r.entryBarrier = true ∨ s.barrierStopped r.exitBarrier = true →
              t.lane l = { s.lane l with
                  state := .recover, reason := none, vehicle := none, passage := none, reservation := none, target := none,
                  noVisit := false, pendingCategory := none, captured := none, negativeReleased := false, timer := none,
                  claim := if (s.lane l).claim = .waiting then .none else (s.lane l).claim, causes := [] }
                ∧ ((s.arbiter r.deck).holder = some l → (t.arbiter r.deck).holder = some l))))

/-! ## Laws that every step keeps -/

/-- The interlock law of R108 is kept by every step: under an arm loop taken OCCUPIED no barrier is commanded LOWER. -/
def Obligations.InterlockKept : Prop :=
  ∀ s t : State, s.InterlockLaw → step s = .next t → t.InterlockLaw

/-- The zero law of R24 is kept by every step: T within 2 % of capacity of Zc, and Zc within 10 % of capacity of Z0. -/
def Obligations.ZeroLawKept : Prop :=
  ∀ s t : State, s.ZeroLaw → step s = .next t → t.ZeroLaw

/-- The law of R86 is kept by every step: at most one visit record of an ident is RESERVED, OPEN or TICKETED. That the keys, the
model's own names of the records (log entry 8), are different and below the next is kept with it. -/
def Obligations.VisitLawKept : Prop :=
  ∀ s t : State, s.VisitLaw → step s = .next t → t.VisitLaw

/-- Every step keeps the bounds of the counters, buffers and tables: the loop's numbers (R138, R151, R187), the error and
obstruction counts (R152), the office buffers (R181, R185), the vehicle and visit tables and the ticket queues (R43, R85, R128).
The frame count of the clock is left out, because the model lets it stand above 999 (log entry 29). -/
def Obligations.BoundsKept : Prop :=
  ∀ s t : State, s.FrameLaw → s.CounterLaw → s.OfficeLaw → s.TableLaw → step s = .next t →
    t.FrameLaw ∧ t.CounterLaw ∧ t.OfficeLaw ∧ t.TableLaw

/-- The law of the deck hold is kept by every step: one holder and one claim for each lane and deck, in the lane states that
go with them (R72). -/
def Obligations.HoldLawKept : Prop :=
  ∀ s t : State, s.HoldLaw → step s = .next t → t.HoldLaw
end

