-- ==== Sys2Proof/Laws/State.lean ====
section
/-! SUPPORT. What each update of the state leaves and what it writes: one lemma per field for each setter, the reads after a write, and the fields a posted report and a given reply leave alone. -/

namespace Sys2Proof.Machine


/-! ## setSlot -/

@[simp] theorem State.setSlot_stations (s : State) (n : StationId) (x : LoopSlot) : (s.setSlot n x).stations = s.stations := rfl
@[simp] theorem State.setSlot_barriers (s : State) (n : StationId) (x : LoopSlot) : (s.setSlot n x).barriers = s.barriers := rfl
@[simp] theorem State.setSlot_decks (s : State) (n : StationId) (x : LoopSlot) : (s.setSlot n x).decks = s.decks := rfl
@[simp] theorem State.setSlot_arbiters (s : State) (n : StationId) (x : LoopSlot) : (s.setSlot n x).arbiters = s.arbiters := rfl
@[simp] theorem State.setSlot_laneTable (s : State) (n : StationId) (x : LoopSlot) : (s.setSlot n x).laneTable = s.laneTable := rfl
@[simp] theorem State.setSlot_lanes (s : State) (n : StationId) (x : LoopSlot) : (s.setSlot n x).lanes = s.lanes := rfl
@[simp] theorem State.setSlot_vehicles (s : State) (n : StationId) (x : LoopSlot) : (s.setSlot n x).vehicles = s.vehicles := rfl
@[simp] theorem State.setSlot_categories (s : State) (n : StationId) (x : LoopSlot) : (s.setSlot n x).categories = s.categories := rfl
@[simp] theorem State.setSlot_visits (s : State) (n : StationId) (x : LoopSlot) : (s.setSlot n x).visits = s.visits := rfl
@[simp] theorem State.setSlot_nextVisitKey (s : State) (n : StationId) (x : LoopSlot) : (s.setSlot n x).nextVisitKey = s.nextVisitKey := rfl
@[simp] theorem State.setSlot_tareUpdates (s : State) (n : StationId) (x : LoopSlot) : (s.setSlot n x).tareUpdates = s.tareUpdates := rfl
@[simp] theorem State.setSlot_counter (s : State) (n : StationId) (x : LoopSlot) : (s.setSlot n x).counter = s.counter := rfl
@[simp] theorem State.setSlot_queues (s : State) (n : StationId) (x : LoopSlot) : (s.setSlot n x).queues = s.queues := rfl
@[simp] theorem State.setSlot_nextFrame (s : State) (n : StationId) (x : LoopSlot) : (s.setSlot n x).nextFrame = s.nextFrame := rfl
@[simp] theorem State.setSlot_frameInHand (s : State) (n : StationId) (x : LoopSlot) : (s.setSlot n x).frameInHand = s.frameInHand := rfl
@[simp] theorem State.setSlot_superframeDue (s : State) (n : StationId) (x : LoopSlot) : (s.setSlot n x).superframeDue = s.superframeDue := rfl
@[simp] theorem State.setSlot_periodCount (s : State) (n : StationId) (x : LoopSlot) : (s.setSlot n x).periodCount = s.periodCount := rfl
@[simp] theorem State.setSlot_periodDue (s : State) (n : StationId) (x : LoopSlot) : (s.setSlot n x).periodDue = s.periodDue := rfl
@[simp] theorem State.setSlot_sentFrame (s : State) (n : StationId) (x : LoopSlot) : (s.setSlot n x).sentFrame = s.sentFrame := rfl
@[simp] theorem State.setSlot_rate (s : State) (n : StationId) (x : LoopSlot) : (s.setSlot n x).rate = s.rate := rfl
@[simp] theorem State.setSlot_receiver (s : State) (n : StationId) (x : LoopSlot) : (s.setSlot n x).receiver = s.receiver := rfl
@[simp] theorem State.setSlot_buffer (s : State) (n : StationId) (x : LoopSlot) : (s.setSlot n x).buffer = s.buffer := rfl
@[simp] theorem State.setSlot_refusals (s : State) (n : StationId) (x : LoopSlot) : (s.setSlot n x).refusals = s.refusals := rfl
@[simp] theorem State.setSlot_reports (s : State) (n : StationId) (x : LoopSlot) : (s.setSlot n x).reports = s.reports := rfl
@[simp] theorem State.setSlot_overrun (s : State) (n : StationId) (x : LoopSlot) : (s.setSlot n x).overrun = s.overrun := rfl
@[simp] theorem State.setSlot_dropped (s : State) (n : StationId) (x : LoopSlot) : (s.setSlot n x).dropped = s.dropped := rfl
@[simp] theorem State.setSlot_line (s : State) (n : StationId) (x : LoopSlot) : (s.setSlot n x).line = s.line := rfl
@[simp] theorem State.setSlot_sentOffice (s : State) (n : StationId) (x : LoopSlot) : (s.setSlot n x).sentOffice = s.sentOffice := rfl
@[simp] theorem State.setSlot_clock (s : State) (n : StationId) (x : LoopSlot) : (s.setSlot n x).clock = s.clock := rfl
@[simp] theorem State.setSlot_resetsDue (s : State) (n : StationId) (x : LoopSlot) : (s.setSlot n x).resetsDue = s.resetsDue := rfl
@[simp] theorem State.setSlot_pending (s : State) (n : StationId) (x : LoopSlot) : (s.setSlot n x).pending = s.pending := rfl
@[simp] theorem State.setSlot_slots (s : State) (n : StationId) (x : LoopSlot) : (s.setSlot n x).slots = s.slots.set n x := rfl
@[simp] theorem State.setSlot_station (s : State) (n : StationId) (x : LoopSlot) (m : StationId) : (s.setSlot n x).station m = s.station m := rfl
@[simp] theorem State.setSlot_barrier (s : State) (n : StationId) (x : LoopSlot) (m : StationId) : (s.setSlot n x).barrier m = s.barrier m := rfl
@[simp] theorem State.setSlot_deck (s : State) (n : StationId) (x : LoopSlot) (m : DeckId) : (s.setSlot n x).deck m = s.deck m := rfl
@[simp] theorem State.setSlot_arbiter (s : State) (n : StationId) (x : LoopSlot) (m : DeckId) : (s.setSlot n x).arbiter m = s.arbiter m := rfl
@[simp] theorem State.setSlot_laneRecord (s : State) (n : StationId) (x : LoopSlot) (m : LaneId) : (s.setSlot n x).laneRecord m = s.laneRecord m := rfl
@[simp] theorem State.setSlot_lane (s : State) (n : StationId) (x : LoopSlot) (m : LaneId) : (s.setSlot n x).lane m = s.lane m := rfl
@[simp] theorem State.setSlot_category (s : State) (n : StationId) (x : LoopSlot) (m : CategoryNo) : (s.setSlot n x).category m = s.category m := rfl
@[simp] theorem State.setSlot_queue (s : State) (n : StationId) (x : LoopSlot) (m : LaneId) : (s.setSlot n x).queue m = s.queue m := rfl
theorem State.slot_setSlot (s : State) (n m : StationId) (x : LoopSlot) : (s.setSlot n x).slot m = if n = m then x else s.slot m := by
  simp only [State.slot, State.setSlot, Fin.getElem_fin, Vector.getElem_set, Fin.ext_iff]
@[simp] theorem State.slot_setSlot_self (s : State) (n : StationId) (x : LoopSlot) : (s.setSlot n x).slot n = x := by
  simp [State.slot_setSlot]
@[simp] theorem State.setSlot_setSlot (s : State) (n : StationId) (x y : LoopSlot) : (s.setSlot n x).setSlot n y = s.setSlot n y := by
  simp [State.setSlot]
@[simp] theorem State.setSlot_slot (s : State) (n : StationId) : s.setSlot n (s.slot n) = s := by
  cases s; simp [State.setSlot, State.slot]

/-! ## setStation -/

@[simp] theorem State.setStation_slots (s : State) (n : StationId) (x : Station) : (s.setStation n x).slots = s.slots := rfl
@[simp] theorem State.setStation_barriers (s : State) (n : StationId) (x : Station) : (s.setStation n x).barriers = s.barriers := rfl
@[simp] theorem State.setStation_decks (s : State) (n : StationId) (x : Station) : (s.setStation n x).decks = s.decks := rfl
@[simp] theorem State.setStation_arbiters (s : State) (n : StationId) (x : Station) : (s.setStation n x).arbiters = s.arbiters := rfl
@[simp] theorem State.setStation_laneTable (s : State) (n : StationId) (x : Station) : (s.setStation n x).laneTable = s.laneTable := rfl
@[simp] theorem State.setStation_lanes (s : State) (n : StationId) (x : Station) : (s.setStation n x).lanes = s.lanes := rfl
@[simp] theorem State.setStation_vehicles (s : State) (n : StationId) (x : Station) : (s.setStation n x).vehicles = s.vehicles := rfl
@[simp] theorem State.setStation_categories (s : State) (n : StationId) (x : Station) : (s.setStation n x).categories = s.categories := rfl
@[simp] theorem State.setStation_visits (s : State) (n : StationId) (x : Station) : (s.setStation n x).visits = s.visits := rfl
@[simp] theorem State.setStation_nextVisitKey (s : State) (n : StationId) (x : Station) : (s.setStation n x).nextVisitKey = s.nextVisitKey := rfl
@[simp] theorem State.setStation_tareUpdates (s : State) (n : StationId) (x : Station) : (s.setStation n x).tareUpdates = s.tareUpdates := rfl
@[simp] theorem State.setStation_counter (s : State) (n : StationId) (x : Station) : (s.setStation n x).counter = s.counter := rfl
@[simp] theorem State.setStation_queues (s : State) (n : StationId) (x : Station) : (s.setStation n x).queues = s.queues := rfl
@[simp] theorem State.setStation_nextFrame (s : State) (n : StationId) (x : Station) : (s.setStation n x).nextFrame = s.nextFrame := rfl
@[simp] theorem State.setStation_frameInHand (s : State) (n : StationId) (x : Station) : (s.setStation n x).frameInHand = s.frameInHand := rfl
@[simp] theorem State.setStation_superframeDue (s : State) (n : StationId) (x : Station) : (s.setStation n x).superframeDue = s.superframeDue := rfl
@[simp] theorem State.setStation_periodCount (s : State) (n : StationId) (x : Station) : (s.setStation n x).periodCount = s.periodCount := rfl
@[simp] theorem State.setStation_periodDue (s : State) (n : StationId) (x : Station) : (s.setStation n x).periodDue = s.periodDue := rfl
@[simp] theorem State.setStation_sentFrame (s : State) (n : StationId) (x : Station) : (s.setStation n x).sentFrame = s.sentFrame := rfl
@[simp] theorem State.setStation_rate (s : State) (n : StationId) (x : Station) : (s.setStation n x).rate = s.rate := rfl
@[simp] theorem State.setStation_receiver (s : State) (n : StationId) (x : Station) : (s.setStation n x).receiver = s.receiver := rfl
@[simp] theorem State.setStation_buffer (s : State) (n : StationId) (x : Station) : (s.setStation n x).buffer = s.buffer := rfl
@[simp] theorem State.setStation_refusals (s : State) (n : StationId) (x : Station) : (s.setStation n x).refusals = s.refusals := rfl
@[simp] theorem State.setStation_reports (s : State) (n : StationId) (x : Station) : (s.setStation n x).reports = s.reports := rfl
@[simp] theorem State.setStation_overrun (s : State) (n : StationId) (x : Station) : (s.setStation n x).overrun = s.overrun := rfl
@[simp] theorem State.setStation_dropped (s : State) (n : StationId) (x : Station) : (s.setStation n x).dropped = s.dropped := rfl
@[simp] theorem State.setStation_line (s : State) (n : StationId) (x : Station) : (s.setStation n x).line = s.line := rfl
@[simp] theorem State.setStation_sentOffice (s : State) (n : StationId) (x : Station) : (s.setStation n x).sentOffice = s.sentOffice := rfl
@[simp] theorem State.setStation_clock (s : State) (n : StationId) (x : Station) : (s.setStation n x).clock = s.clock := rfl
@[simp] theorem State.setStation_resetsDue (s : State) (n : StationId) (x : Station) : (s.setStation n x).resetsDue = s.resetsDue := rfl
@[simp] theorem State.setStation_pending (s : State) (n : StationId) (x : Station) : (s.setStation n x).pending = s.pending := rfl
@[simp] theorem State.setStation_stations (s : State) (n : StationId) (x : Station) : (s.setStation n x).stations = s.stations.set n x := rfl
@[simp] theorem State.setStation_slot (s : State) (n : StationId) (x : Station) (m : StationId) : (s.setStation n x).slot m = s.slot m := rfl
@[simp] theorem State.setStation_barrier (s : State) (n : StationId) (x : Station) (m : StationId) : (s.setStation n x).barrier m = s.barrier m := rfl
@[simp] theorem State.setStation_deck (s : State) (n : StationId) (x : Station) (m : DeckId) : (s.setStation n x).deck m = s.deck m := rfl
@[simp] theorem State.setStation_arbiter (s : State) (n : StationId) (x : Station) (m : DeckId) : (s.setStation n x).arbiter m = s.arbiter m := rfl
@[simp] theorem State.setStation_laneRecord (s : State) (n : StationId) (x : Station) (m : LaneId) : (s.setStation n x).laneRecord m = s.laneRecord m := rfl
@[simp] theorem State.setStation_lane (s : State) (n : StationId) (x : Station) (m : LaneId) : (s.setStation n x).lane m = s.lane m := rfl
@[simp] theorem State.setStation_category (s : State) (n : StationId) (x : Station) (m : CategoryNo) : (s.setStation n x).category m = s.category m := rfl
@[simp] theorem State.setStation_queue (s : State) (n : StationId) (x : Station) (m : LaneId) : (s.setStation n x).queue m = s.queue m := rfl
theorem State.station_setStation (s : State) (n m : StationId) (x : Station) : (s.setStation n x).station m = if n = m then x else s.station m := by
  simp only [State.station, State.setStation, Fin.getElem_fin, Vector.getElem_set, Fin.ext_iff]
@[simp] theorem State.station_setStation_self (s : State) (n : StationId) (x : Station) : (s.setStation n x).station n = x := by
  simp [State.station_setStation]
@[simp] theorem State.setStation_setStation (s : State) (n : StationId) (x y : Station) : (s.setStation n x).setStation n y = s.setStation n y := by
  simp [State.setStation]
@[simp] theorem State.setStation_station (s : State) (n : StationId) : s.setStation n (s.station n) = s := by
  cases s; simp [State.setStation, State.station]

/-! ## setBarrier -/

@[simp] theorem State.setBarrier_slots (s : State) (n : StationId) (x : Option BarrierRecord) : (s.setBarrier n x).slots = s.slots := rfl
@[simp] theorem State.setBarrier_stations (s : State) (n : StationId) (x : Option BarrierRecord) : (s.setBarrier n x).stations = s.stations := rfl
@[simp] theorem State.setBarrier_decks (s : State) (n : StationId) (x : Option BarrierRecord) : (s.setBarrier n x).decks = s.decks := rfl
@[simp] theorem State.setBarrier_arbiters (s : State) (n : StationId) (x : Option BarrierRecord) : (s.setBarrier n x).arbiters = s.arbiters := rfl
@[simp] theorem State.setBarrier_laneTable (s : State) (n : StationId) (x : Option BarrierRecord) : (s.setBarrier n x).laneTable = s.laneTable := rfl
@[simp] theorem State.setBarrier_lanes (s : State) (n : StationId) (x : Option BarrierRecord) : (s.setBarrier n x).lanes = s.lanes := rfl
@[simp] theorem State.setBarrier_vehicles (s : State) (n : StationId) (x : Option BarrierRecord) : (s.setBarrier n x).vehicles = s.vehicles := rfl
@[simp] theorem State.setBarrier_categories (s : State) (n : StationId) (x : Option BarrierRecord) : (s.setBarrier n x).categories = s.categories := rfl
@[simp] theorem State.setBarrier_visits (s : State) (n : StationId) (x : Option BarrierRecord) : (s.setBarrier n x).visits = s.visits := rfl
@[simp] theorem State.setBarrier_nextVisitKey (s : State) (n : StationId) (x : Option BarrierRecord) : (s.setBarrier n x).nextVisitKey = s.nextVisitKey := rfl
@[simp] theorem State.setBarrier_tareUpdates (s : State) (n : StationId) (x : Option BarrierRecord) : (s.setBarrier n x).tareUpdates = s.tareUpdates := rfl
@[simp] theorem State.setBarrier_counter (s : State) (n : StationId) (x : Option BarrierRecord) : (s.setBarrier n x).counter = s.counter := rfl
@[simp] theorem State.setBarrier_queues (s : State) (n : StationId) (x : Option BarrierRecord) : (s.setBarrier n x).queues = s.queues := rfl
@[simp] theorem State.setBarrier_nextFrame (s : State) (n : StationId) (x : Option BarrierRecord) : (s.setBarrier n x).nextFrame = s.nextFrame := rfl
@[simp] theorem State.setBarrier_frameInHand (s : State) (n : StationId) (x : Option BarrierRecord) : (s.setBarrier n x).frameInHand = s.frameInHand := rfl
@[simp] theorem State.setBarrier_superframeDue (s : State) (n : StationId) (x : Option BarrierRecord) : (s.setBarrier n x).superframeDue = s.superframeDue := rfl
@[simp] theorem State.setBarrier_periodCount (s : State) (n : StationId) (x : Option BarrierRecord) : (s.setBarrier n x).periodCount = s.periodCount := rfl
@[simp] theorem State.setBarrier_periodDue (s : State) (n : StationId) (x : Option BarrierRecord) : (s.setBarrier n x).periodDue = s.periodDue := rfl
@[simp] theorem State.setBarrier_sentFrame (s : State) (n : StationId) (x : Option BarrierRecord) : (s.setBarrier n x).sentFrame = s.sentFrame := rfl
@[simp] theorem State.setBarrier_rate (s : State) (n : StationId) (x : Option BarrierRecord) : (s.setBarrier n x).rate = s.rate := rfl
@[simp] theorem State.setBarrier_receiver (s : State) (n : StationId) (x : Option BarrierRecord) : (s.setBarrier n x).receiver = s.receiver := rfl
@[simp] theorem State.setBarrier_buffer (s : State) (n : StationId) (x : Option BarrierRecord) : (s.setBarrier n x).buffer = s.buffer := rfl
@[simp] theorem State.setBarrier_refusals (s : State) (n : StationId) (x : Option BarrierRecord) : (s.setBarrier n x).refusals = s.refusals := rfl
@[simp] theorem State.setBarrier_reports (s : State) (n : StationId) (x : Option BarrierRecord) : (s.setBarrier n x).reports = s.reports := rfl
@[simp] theorem State.setBarrier_overrun (s : State) (n : StationId) (x : Option BarrierRecord) : (s.setBarrier n x).overrun = s.overrun := rfl
@[simp] theorem State.setBarrier_dropped (s : State) (n : StationId) (x : Option BarrierRecord) : (s.setBarrier n x).dropped = s.dropped := rfl
@[simp] theorem State.setBarrier_line (s : State) (n : StationId) (x : Option BarrierRecord) : (s.setBarrier n x).line = s.line := rfl
@[simp] theorem State.setBarrier_sentOffice (s : State) (n : StationId) (x : Option BarrierRecord) : (s.setBarrier n x).sentOffice = s.sentOffice := rfl
@[simp] theorem State.setBarrier_clock (s : State) (n : StationId) (x : Option BarrierRecord) : (s.setBarrier n x).clock = s.clock := rfl
@[simp] theorem State.setBarrier_resetsDue (s : State) (n : StationId) (x : Option BarrierRecord) : (s.setBarrier n x).resetsDue = s.resetsDue := rfl
@[simp] theorem State.setBarrier_pending (s : State) (n : StationId) (x : Option BarrierRecord) : (s.setBarrier n x).pending = s.pending := rfl
@[simp] theorem State.setBarrier_barriers (s : State) (n : StationId) (x : Option BarrierRecord) : (s.setBarrier n x).barriers = s.barriers.set n x := rfl
@[simp] theorem State.setBarrier_slot (s : State) (n : StationId) (x : Option BarrierRecord) (m : StationId) : (s.setBarrier n x).slot m = s.slot m := rfl
@[simp] theorem State.setBarrier_station (s : State) (n : StationId) (x : Option BarrierRecord) (m : StationId) : (s.setBarrier n x).station m = s.station m := rfl
@[simp] theorem State.setBarrier_deck (s : State) (n : StationId) (x : Option BarrierRecord) (m : DeckId) : (s.setBarrier n x).deck m = s.deck m := rfl
@[simp] theorem State.setBarrier_arbiter (s : State) (n : StationId) (x : Option BarrierRecord) (m : DeckId) : (s.setBarrier n x).arbiter m = s.arbiter m := rfl
@[simp] theorem State.setBarrier_laneRecord (s : State) (n : StationId) (x : Option BarrierRecord) (m : LaneId) : (s.setBarrier n x).laneRecord m = s.laneRecord m := rfl
@[simp] theorem State.setBarrier_lane (s : State) (n : StationId) (x : Option BarrierRecord) (m : LaneId) : (s.setBarrier n x).lane m = s.lane m := rfl
@[simp] theorem State.setBarrier_category (s : State) (n : StationId) (x : Option BarrierRecord) (m : CategoryNo) : (s.setBarrier n x).category m = s.category m := rfl
@[simp] theorem State.setBarrier_queue (s : State) (n : StationId) (x : Option BarrierRecord) (m : LaneId) : (s.setBarrier n x).queue m = s.queue m := rfl
theorem State.barrier_setBarrier (s : State) (n m : StationId) (x : Option BarrierRecord) : (s.setBarrier n x).barrier m = if n = m then x else s.barrier m := by
  simp only [State.barrier, State.setBarrier, Fin.getElem_fin, Vector.getElem_set, Fin.ext_iff]
@[simp] theorem State.barrier_setBarrier_self (s : State) (n : StationId) (x : Option BarrierRecord) : (s.setBarrier n x).barrier n = x := by
  simp [State.barrier_setBarrier]
@[simp] theorem State.setBarrier_setBarrier (s : State) (n : StationId) (x y : Option BarrierRecord) : (s.setBarrier n x).setBarrier n y = s.setBarrier n y := by
  simp [State.setBarrier]
@[simp] theorem State.setBarrier_barrier (s : State) (n : StationId) : s.setBarrier n (s.barrier n) = s := by
  cases s; simp [State.setBarrier, State.barrier]

/-! ## setDeck -/

@[simp] theorem State.setDeck_slots (s : State) (n : DeckId) (x : DeckEngine) : (s.setDeck n x).slots = s.slots := rfl
@[simp] theorem State.setDeck_stations (s : State) (n : DeckId) (x : DeckEngine) : (s.setDeck n x).stations = s.stations := rfl
@[simp] theorem State.setDeck_barriers (s : State) (n : DeckId) (x : DeckEngine) : (s.setDeck n x).barriers = s.barriers := rfl
@[simp] theorem State.setDeck_arbiters (s : State) (n : DeckId) (x : DeckEngine) : (s.setDeck n x).arbiters = s.arbiters := rfl
@[simp] theorem State.setDeck_laneTable (s : State) (n : DeckId) (x : DeckEngine) : (s.setDeck n x).laneTable = s.laneTable := rfl
@[simp] theorem State.setDeck_lanes (s : State) (n : DeckId) (x : DeckEngine) : (s.setDeck n x).lanes = s.lanes := rfl
@[simp] theorem State.setDeck_vehicles (s : State) (n : DeckId) (x : DeckEngine) : (s.setDeck n x).vehicles = s.vehicles := rfl
@[simp] theorem State.setDeck_categories (s : State) (n : DeckId) (x : DeckEngine) : (s.setDeck n x).categories = s.categories := rfl
@[simp] theorem State.setDeck_visits (s : State) (n : DeckId) (x : DeckEngine) : (s.setDeck n x).visits = s.visits := rfl
@[simp] theorem State.setDeck_nextVisitKey (s : State) (n : DeckId) (x : DeckEngine) : (s.setDeck n x).nextVisitKey = s.nextVisitKey := rfl
@[simp] theorem State.setDeck_tareUpdates (s : State) (n : DeckId) (x : DeckEngine) : (s.setDeck n x).tareUpdates = s.tareUpdates := rfl
@[simp] theorem State.setDeck_counter (s : State) (n : DeckId) (x : DeckEngine) : (s.setDeck n x).counter = s.counter := rfl
@[simp] theorem State.setDeck_queues (s : State) (n : DeckId) (x : DeckEngine) : (s.setDeck n x).queues = s.queues := rfl
@[simp] theorem State.setDeck_nextFrame (s : State) (n : DeckId) (x : DeckEngine) : (s.setDeck n x).nextFrame = s.nextFrame := rfl
@[simp] theorem State.setDeck_frameInHand (s : State) (n : DeckId) (x : DeckEngine) : (s.setDeck n x).frameInHand = s.frameInHand := rfl
@[simp] theorem State.setDeck_superframeDue (s : State) (n : DeckId) (x : DeckEngine) : (s.setDeck n x).superframeDue = s.superframeDue := rfl
@[simp] theorem State.setDeck_periodCount (s : State) (n : DeckId) (x : DeckEngine) : (s.setDeck n x).periodCount = s.periodCount := rfl
@[simp] theorem State.setDeck_periodDue (s : State) (n : DeckId) (x : DeckEngine) : (s.setDeck n x).periodDue = s.periodDue := rfl
@[simp] theorem State.setDeck_sentFrame (s : State) (n : DeckId) (x : DeckEngine) : (s.setDeck n x).sentFrame = s.sentFrame := rfl
@[simp] theorem State.setDeck_rate (s : State) (n : DeckId) (x : DeckEngine) : (s.setDeck n x).rate = s.rate := rfl
@[simp] theorem State.setDeck_receiver (s : State) (n : DeckId) (x : DeckEngine) : (s.setDeck n x).receiver = s.receiver := rfl
@[simp] theorem State.setDeck_buffer (s : State) (n : DeckId) (x : DeckEngine) : (s.setDeck n x).buffer = s.buffer := rfl
@[simp] theorem State.setDeck_refusals (s : State) (n : DeckId) (x : DeckEngine) : (s.setDeck n x).refusals = s.refusals := rfl
@[simp] theorem State.setDeck_reports (s : State) (n : DeckId) (x : DeckEngine) : (s.setDeck n x).reports = s.reports := rfl
@[simp] theorem State.setDeck_overrun (s : State) (n : DeckId) (x : DeckEngine) : (s.setDeck n x).overrun = s.overrun := rfl
@[simp] theorem State.setDeck_dropped (s : State) (n : DeckId) (x : DeckEngine) : (s.setDeck n x).dropped = s.dropped := rfl
@[simp] theorem State.setDeck_line (s : State) (n : DeckId) (x : DeckEngine) : (s.setDeck n x).line = s.line := rfl
@[simp] theorem State.setDeck_sentOffice (s : State) (n : DeckId) (x : DeckEngine) : (s.setDeck n x).sentOffice = s.sentOffice := rfl
@[simp] theorem State.setDeck_clock (s : State) (n : DeckId) (x : DeckEngine) : (s.setDeck n x).clock = s.clock := rfl
@[simp] theorem State.setDeck_resetsDue (s : State) (n : DeckId) (x : DeckEngine) : (s.setDeck n x).resetsDue = s.resetsDue := rfl
@[simp] theorem State.setDeck_pending (s : State) (n : DeckId) (x : DeckEngine) : (s.setDeck n x).pending = s.pending := rfl
@[simp] theorem State.setDeck_decks (s : State) (n : DeckId) (x : DeckEngine) : (s.setDeck n x).decks = s.decks.set n x := rfl
@[simp] theorem State.setDeck_slot (s : State) (n : DeckId) (x : DeckEngine) (m : StationId) : (s.setDeck n x).slot m = s.slot m := rfl
@[simp] theorem State.setDeck_station (s : State) (n : DeckId) (x : DeckEngine) (m : StationId) : (s.setDeck n x).station m = s.station m := rfl
@[simp] theorem State.setDeck_barrier (s : State) (n : DeckId) (x : DeckEngine) (m : StationId) : (s.setDeck n x).barrier m = s.barrier m := rfl
@[simp] theorem State.setDeck_arbiter (s : State) (n : DeckId) (x : DeckEngine) (m : DeckId) : (s.setDeck n x).arbiter m = s.arbiter m := rfl
@[simp] theorem State.setDeck_laneRecord (s : State) (n : DeckId) (x : DeckEngine) (m : LaneId) : (s.setDeck n x).laneRecord m = s.laneRecord m := rfl
@[simp] theorem State.setDeck_lane (s : State) (n : DeckId) (x : DeckEngine) (m : LaneId) : (s.setDeck n x).lane m = s.lane m := rfl
@[simp] theorem State.setDeck_category (s : State) (n : DeckId) (x : DeckEngine) (m : CategoryNo) : (s.setDeck n x).category m = s.category m := rfl
@[simp] theorem State.setDeck_queue (s : State) (n : DeckId) (x : DeckEngine) (m : LaneId) : (s.setDeck n x).queue m = s.queue m := rfl
theorem State.deck_setDeck (s : State) (n m : DeckId) (x : DeckEngine) : (s.setDeck n x).deck m = if n = m then x else s.deck m := by
  simp only [State.deck, State.setDeck, Fin.getElem_fin, Vector.getElem_set, Fin.ext_iff]
@[simp] theorem State.deck_setDeck_self (s : State) (n : DeckId) (x : DeckEngine) : (s.setDeck n x).deck n = x := by
  simp [State.deck_setDeck]
@[simp] theorem State.setDeck_setDeck (s : State) (n : DeckId) (x y : DeckEngine) : (s.setDeck n x).setDeck n y = s.setDeck n y := by
  simp [State.setDeck]
@[simp] theorem State.setDeck_deck (s : State) (n : DeckId) : s.setDeck n (s.deck n) = s := by
  cases s; simp [State.setDeck, State.deck]

/-! ## setArbiter -/

@[simp] theorem State.setArbiter_slots (s : State) (n : DeckId) (x : Arbiter) : (s.setArbiter n x).slots = s.slots := rfl
@[simp] theorem State.setArbiter_stations (s : State) (n : DeckId) (x : Arbiter) : (s.setArbiter n x).stations = s.stations := rfl
@[simp] theorem State.setArbiter_barriers (s : State) (n : DeckId) (x : Arbiter) : (s.setArbiter n x).barriers = s.barriers := rfl
@[simp] theorem State.setArbiter_decks (s : State) (n : DeckId) (x : Arbiter) : (s.setArbiter n x).decks = s.decks := rfl
@[simp] theorem State.setArbiter_laneTable (s : State) (n : DeckId) (x : Arbiter) : (s.setArbiter n x).laneTable = s.laneTable := rfl
@[simp] theorem State.setArbiter_lanes (s : State) (n : DeckId) (x : Arbiter) : (s.setArbiter n x).lanes = s.lanes := rfl
@[simp] theorem State.setArbiter_vehicles (s : State) (n : DeckId) (x : Arbiter) : (s.setArbiter n x).vehicles = s.vehicles := rfl
@[simp] theorem State.setArbiter_categories (s : State) (n : DeckId) (x : Arbiter) : (s.setArbiter n x).categories = s.categories := rfl
@[simp] theorem State.setArbiter_visits (s : State) (n : DeckId) (x : Arbiter) : (s.setArbiter n x).visits = s.visits := rfl
@[simp] theorem State.setArbiter_nextVisitKey (s : State) (n : DeckId) (x : Arbiter) : (s.setArbiter n x).nextVisitKey = s.nextVisitKey := rfl
@[simp] theorem State.setArbiter_tareUpdates (s : State) (n : DeckId) (x : Arbiter) : (s.setArbiter n x).tareUpdates = s.tareUpdates := rfl
@[simp] theorem State.setArbiter_counter (s : State) (n : DeckId) (x : Arbiter) : (s.setArbiter n x).counter = s.counter := rfl
@[simp] theorem State.setArbiter_queues (s : State) (n : DeckId) (x : Arbiter) : (s.setArbiter n x).queues = s.queues := rfl
@[simp] theorem State.setArbiter_nextFrame (s : State) (n : DeckId) (x : Arbiter) : (s.setArbiter n x).nextFrame = s.nextFrame := rfl
@[simp] theorem State.setArbiter_frameInHand (s : State) (n : DeckId) (x : Arbiter) : (s.setArbiter n x).frameInHand = s.frameInHand := rfl
@[simp] theorem State.setArbiter_superframeDue (s : State) (n : DeckId) (x : Arbiter) : (s.setArbiter n x).superframeDue = s.superframeDue := rfl
@[simp] theorem State.setArbiter_periodCount (s : State) (n : DeckId) (x : Arbiter) : (s.setArbiter n x).periodCount = s.periodCount := rfl
@[simp] theorem State.setArbiter_periodDue (s : State) (n : DeckId) (x : Arbiter) : (s.setArbiter n x).periodDue = s.periodDue := rfl
@[simp] theorem State.setArbiter_sentFrame (s : State) (n : DeckId) (x : Arbiter) : (s.setArbiter n x).sentFrame = s.sentFrame := rfl
@[simp] theorem State.setArbiter_rate (s : State) (n : DeckId) (x : Arbiter) : (s.setArbiter n x).rate = s.rate := rfl
@[simp] theorem State.setArbiter_receiver (s : State) (n : DeckId) (x : Arbiter) : (s.setArbiter n x).receiver = s.receiver := rfl
@[simp] theorem State.setArbiter_buffer (s : State) (n : DeckId) (x : Arbiter) : (s.setArbiter n x).buffer = s.buffer := rfl
@[simp] theorem State.setArbiter_refusals (s : State) (n : DeckId) (x : Arbiter) : (s.setArbiter n x).refusals = s.refusals := rfl
@[simp] theorem State.setArbiter_reports (s : State) (n : DeckId) (x : Arbiter) : (s.setArbiter n x).reports = s.reports := rfl
@[simp] theorem State.setArbiter_overrun (s : State) (n : DeckId) (x : Arbiter) : (s.setArbiter n x).overrun = s.overrun := rfl
@[simp] theorem State.setArbiter_dropped (s : State) (n : DeckId) (x : Arbiter) : (s.setArbiter n x).dropped = s.dropped := rfl
@[simp] theorem State.setArbiter_line (s : State) (n : DeckId) (x : Arbiter) : (s.setArbiter n x).line = s.line := rfl
@[simp] theorem State.setArbiter_sentOffice (s : State) (n : DeckId) (x : Arbiter) : (s.setArbiter n x).sentOffice = s.sentOffice := rfl
@[simp] theorem State.setArbiter_clock (s : State) (n : DeckId) (x : Arbiter) : (s.setArbiter n x).clock = s.clock := rfl
@[simp] theorem State.setArbiter_resetsDue (s : State) (n : DeckId) (x : Arbiter) : (s.setArbiter n x).resetsDue = s.resetsDue := rfl
@[simp] theorem State.setArbiter_pending (s : State) (n : DeckId) (x : Arbiter) : (s.setArbiter n x).pending = s.pending := rfl
@[simp] theorem State.setArbiter_arbiters (s : State) (n : DeckId) (x : Arbiter) : (s.setArbiter n x).arbiters = s.arbiters.set n x := rfl
@[simp] theorem State.setArbiter_slot (s : State) (n : DeckId) (x : Arbiter) (m : StationId) : (s.setArbiter n x).slot m = s.slot m := rfl
@[simp] theorem State.setArbiter_station (s : State) (n : DeckId) (x : Arbiter) (m : StationId) : (s.setArbiter n x).station m = s.station m := rfl
@[simp] theorem State.setArbiter_barrier (s : State) (n : DeckId) (x : Arbiter) (m : StationId) : (s.setArbiter n x).barrier m = s.barrier m := rfl
@[simp] theorem State.setArbiter_deck (s : State) (n : DeckId) (x : Arbiter) (m : DeckId) : (s.setArbiter n x).deck m = s.deck m := rfl
@[simp] theorem State.setArbiter_laneRecord (s : State) (n : DeckId) (x : Arbiter) (m : LaneId) : (s.setArbiter n x).laneRecord m = s.laneRecord m := rfl
@[simp] theorem State.setArbiter_lane (s : State) (n : DeckId) (x : Arbiter) (m : LaneId) : (s.setArbiter n x).lane m = s.lane m := rfl
@[simp] theorem State.setArbiter_category (s : State) (n : DeckId) (x : Arbiter) (m : CategoryNo) : (s.setArbiter n x).category m = s.category m := rfl
@[simp] theorem State.setArbiter_queue (s : State) (n : DeckId) (x : Arbiter) (m : LaneId) : (s.setArbiter n x).queue m = s.queue m := rfl
theorem State.arbiter_setArbiter (s : State) (n m : DeckId) (x : Arbiter) : (s.setArbiter n x).arbiter m = if n = m then x else s.arbiter m := by
  simp only [State.arbiter, State.setArbiter, Fin.getElem_fin, Vector.getElem_set, Fin.ext_iff]
@[simp] theorem State.arbiter_setArbiter_self (s : State) (n : DeckId) (x : Arbiter) : (s.setArbiter n x).arbiter n = x := by
  simp [State.arbiter_setArbiter]
@[simp] theorem State.setArbiter_setArbiter (s : State) (n : DeckId) (x y : Arbiter) : (s.setArbiter n x).setArbiter n y = s.setArbiter n y := by
  simp [State.setArbiter]
@[simp] theorem State.setArbiter_arbiter (s : State) (n : DeckId) : s.setArbiter n (s.arbiter n) = s := by
  cases s; simp [State.setArbiter, State.arbiter]

/-! ## setLaneRecord -/

@[simp] theorem State.setLaneRecord_slots (s : State) (n : LaneId) (x : Option LaneRecord) : (s.setLaneRecord n x).slots = s.slots := rfl
@[simp] theorem State.setLaneRecord_stations (s : State) (n : LaneId) (x : Option LaneRecord) : (s.setLaneRecord n x).stations = s.stations := rfl
@[simp] theorem State.setLaneRecord_barriers (s : State) (n : LaneId) (x : Option LaneRecord) : (s.setLaneRecord n x).barriers = s.barriers := rfl
@[simp] theorem State.setLaneRecord_decks (s : State) (n : LaneId) (x : Option LaneRecord) : (s.setLaneRecord n x).decks = s.decks := rfl
@[simp] theorem State.setLaneRecord_arbiters (s : State) (n : LaneId) (x : Option LaneRecord) : (s.setLaneRecord n x).arbiters = s.arbiters := rfl
@[simp] theorem State.setLaneRecord_lanes (s : State) (n : LaneId) (x : Option LaneRecord) : (s.setLaneRecord n x).lanes = s.lanes := rfl
@[simp] theorem State.setLaneRecord_vehicles (s : State) (n : LaneId) (x : Option LaneRecord) : (s.setLaneRecord n x).vehicles = s.vehicles := rfl
@[simp] theorem State.setLaneRecord_categories (s : State) (n : LaneId) (x : Option LaneRecord) : (s.setLaneRecord n x).categories = s.categories := rfl
@[simp] theorem State.setLaneRecord_visits (s : State) (n : LaneId) (x : Option LaneRecord) : (s.setLaneRecord n x).visits = s.visits := rfl
@[simp] theorem State.setLaneRecord_nextVisitKey (s : State) (n : LaneId) (x : Option LaneRecord) : (s.setLaneRecord n x).nextVisitKey = s.nextVisitKey := rfl
@[simp] theorem State.setLaneRecord_tareUpdates (s : State) (n : LaneId) (x : Option LaneRecord) : (s.setLaneRecord n x).tareUpdates = s.tareUpdates := rfl
@[simp] theorem State.setLaneRecord_counter (s : State) (n : LaneId) (x : Option LaneRecord) : (s.setLaneRecord n x).counter = s.counter := rfl
@[simp] theorem State.setLaneRecord_queues (s : State) (n : LaneId) (x : Option LaneRecord) : (s.setLaneRecord n x).queues = s.queues := rfl
@[simp] theorem State.setLaneRecord_nextFrame (s : State) (n : LaneId) (x : Option LaneRecord) : (s.setLaneRecord n x).nextFrame = s.nextFrame := rfl
@[simp] theorem State.setLaneRecord_frameInHand (s : State) (n : LaneId) (x : Option LaneRecord) : (s.setLaneRecord n x).frameInHand = s.frameInHand := rfl
@[simp] theorem State.setLaneRecord_superframeDue (s : State) (n : LaneId) (x : Option LaneRecord) : (s.setLaneRecord n x).superframeDue = s.superframeDue := rfl
@[simp] theorem State.setLaneRecord_periodCount (s : State) (n : LaneId) (x : Option LaneRecord) : (s.setLaneRecord n x).periodCount = s.periodCount := rfl
@[simp] theorem State.setLaneRecord_periodDue (s : State) (n : LaneId) (x : Option LaneRecord) : (s.setLaneRecord n x).periodDue = s.periodDue := rfl
@[simp] theorem State.setLaneRecord_sentFrame (s : State) (n : LaneId) (x : Option LaneRecord) : (s.setLaneRecord n x).sentFrame = s.sentFrame := rfl
@[simp] theorem State.setLaneRecord_rate (s : State) (n : LaneId) (x : Option LaneRecord) : (s.setLaneRecord n x).rate = s.rate := rfl
@[simp] theorem State.setLaneRecord_receiver (s : State) (n : LaneId) (x : Option LaneRecord) : (s.setLaneRecord n x).receiver = s.receiver := rfl
@[simp] theorem State.setLaneRecord_buffer (s : State) (n : LaneId) (x : Option LaneRecord) : (s.setLaneRecord n x).buffer = s.buffer := rfl
@[simp] theorem State.setLaneRecord_refusals (s : State) (n : LaneId) (x : Option LaneRecord) : (s.setLaneRecord n x).refusals = s.refusals := rfl
@[simp] theorem State.setLaneRecord_reports (s : State) (n : LaneId) (x : Option LaneRecord) : (s.setLaneRecord n x).reports = s.reports := rfl
@[simp] theorem State.setLaneRecord_overrun (s : State) (n : LaneId) (x : Option LaneRecord) : (s.setLaneRecord n x).overrun = s.overrun := rfl
@[simp] theorem State.setLaneRecord_dropped (s : State) (n : LaneId) (x : Option LaneRecord) : (s.setLaneRecord n x).dropped = s.dropped := rfl
@[simp] theorem State.setLaneRecord_line (s : State) (n : LaneId) (x : Option LaneRecord) : (s.setLaneRecord n x).line = s.line := rfl
@[simp] theorem State.setLaneRecord_sentOffice (s : State) (n : LaneId) (x : Option LaneRecord) : (s.setLaneRecord n x).sentOffice = s.sentOffice := rfl
@[simp] theorem State.setLaneRecord_clock (s : State) (n : LaneId) (x : Option LaneRecord) : (s.setLaneRecord n x).clock = s.clock := rfl
@[simp] theorem State.setLaneRecord_resetsDue (s : State) (n : LaneId) (x : Option LaneRecord) : (s.setLaneRecord n x).resetsDue = s.resetsDue := rfl
@[simp] theorem State.setLaneRecord_pending (s : State) (n : LaneId) (x : Option LaneRecord) : (s.setLaneRecord n x).pending = s.pending := rfl
@[simp] theorem State.setLaneRecord_laneTable (s : State) (n : LaneId) (x : Option LaneRecord) : (s.setLaneRecord n x).laneTable = s.laneTable.set n x := rfl
@[simp] theorem State.setLaneRecord_slot (s : State) (n : LaneId) (x : Option LaneRecord) (m : StationId) : (s.setLaneRecord n x).slot m = s.slot m := rfl
@[simp] theorem State.setLaneRecord_station (s : State) (n : LaneId) (x : Option LaneRecord) (m : StationId) : (s.setLaneRecord n x).station m = s.station m := rfl
@[simp] theorem State.setLaneRecord_barrier (s : State) (n : LaneId) (x : Option LaneRecord) (m : StationId) : (s.setLaneRecord n x).barrier m = s.barrier m := rfl
@[simp] theorem State.setLaneRecord_deck (s : State) (n : LaneId) (x : Option LaneRecord) (m : DeckId) : (s.setLaneRecord n x).deck m = s.deck m := rfl
@[simp] theorem State.setLaneRecord_arbiter (s : State) (n : LaneId) (x : Option LaneRecord) (m : DeckId) : (s.setLaneRecord n x).arbiter m = s.arbiter m := rfl
@[simp] theorem State.setLaneRecord_lane (s : State) (n : LaneId) (x : Option LaneRecord) (m : LaneId) : (s.setLaneRecord n x).lane m = s.lane m := rfl
@[simp] theorem State.setLaneRecord_category (s : State) (n : LaneId) (x : Option LaneRecord) (m : CategoryNo) : (s.setLaneRecord n x).category m = s.category m := rfl
@[simp] theorem State.setLaneRecord_queue (s : State) (n : LaneId) (x : Option LaneRecord) (m : LaneId) : (s.setLaneRecord n x).queue m = s.queue m := rfl
theorem State.laneRecord_setLaneRecord (s : State) (n m : LaneId) (x : Option LaneRecord) : (s.setLaneRecord n x).laneRecord m = if n = m then x else s.laneRecord m := by
  simp only [State.laneRecord, State.setLaneRecord, Fin.getElem_fin, Vector.getElem_set, Fin.ext_iff]
@[simp] theorem State.laneRecord_setLaneRecord_self (s : State) (n : LaneId) (x : Option LaneRecord) : (s.setLaneRecord n x).laneRecord n = x := by
  simp [State.laneRecord_setLaneRecord]
@[simp] theorem State.setLaneRecord_setLaneRecord (s : State) (n : LaneId) (x y : Option LaneRecord) : (s.setLaneRecord n x).setLaneRecord n y = s.setLaneRecord n y := by
  simp [State.setLaneRecord]
@[simp] theorem State.setLaneRecord_laneRecord (s : State) (n : LaneId) : s.setLaneRecord n (s.laneRecord n) = s := by
  cases s; simp [State.setLaneRecord, State.laneRecord]

/-! ## setLane -/

@[simp] theorem State.setLane_slots (s : State) (n : LaneId) (x : LaneContext) : (s.setLane n x).slots = s.slots := rfl
@[simp] theorem State.setLane_stations (s : State) (n : LaneId) (x : LaneContext) : (s.setLane n x).stations = s.stations := rfl
@[simp] theorem State.setLane_barriers (s : State) (n : LaneId) (x : LaneContext) : (s.setLane n x).barriers = s.barriers := rfl
@[simp] theorem State.setLane_decks (s : State) (n : LaneId) (x : LaneContext) : (s.setLane n x).decks = s.decks := rfl
@[simp] theorem State.setLane_arbiters (s : State) (n : LaneId) (x : LaneContext) : (s.setLane n x).arbiters = s.arbiters := rfl
@[simp] theorem State.setLane_laneTable (s : State) (n : LaneId) (x : LaneContext) : (s.setLane n x).laneTable = s.laneTable := rfl
@[simp] theorem State.setLane_vehicles (s : State) (n : LaneId) (x : LaneContext) : (s.setLane n x).vehicles = s.vehicles := rfl
@[simp] theorem State.setLane_categories (s : State) (n : LaneId) (x : LaneContext) : (s.setLane n x).categories = s.categories := rfl
@[simp] theorem State.setLane_visits (s : State) (n : LaneId) (x : LaneContext) : (s.setLane n x).visits = s.visits := rfl
@[simp] theorem State.setLane_nextVisitKey (s : State) (n : LaneId) (x : LaneContext) : (s.setLane n x).nextVisitKey = s.nextVisitKey := rfl
@[simp] theorem State.setLane_tareUpdates (s : State) (n : LaneId) (x : LaneContext) : (s.setLane n x).tareUpdates = s.tareUpdates := rfl
@[simp] theorem State.setLane_counter (s : State) (n : LaneId) (x : LaneContext) : (s.setLane n x).counter = s.counter := rfl
@[simp] theorem State.setLane_queues (s : State) (n : LaneId) (x : LaneContext) : (s.setLane n x).queues = s.queues := rfl
@[simp] theorem State.setLane_nextFrame (s : State) (n : LaneId) (x : LaneContext) : (s.setLane n x).nextFrame = s.nextFrame := rfl
@[simp] theorem State.setLane_frameInHand (s : State) (n : LaneId) (x : LaneContext) : (s.setLane n x).frameInHand = s.frameInHand := rfl
@[simp] theorem State.setLane_superframeDue (s : State) (n : LaneId) (x : LaneContext) : (s.setLane n x).superframeDue = s.superframeDue := rfl
@[simp] theorem State.setLane_periodCount (s : State) (n : LaneId) (x : LaneContext) : (s.setLane n x).periodCount = s.periodCount := rfl
@[simp] theorem State.setLane_periodDue (s : State) (n : LaneId) (x : LaneContext) : (s.setLane n x).periodDue = s.periodDue := rfl
@[simp] theorem State.setLane_sentFrame (s : State) (n : LaneId) (x : LaneContext) : (s.setLane n x).sentFrame = s.sentFrame := rfl
@[simp] theorem State.setLane_rate (s : State) (n : LaneId) (x : LaneContext) : (s.setLane n x).rate = s.rate := rfl
@[simp] theorem State.setLane_receiver (s : State) (n : LaneId) (x : LaneContext) : (s.setLane n x).receiver = s.receiver := rfl
@[simp] theorem State.setLane_buffer (s : State) (n : LaneId) (x : LaneContext) : (s.setLane n x).buffer = s.buffer := rfl
@[simp] theorem State.setLane_refusals (s : State) (n : LaneId) (x : LaneContext) : (s.setLane n x).refusals = s.refusals := rfl
@[simp] theorem State.setLane_reports (s : State) (n : LaneId) (x : LaneContext) : (s.setLane n x).reports = s.reports := rfl
@[simp] theorem State.setLane_overrun (s : State) (n : LaneId) (x : LaneContext) : (s.setLane n x).overrun = s.overrun := rfl
@[simp] theorem State.setLane_dropped (s : State) (n : LaneId) (x : LaneContext) : (s.setLane n x).dropped = s.dropped := rfl
@[simp] theorem State.setLane_line (s : State) (n : LaneId) (x : LaneContext) : (s.setLane n x).line = s.line := rfl
@[simp] theorem State.setLane_sentOffice (s : State) (n : LaneId) (x : LaneContext) : (s.setLane n x).sentOffice = s.sentOffice := rfl
@[simp] theorem State.setLane_clock (s : State) (n : LaneId) (x : LaneContext) : (s.setLane n x).clock = s.clock := rfl
@[simp] theorem State.setLane_resetsDue (s : State) (n : LaneId) (x : LaneContext) : (s.setLane n x).resetsDue = s.resetsDue := rfl
@[simp] theorem State.setLane_pending (s : State) (n : LaneId) (x : LaneContext) : (s.setLane n x).pending = s.pending := rfl
@[simp] theorem State.setLane_lanes (s : State) (n : LaneId) (x : LaneContext) : (s.setLane n x).lanes = s.lanes.set n x := rfl
@[simp] theorem State.setLane_slot (s : State) (n : LaneId) (x : LaneContext) (m : StationId) : (s.setLane n x).slot m = s.slot m := rfl
@[simp] theorem State.setLane_station (s : State) (n : LaneId) (x : LaneContext) (m : StationId) : (s.setLane n x).station m = s.station m := rfl
@[simp] theorem State.setLane_barrier (s : State) (n : LaneId) (x : LaneContext) (m : StationId) : (s.setLane n x).barrier m = s.barrier m := rfl
@[simp] theorem State.setLane_deck (s : State) (n : LaneId) (x : LaneContext) (m : DeckId) : (s.setLane n x).deck m = s.deck m := rfl
@[simp] theorem State.setLane_arbiter (s : State) (n : LaneId) (x : LaneContext) (m : DeckId) : (s.setLane n x).arbiter m = s.arbiter m := rfl
@[simp] theorem State.setLane_laneRecord (s : State) (n : LaneId) (x : LaneContext) (m : LaneId) : (s.setLane n x).laneRecord m = s.laneRecord m := rfl
@[simp] theorem State.setLane_category (s : State) (n : LaneId) (x : LaneContext) (m : CategoryNo) : (s.setLane n x).category m = s.category m := rfl
@[simp] theorem State.setLane_queue (s : State) (n : LaneId) (x : LaneContext) (m : LaneId) : (s.setLane n x).queue m = s.queue m := rfl
theorem State.lane_setLane (s : State) (n m : LaneId) (x : LaneContext) : (s.setLane n x).lane m = if n = m then x else s.lane m := by
  simp only [State.lane, State.setLane, Fin.getElem_fin, Vector.getElem_set, Fin.ext_iff]
@[simp] theorem State.lane_setLane_self (s : State) (n : LaneId) (x : LaneContext) : (s.setLane n x).lane n = x := by
  simp [State.lane_setLane]
@[simp] theorem State.setLane_setLane (s : State) (n : LaneId) (x y : LaneContext) : (s.setLane n x).setLane n y = s.setLane n y := by
  simp [State.setLane]
@[simp] theorem State.setLane_lane (s : State) (n : LaneId) : s.setLane n (s.lane n) = s := by
  cases s; simp [State.setLane, State.lane]

/-! ## setCategory -/

@[simp] theorem State.setCategory_slots (s : State) (n : CategoryNo) (x : CategoryRecord) : (s.setCategory n x).slots = s.slots := rfl
@[simp] theorem State.setCategory_stations (s : State) (n : CategoryNo) (x : CategoryRecord) : (s.setCategory n x).stations = s.stations := rfl
@[simp] theorem State.setCategory_barriers (s : State) (n : CategoryNo) (x : CategoryRecord) : (s.setCategory n x).barriers = s.barriers := rfl
@[simp] theorem State.setCategory_decks (s : State) (n : CategoryNo) (x : CategoryRecord) : (s.setCategory n x).decks = s.decks := rfl
@[simp] theorem State.setCategory_arbiters (s : State) (n : CategoryNo) (x : CategoryRecord) : (s.setCategory n x).arbiters = s.arbiters := rfl
@[simp] theorem State.setCategory_laneTable (s : State) (n : CategoryNo) (x : CategoryRecord) : (s.setCategory n x).laneTable = s.laneTable := rfl
@[simp] theorem State.setCategory_lanes (s : State) (n : CategoryNo) (x : CategoryRecord) : (s.setCategory n x).lanes = s.lanes := rfl
@[simp] theorem State.setCategory_vehicles (s : State) (n : CategoryNo) (x : CategoryRecord) : (s.setCategory n x).vehicles = s.vehicles := rfl
@[simp] theorem State.setCategory_visits (s : State) (n : CategoryNo) (x : CategoryRecord) : (s.setCategory n x).visits = s.visits := rfl
@[simp] theorem State.setCategory_nextVisitKey (s : State) (n : CategoryNo) (x : CategoryRecord) : (s.setCategory n x).nextVisitKey = s.nextVisitKey := rfl
@[simp] theorem State.setCategory_tareUpdates (s : State) (n : CategoryNo) (x : CategoryRecord) : (s.setCategory n x).tareUpdates = s.tareUpdates := rfl
@[simp] theorem State.setCategory_counter (s : State) (n : CategoryNo) (x : CategoryRecord) : (s.setCategory n x).counter = s.counter := rfl
@[simp] theorem State.setCategory_queues (s : State) (n : CategoryNo) (x : CategoryRecord) : (s.setCategory n x).queues = s.queues := rfl
@[simp] theorem State.setCategory_nextFrame (s : State) (n : CategoryNo) (x : CategoryRecord) : (s.setCategory n x).nextFrame = s.nextFrame := rfl
@[simp] theorem State.setCategory_frameInHand (s : State) (n : CategoryNo) (x : CategoryRecord) : (s.setCategory n x).frameInHand = s.frameInHand := rfl
@[simp] theorem State.setCategory_superframeDue (s : State) (n : CategoryNo) (x : CategoryRecord) : (s.setCategory n x).superframeDue = s.superframeDue := rfl
@[simp] theorem State.setCategory_periodCount (s : State) (n : CategoryNo) (x : CategoryRecord) : (s.setCategory n x).periodCount = s.periodCount := rfl
@[simp] theorem State.setCategory_periodDue (s : State) (n : CategoryNo) (x : CategoryRecord) : (s.setCategory n x).periodDue = s.periodDue := rfl
@[simp] theorem State.setCategory_sentFrame (s : State) (n : CategoryNo) (x : CategoryRecord) : (s.setCategory n x).sentFrame = s.sentFrame := rfl
@[simp] theorem State.setCategory_rate (s : State) (n : CategoryNo) (x : CategoryRecord) : (s.setCategory n x).rate = s.rate := rfl
@[simp] theorem State.setCategory_receiver (s : State) (n : CategoryNo) (x : CategoryRecord) : (s.setCategory n x).receiver = s.receiver := rfl
@[simp] theorem State.setCategory_buffer (s : State) (n : CategoryNo) (x : CategoryRecord) : (s.setCategory n x).buffer = s.buffer := rfl
@[simp] theorem State.setCategory_refusals (s : State) (n : CategoryNo) (x : CategoryRecord) : (s.setCategory n x).refusals = s.refusals := rfl
@[simp] theorem State.setCategory_reports (s : State) (n : CategoryNo) (x : CategoryRecord) : (s.setCategory n x).reports = s.reports := rfl
@[simp] theorem State.setCategory_overrun (s : State) (n : CategoryNo) (x : CategoryRecord) : (s.setCategory n x).overrun = s.overrun := rfl
@[simp] theorem State.setCategory_dropped (s : State) (n : CategoryNo) (x : CategoryRecord) : (s.setCategory n x).dropped = s.dropped := rfl
@[simp] theorem State.setCategory_line (s : State) (n : CategoryNo) (x : CategoryRecord) : (s.setCategory n x).line = s.line := rfl
@[simp] theorem State.setCategory_sentOffice (s : State) (n : CategoryNo) (x : CategoryRecord) : (s.setCategory n x).sentOffice = s.sentOffice := rfl
@[simp] theorem State.setCategory_clock (s : State) (n : CategoryNo) (x : CategoryRecord) : (s.setCategory n x).clock = s.clock := rfl
@[simp] theorem State.setCategory_resetsDue (s : State) (n : CategoryNo) (x : CategoryRecord) : (s.setCategory n x).resetsDue = s.resetsDue := rfl
@[simp] theorem State.setCategory_pending (s : State) (n : CategoryNo) (x : CategoryRecord) : (s.setCategory n x).pending = s.pending := rfl
@[simp] theorem State.setCategory_categories (s : State) (n : CategoryNo) (x : CategoryRecord) : (s.setCategory n x).categories = s.categories.set n x := rfl
@[simp] theorem State.setCategory_slot (s : State) (n : CategoryNo) (x : CategoryRecord) (m : StationId) : (s.setCategory n x).slot m = s.slot m := rfl
@[simp] theorem State.setCategory_station (s : State) (n : CategoryNo) (x : CategoryRecord) (m : StationId) : (s.setCategory n x).station m = s.station m := rfl
@[simp] theorem State.setCategory_barrier (s : State) (n : CategoryNo) (x : CategoryRecord) (m : StationId) : (s.setCategory n x).barrier m = s.barrier m := rfl
@[simp] theorem State.setCategory_deck (s : State) (n : CategoryNo) (x : CategoryRecord) (m : DeckId) : (s.setCategory n x).deck m = s.deck m := rfl
@[simp] theorem State.setCategory_arbiter (s : State) (n : CategoryNo) (x : CategoryRecord) (m : DeckId) : (s.setCategory n x).arbiter m = s.arbiter m := rfl
@[simp] theorem State.setCategory_laneRecord (s : State) (n : CategoryNo) (x : CategoryRecord) (m : LaneId) : (s.setCategory n x).laneRecord m = s.laneRecord m := rfl
@[simp] theorem State.setCategory_lane (s : State) (n : CategoryNo) (x : CategoryRecord) (m : LaneId) : (s.setCategory n x).lane m = s.lane m := rfl
@[simp] theorem State.setCategory_queue (s : State) (n : CategoryNo) (x : CategoryRecord) (m : LaneId) : (s.setCategory n x).queue m = s.queue m := rfl
theorem State.category_setCategory (s : State) (n m : CategoryNo) (x : CategoryRecord) : (s.setCategory n x).category m = if n = m then x else s.category m := by
  simp only [State.category, State.setCategory, Fin.getElem_fin, Vector.getElem_set, Fin.ext_iff]
@[simp] theorem State.category_setCategory_self (s : State) (n : CategoryNo) (x : CategoryRecord) : (s.setCategory n x).category n = x := by
  simp [State.category_setCategory]
@[simp] theorem State.setCategory_setCategory (s : State) (n : CategoryNo) (x y : CategoryRecord) : (s.setCategory n x).setCategory n y = s.setCategory n y := by
  simp [State.setCategory]
@[simp] theorem State.setCategory_category (s : State) (n : CategoryNo) : s.setCategory n (s.category n) = s := by
  cases s; simp [State.setCategory, State.category]

/-! ## setQueue -/

@[simp] theorem State.setQueue_slots (s : State) (n : LaneId) (x : TicketQueue) : (s.setQueue n x).slots = s.slots := rfl
@[simp] theorem State.setQueue_stations (s : State) (n : LaneId) (x : TicketQueue) : (s.setQueue n x).stations = s.stations := rfl
@[simp] theorem State.setQueue_barriers (s : State) (n : LaneId) (x : TicketQueue) : (s.setQueue n x).barriers = s.barriers := rfl
@[simp] theorem State.setQueue_decks (s : State) (n : LaneId) (x : TicketQueue) : (s.setQueue n x).decks = s.decks := rfl
@[simp] theorem State.setQueue_arbiters (s : State) (n : LaneId) (x : TicketQueue) : (s.setQueue n x).arbiters = s.arbiters := rfl
@[simp] theorem State.setQueue_laneTable (s : State) (n : LaneId) (x : TicketQueue) : (s.setQueue n x).laneTable = s.laneTable := rfl
@[simp] theorem State.setQueue_lanes (s : State) (n : LaneId) (x : TicketQueue) : (s.setQueue n x).lanes = s.lanes := rfl
@[simp] theorem State.setQueue_vehicles (s : State) (n : LaneId) (x : TicketQueue) : (s.setQueue n x).vehicles = s.vehicles := rfl
@[simp] theorem State.setQueue_categories (s : State) (n : LaneId) (x : TicketQueue) : (s.setQueue n x).categories = s.categories := rfl
@[simp] theorem State.setQueue_visits (s : State) (n : LaneId) (x : TicketQueue) : (s.setQueue n x).visits = s.visits := rfl
@[simp] theorem State.setQueue_nextVisitKey (s : State) (n : LaneId) (x : TicketQueue) : (s.setQueue n x).nextVisitKey = s.nextVisitKey := rfl
@[simp] theorem State.setQueue_tareUpdates (s : State) (n : LaneId) (x : TicketQueue) : (s.setQueue n x).tareUpdates = s.tareUpdates := rfl
@[simp] theorem State.setQueue_counter (s : State) (n : LaneId) (x : TicketQueue) : (s.setQueue n x).counter = s.counter := rfl
@[simp] theorem State.setQueue_nextFrame (s : State) (n : LaneId) (x : TicketQueue) : (s.setQueue n x).nextFrame = s.nextFrame := rfl
@[simp] theorem State.setQueue_frameInHand (s : State) (n : LaneId) (x : TicketQueue) : (s.setQueue n x).frameInHand = s.frameInHand := rfl
@[simp] theorem State.setQueue_superframeDue (s : State) (n : LaneId) (x : TicketQueue) : (s.setQueue n x).superframeDue = s.superframeDue := rfl
@[simp] theorem State.setQueue_periodCount (s : State) (n : LaneId) (x : TicketQueue) : (s.setQueue n x).periodCount = s.periodCount := rfl
@[simp] theorem State.setQueue_periodDue (s : State) (n : LaneId) (x : TicketQueue) : (s.setQueue n x).periodDue = s.periodDue := rfl
@[simp] theorem State.setQueue_sentFrame (s : State) (n : LaneId) (x : TicketQueue) : (s.setQueue n x).sentFrame = s.sentFrame := rfl
@[simp] theorem State.setQueue_rate (s : State) (n : LaneId) (x : TicketQueue) : (s.setQueue n x).rate = s.rate := rfl
@[simp] theorem State.setQueue_receiver (s : State) (n : LaneId) (x : TicketQueue) : (s.setQueue n x).receiver = s.receiver := rfl
@[simp] theorem State.setQueue_buffer (s : State) (n : LaneId) (x : TicketQueue) : (s.setQueue n x).buffer = s.buffer := rfl
@[simp] theorem State.setQueue_refusals (s : State) (n : LaneId) (x : TicketQueue) : (s.setQueue n x).refusals = s.refusals := rfl
@[simp] theorem State.setQueue_reports (s : State) (n : LaneId) (x : TicketQueue) : (s.setQueue n x).reports = s.reports := rfl
@[simp] theorem State.setQueue_overrun (s : State) (n : LaneId) (x : TicketQueue) : (s.setQueue n x).overrun = s.overrun := rfl
@[simp] theorem State.setQueue_dropped (s : State) (n : LaneId) (x : TicketQueue) : (s.setQueue n x).dropped = s.dropped := rfl
@[simp] theorem State.setQueue_line (s : State) (n : LaneId) (x : TicketQueue) : (s.setQueue n x).line = s.line := rfl
@[simp] theorem State.setQueue_sentOffice (s : State) (n : LaneId) (x : TicketQueue) : (s.setQueue n x).sentOffice = s.sentOffice := rfl
@[simp] theorem State.setQueue_clock (s : State) (n : LaneId) (x : TicketQueue) : (s.setQueue n x).clock = s.clock := rfl
@[simp] theorem State.setQueue_resetsDue (s : State) (n : LaneId) (x : TicketQueue) : (s.setQueue n x).resetsDue = s.resetsDue := rfl
@[simp] theorem State.setQueue_pending (s : State) (n : LaneId) (x : TicketQueue) : (s.setQueue n x).pending = s.pending := rfl
@[simp] theorem State.setQueue_queues (s : State) (n : LaneId) (x : TicketQueue) : (s.setQueue n x).queues = s.queues.set n x := rfl
@[simp] theorem State.setQueue_slot (s : State) (n : LaneId) (x : TicketQueue) (m : StationId) : (s.setQueue n x).slot m = s.slot m := rfl
@[simp] theorem State.setQueue_station (s : State) (n : LaneId) (x : TicketQueue) (m : StationId) : (s.setQueue n x).station m = s.station m := rfl
@[simp] theorem State.setQueue_barrier (s : State) (n : LaneId) (x : TicketQueue) (m : StationId) : (s.setQueue n x).barrier m = s.barrier m := rfl
@[simp] theorem State.setQueue_deck (s : State) (n : LaneId) (x : TicketQueue) (m : DeckId) : (s.setQueue n x).deck m = s.deck m := rfl
@[simp] theorem State.setQueue_arbiter (s : State) (n : LaneId) (x : TicketQueue) (m : DeckId) : (s.setQueue n x).arbiter m = s.arbiter m := rfl
@[simp] theorem State.setQueue_laneRecord (s : State) (n : LaneId) (x : TicketQueue) (m : LaneId) : (s.setQueue n x).laneRecord m = s.laneRecord m := rfl
@[simp] theorem State.setQueue_lane (s : State) (n : LaneId) (x : TicketQueue) (m : LaneId) : (s.setQueue n x).lane m = s.lane m := rfl
@[simp] theorem State.setQueue_category (s : State) (n : LaneId) (x : TicketQueue) (m : CategoryNo) : (s.setQueue n x).category m = s.category m := rfl
theorem State.queue_setQueue (s : State) (n m : LaneId) (x : TicketQueue) : (s.setQueue n x).queue m = if n = m then x else s.queue m := by
  simp only [State.queue, State.setQueue, Fin.getElem_fin, Vector.getElem_set, Fin.ext_iff]
@[simp] theorem State.queue_setQueue_self (s : State) (n : LaneId) (x : TicketQueue) : (s.setQueue n x).queue n = x := by
  simp [State.queue_setQueue]
@[simp] theorem State.setQueue_setQueue (s : State) (n : LaneId) (x y : TicketQueue) : (s.setQueue n x).setQueue n y = s.setQueue n y := by
  simp [State.setQueue]
@[simp] theorem State.setQueue_queue (s : State) (n : LaneId) : s.setQueue n (s.queue n) = s := by
  cases s; simp [State.setQueue, State.queue]

/-! ## Reads of a whole table that is replaced -/


/-! ## post -/

@[simp] theorem State.post_slots (s : State) (b : ReportBody) : (s.post b).slots = s.slots := by
  unfold State.post; split <;> rfl
@[simp] theorem State.post_stations (s : State) (b : ReportBody) : (s.post b).stations = s.stations := by
  unfold State.post; split <;> rfl
@[simp] theorem State.post_barriers (s : State) (b : ReportBody) : (s.post b).barriers = s.barriers := by
  unfold State.post; split <;> rfl
@[simp] theorem State.post_decks (s : State) (b : ReportBody) : (s.post b).decks = s.decks := by
  unfold State.post; split <;> rfl
@[simp] theorem State.post_arbiters (s : State) (b : ReportBody) : (s.post b).arbiters = s.arbiters := by
  unfold State.post; split <;> rfl
@[simp] theorem State.post_laneTable (s : State) (b : ReportBody) : (s.post b).laneTable = s.laneTable := by
  unfold State.post; split <;> rfl
@[simp] theorem State.post_lanes (s : State) (b : ReportBody) : (s.post b).lanes = s.lanes := by
  unfold State.post; split <;> rfl
@[simp] theorem State.post_vehicles (s : State) (b : ReportBody) : (s.post b).vehicles = s.vehicles := by
  unfold State.post; split <;> rfl
@[simp] theorem State.post_categories (s : State) (b : ReportBody) : (s.post b).categories = s.categories := by
  unfold State.post; split <;> rfl
@[simp] theorem State.post_visits (s : State) (b : ReportBody) : (s.post b).visits = s.visits := by
  unfold State.post; split <;> rfl
@[simp] theorem State.post_nextVisitKey (s : State) (b : ReportBody) : (s.post b).nextVisitKey = s.nextVisitKey := by
  unfold State.post; split <;> rfl
@[simp] theorem State.post_tareUpdates (s : State) (b : ReportBody) : (s.post b).tareUpdates = s.tareUpdates := by
  unfold State.post; split <;> rfl
@[simp] theorem State.post_counter (s : State) (b : ReportBody) : (s.post b).counter = s.counter := by
  unfold State.post; split <;> rfl
@[simp] theorem State.post_queues (s : State) (b : ReportBody) : (s.post b).queues = s.queues := by
  unfold State.post; split <;> rfl
@[simp] theorem State.post_nextFrame (s : State) (b : ReportBody) : (s.post b).nextFrame = s.nextFrame := by
  unfold State.post; split <;> rfl
@[simp] theorem State.post_frameInHand (s : State) (b : ReportBody) : (s.post b).frameInHand = s.frameInHand := by
  unfold State.post; split <;> rfl
@[simp] theorem State.post_superframeDue (s : State) (b : ReportBody) : (s.post b).superframeDue = s.superframeDue := by
  unfold State.post; split <;> rfl
@[simp] theorem State.post_periodCount (s : State) (b : ReportBody) : (s.post b).periodCount = s.periodCount := by
  unfold State.post; split <;> rfl
@[simp] theorem State.post_periodDue (s : State) (b : ReportBody) : (s.post b).periodDue = s.periodDue := by
  unfold State.post; split <;> rfl
@[simp] theorem State.post_sentFrame (s : State) (b : ReportBody) : (s.post b).sentFrame = s.sentFrame := by
  unfold State.post; split <;> rfl
@[simp] theorem State.post_rate (s : State) (b : ReportBody) : (s.post b).rate = s.rate := by
  unfold State.post; split <;> rfl
@[simp] theorem State.post_receiver (s : State) (b : ReportBody) : (s.post b).receiver = s.receiver := by
  unfold State.post; split <;> rfl
@[simp] theorem State.post_buffer (s : State) (b : ReportBody) : (s.post b).buffer = s.buffer := by
  unfold State.post; split <;> rfl
@[simp] theorem State.post_refusals (s : State) (b : ReportBody) : (s.post b).refusals = s.refusals := by
  unfold State.post; split <;> rfl
@[simp] theorem State.post_line (s : State) (b : ReportBody) : (s.post b).line = s.line := by
  unfold State.post; split <;> rfl
@[simp] theorem State.post_sentOffice (s : State) (b : ReportBody) : (s.post b).sentOffice = s.sentOffice := by
  unfold State.post; split <;> rfl
@[simp] theorem State.post_clock (s : State) (b : ReportBody) : (s.post b).clock = s.clock := by
  unfold State.post; split <;> rfl
@[simp] theorem State.post_resetsDue (s : State) (b : ReportBody) : (s.post b).resetsDue = s.resetsDue := by
  unfold State.post; split <;> rfl
@[simp] theorem State.post_pending (s : State) (b : ReportBody) : (s.post b).pending = s.pending := by
  unfold State.post; split <;> rfl
@[simp] theorem State.post_slot (s : State) (b : ReportBody) (m : StationId) : (s.post b).slot m = s.slot m := by
  simp only [State.slot, State.post_slots]
@[simp] theorem State.post_station (s : State) (b : ReportBody) (m : StationId) : (s.post b).station m = s.station m := by
  simp only [State.station, State.post_stations]
@[simp] theorem State.post_barrier (s : State) (b : ReportBody) (m : StationId) : (s.post b).barrier m = s.barrier m := by
  simp only [State.barrier, State.post_barriers]
@[simp] theorem State.post_deck (s : State) (b : ReportBody) (m : DeckId) : (s.post b).deck m = s.deck m := by
  simp only [State.deck, State.post_decks]
@[simp] theorem State.post_arbiter (s : State) (b : ReportBody) (m : DeckId) : (s.post b).arbiter m = s.arbiter m := by
  simp only [State.arbiter, State.post_arbiters]
@[simp] theorem State.post_laneRecord (s : State) (b : ReportBody) (m : LaneId) : (s.post b).laneRecord m = s.laneRecord m := by
  simp only [State.laneRecord, State.post_laneTable]
@[simp] theorem State.post_lane (s : State) (b : ReportBody) (m : LaneId) : (s.post b).lane m = s.lane m := by
  simp only [State.lane, State.post_lanes]
@[simp] theorem State.post_category (s : State) (b : ReportBody) (m : CategoryNo) : (s.post b).category m = s.category m := by
  simp only [State.category, State.post_categories]
@[simp] theorem State.post_queue (s : State) (b : ReportBody) (m : LaneId) : (s.post b).queue m = s.queue m := by
  simp only [State.queue, State.post_queues]

/-! ## giveReply -/

@[simp] theorem State.giveReply_slots (s : State) (r : Reply) : (s.giveReply r).slots = s.slots := by
  unfold State.giveReply; split <;> rfl
@[simp] theorem State.giveReply_stations (s : State) (r : Reply) : (s.giveReply r).stations = s.stations := by
  unfold State.giveReply; split <;> rfl
@[simp] theorem State.giveReply_barriers (s : State) (r : Reply) : (s.giveReply r).barriers = s.barriers := by
  unfold State.giveReply; split <;> rfl
@[simp] theorem State.giveReply_decks (s : State) (r : Reply) : (s.giveReply r).decks = s.decks := by
  unfold State.giveReply; split <;> rfl
@[simp] theorem State.giveReply_arbiters (s : State) (r : Reply) : (s.giveReply r).arbiters = s.arbiters := by
  unfold State.giveReply; split <;> rfl
@[simp] theorem State.giveReply_laneTable (s : State) (r : Reply) : (s.giveReply r).laneTable = s.laneTable := by
  unfold State.giveReply; split <;> rfl
@[simp] theorem State.giveReply_lanes (s : State) (r : Reply) : (s.giveReply r).lanes = s.lanes := by
  unfold State.giveReply; split <;> rfl
@[simp] theorem State.giveReply_vehicles (s : State) (r : Reply) : (s.giveReply r).vehicles = s.vehicles := by
  unfold State.giveReply; split <;> rfl
@[simp] theorem State.giveReply_categories (s : State) (r : Reply) : (s.giveReply r).categories = s.categories := by
  unfold State.giveReply; split <;> rfl
@[simp] theorem State.giveReply_visits (s : State) (r : Reply) : (s.giveReply r).visits = s.visits := by
  unfold State.giveReply; split <;> rfl
@[simp] theorem State.giveReply_nextVisitKey (s : State) (r : Reply) : (s.giveReply r).nextVisitKey = s.nextVisitKey := by
  unfold State.giveReply; split <;> rfl
@[simp] theorem State.giveReply_tareUpdates (s : State) (r : Reply) : (s.giveReply r).tareUpdates = s.tareUpdates := by
  unfold State.giveReply; split <;> rfl
@[simp] theorem State.giveReply_counter (s : State) (r : Reply) : (s.giveReply r).counter = s.counter := by
  unfold State.giveReply; split <;> rfl
@[simp] theorem State.giveReply_queues (s : State) (r : Reply) : (s.giveReply r).queues = s.queues := by
  unfold State.giveReply; split <;> rfl
@[simp] theorem State.giveReply_nextFrame (s : State) (r : Reply) : (s.giveReply r).nextFrame = s.nextFrame := by
  unfold State.giveReply; split <;> rfl
@[simp] theorem State.giveReply_frameInHand (s : State) (r : Reply) : (s.giveReply r).frameInHand = s.frameInHand := by
  unfold State.giveReply; split <;> rfl
@[simp] theorem State.giveReply_superframeDue (s : State) (r : Reply) : (s.giveReply r).superframeDue = s.superframeDue := by
  unfold State.giveReply; split <;> rfl
@[simp] theorem State.giveReply_periodCount (s : State) (r : Reply) : (s.giveReply r).periodCount = s.periodCount := by
  unfold State.giveReply; split <;> rfl
@[simp] theorem State.giveReply_periodDue (s : State) (r : Reply) : (s.giveReply r).periodDue = s.periodDue := by
  unfold State.giveReply; split <;> rfl
@[simp] theorem State.giveReply_sentFrame (s : State) (r : Reply) : (s.giveReply r).sentFrame = s.sentFrame := by
  unfold State.giveReply; split <;> rfl
@[simp] theorem State.giveReply_rate (s : State) (r : Reply) : (s.giveReply r).rate = s.rate := by
  unfold State.giveReply; split <;> rfl
@[simp] theorem State.giveReply_receiver (s : State) (r : Reply) : (s.giveReply r).receiver = s.receiver := by
  unfold State.giveReply; split <;> rfl
@[simp] theorem State.giveReply_refusals (s : State) (r : Reply) : (s.giveReply r).refusals = s.refusals := by
  unfold State.giveReply; split <;> rfl
@[simp] theorem State.giveReply_reports (s : State) (r : Reply) : (s.giveReply r).reports = s.reports := by
  unfold State.giveReply; split <;> rfl
@[simp] theorem State.giveReply_overrun (s : State) (r : Reply) : (s.giveReply r).overrun = s.overrun := by
  unfold State.giveReply; split <;> rfl
@[simp] theorem State.giveReply_dropped (s : State) (r : Reply) : (s.giveReply r).dropped = s.dropped := by
  unfold State.giveReply; split <;> rfl
@[simp] theorem State.giveReply_line (s : State) (r : Reply) : (s.giveReply r).line = s.line := by
  unfold State.giveReply; split <;> rfl
@[simp] theorem State.giveReply_sentOffice (s : State) (r : Reply) : (s.giveReply r).sentOffice = s.sentOffice := by
  unfold State.giveReply; split <;> rfl
@[simp] theorem State.giveReply_clock (s : State) (r : Reply) : (s.giveReply r).clock = s.clock := by
  unfold State.giveReply; split <;> rfl
@[simp] theorem State.giveReply_resetsDue (s : State) (r : Reply) : (s.giveReply r).resetsDue = s.resetsDue := by
  unfold State.giveReply; split <;> rfl
@[simp] theorem State.giveReply_pending (s : State) (r : Reply) : (s.giveReply r).pending = s.pending := by
  unfold State.giveReply; split <;> rfl
@[simp] theorem State.giveReply_slot (s : State) (r : Reply) (m : StationId) : (s.giveReply r).slot m = s.slot m := by
  simp only [State.slot, State.giveReply_slots]
@[simp] theorem State.giveReply_station (s : State) (r : Reply) (m : StationId) : (s.giveReply r).station m = s.station m := by
  simp only [State.station, State.giveReply_stations]
@[simp] theorem State.giveReply_barrier (s : State) (r : Reply) (m : StationId) : (s.giveReply r).barrier m = s.barrier m := by
  simp only [State.barrier, State.giveReply_barriers]
@[simp] theorem State.giveReply_deck (s : State) (r : Reply) (m : DeckId) : (s.giveReply r).deck m = s.deck m := by
  simp only [State.deck, State.giveReply_decks]
@[simp] theorem State.giveReply_arbiter (s : State) (r : Reply) (m : DeckId) : (s.giveReply r).arbiter m = s.arbiter m := by
  simp only [State.arbiter, State.giveReply_arbiters]
@[simp] theorem State.giveReply_laneRecord (s : State) (r : Reply) (m : LaneId) : (s.giveReply r).laneRecord m = s.laneRecord m := by
  simp only [State.laneRecord, State.giveReply_laneTable]
@[simp] theorem State.giveReply_lane (s : State) (r : Reply) (m : LaneId) : (s.giveReply r).lane m = s.lane m := by
  simp only [State.lane, State.giveReply_lanes]
@[simp] theorem State.giveReply_category (s : State) (r : Reply) (m : CategoryNo) : (s.giveReply r).category m = s.category m := by
  simp only [State.category, State.giveReply_categories]
@[simp] theorem State.giveReply_queue (s : State) (r : Reply) (m : LaneId) : (s.giveReply r).queue m = s.queue m := by
  simp only [State.queue, State.giveReply_queues]

/-! ## setCommand -/

@[simp] theorem State.setCommand_stations (s : State) (n : StationId) (c : Command) : (s.setCommand n c).stations = s.stations := by
  rfl
@[simp] theorem State.setCommand_barriers (s : State) (n : StationId) (c : Command) : (s.setCommand n c).barriers = s.barriers := by
  rfl
@[simp] theorem State.setCommand_decks (s : State) (n : StationId) (c : Command) : (s.setCommand n c).decks = s.decks := by
  rfl
@[simp] theorem State.setCommand_arbiters (s : State) (n : StationId) (c : Command) : (s.setCommand n c).arbiters = s.arbiters := by
  rfl
@[simp] theorem State.setCommand_laneTable (s : State) (n : StationId) (c : Command) : (s.setCommand n c).laneTable = s.laneTable := by
  rfl
@[simp] theorem State.setCommand_lanes (s : State) (n : StationId) (c : Command) : (s.setCommand n c).lanes = s.lanes := by
  rfl
@[simp] theorem State.setCommand_vehicles (s : State) (n : StationId) (c : Command) : (s.setCommand n c).vehicles = s.vehicles := by
  rfl
@[simp] theorem State.setCommand_categories (s : State) (n : StationId) (c : Command) : (s.setCommand n c).categories = s.categories := by
  rfl
@[simp] theorem State.setCommand_visits (s : State) (n : StationId) (c : Command) : (s.setCommand n c).visits = s.visits := by
  rfl
@[simp] theorem State.setCommand_nextVisitKey (s : State) (n : StationId) (c : Command) : (s.setCommand n c).nextVisitKey = s.nextVisitKey := by
  rfl
@[simp] theorem State.setCommand_tareUpdates (s : State) (n : StationId) (c : Command) : (s.setCommand n c).tareUpdates = s.tareUpdates := by
  rfl
@[simp] theorem State.setCommand_counter (s : State) (n : StationId) (c : Command) : (s.setCommand n c).counter = s.counter := by
  rfl
@[simp] theorem State.setCommand_queues (s : State) (n : StationId) (c : Command) : (s.setCommand n c).queues = s.queues := by
  rfl
@[simp] theorem State.setCommand_nextFrame (s : State) (n : StationId) (c : Command) : (s.setCommand n c).nextFrame = s.nextFrame := by
  rfl
@[simp] theorem State.setCommand_frameInHand (s : State) (n : StationId) (c : Command) : (s.setCommand n c).frameInHand = s.frameInHand := by
  rfl
@[simp] theorem State.setCommand_superframeDue (s : State) (n : StationId) (c : Command) : (s.setCommand n c).superframeDue = s.superframeDue := by
  rfl
@[simp] theorem State.setCommand_periodCount (s : State) (n : StationId) (c : Command) : (s.setCommand n c).periodCount = s.periodCount := by
  rfl
@[simp] theorem State.setCommand_periodDue (s : State) (n : StationId) (c : Command) : (s.setCommand n c).periodDue = s.periodDue := by
  rfl
@[simp] theorem State.setCommand_sentFrame (s : State) (n : StationId) (c : Command) : (s.setCommand n c).sentFrame = s.sentFrame := by
  rfl
@[simp] theorem State.setCommand_rate (s : State) (n : StationId) (c : Command) : (s.setCommand n c).rate = s.rate := by
  rfl
@[simp] theorem State.setCommand_receiver (s : State) (n : StationId) (c : Command) : (s.setCommand n c).receiver = s.receiver := by
  rfl
@[simp] theorem State.setCommand_buffer (s : State) (n : StationId) (c : Command) : (s.setCommand n c).buffer = s.buffer := by
  rfl
@[simp] theorem State.setCommand_refusals (s : State) (n : StationId) (c : Command) : (s.setCommand n c).refusals = s.refusals := by
  rfl
@[simp] theorem State.setCommand_reports (s : State) (n : StationId) (c : Command) : (s.setCommand n c).reports = s.reports := by
  rfl
@[simp] theorem State.setCommand_overrun (s : State) (n : StationId) (c : Command) : (s.setCommand n c).overrun = s.overrun := by
  rfl
@[simp] theorem State.setCommand_dropped (s : State) (n : StationId) (c : Command) : (s.setCommand n c).dropped = s.dropped := by
  rfl
@[simp] theorem State.setCommand_line (s : State) (n : StationId) (c : Command) : (s.setCommand n c).line = s.line := by
  rfl
@[simp] theorem State.setCommand_sentOffice (s : State) (n : StationId) (c : Command) : (s.setCommand n c).sentOffice = s.sentOffice := by
  rfl
@[simp] theorem State.setCommand_clock (s : State) (n : StationId) (c : Command) : (s.setCommand n c).clock = s.clock := by
  rfl
@[simp] theorem State.setCommand_resetsDue (s : State) (n : StationId) (c : Command) : (s.setCommand n c).resetsDue = s.resetsDue := by
  rfl
@[simp] theorem State.setCommand_pending (s : State) (n : StationId) (c : Command) : (s.setCommand n c).pending = s.pending := by
  rfl
@[simp] theorem State.setCommand_station (s : State) (n : StationId) (c : Command) (m : StationId) : (s.setCommand n c).station m = s.station m := by
  simp only [State.station, State.setCommand_stations]
@[simp] theorem State.setCommand_barrier (s : State) (n : StationId) (c : Command) (m : StationId) : (s.setCommand n c).barrier m = s.barrier m := by
  simp only [State.barrier, State.setCommand_barriers]
@[simp] theorem State.setCommand_deck (s : State) (n : StationId) (c : Command) (m : DeckId) : (s.setCommand n c).deck m = s.deck m := by
  simp only [State.deck, State.setCommand_decks]
@[simp] theorem State.setCommand_arbiter (s : State) (n : StationId) (c : Command) (m : DeckId) : (s.setCommand n c).arbiter m = s.arbiter m := by
  simp only [State.arbiter, State.setCommand_arbiters]
@[simp] theorem State.setCommand_laneRecord (s : State) (n : StationId) (c : Command) (m : LaneId) : (s.setCommand n c).laneRecord m = s.laneRecord m := by
  simp only [State.laneRecord, State.setCommand_laneTable]
@[simp] theorem State.setCommand_lane (s : State) (n : StationId) (c : Command) (m : LaneId) : (s.setCommand n c).lane m = s.lane m := by
  simp only [State.lane, State.setCommand_lanes]
@[simp] theorem State.setCommand_category (s : State) (n : StationId) (c : Command) (m : CategoryNo) : (s.setCommand n c).category m = s.category m := by
  simp only [State.category, State.setCommand_categories]
@[simp] theorem State.setCommand_queue (s : State) (n : StationId) (c : Command) (m : LaneId) : (s.setCommand n c).queue m = s.queue m := by
  simp only [State.queue, State.setCommand_queues]

end Sys2Proof.Machine
end

