-- ==== Sys2Proof/Laws/Fixed.lean ====
section
/-! SUPPORT. What the operations of the blocks leave alone: the tables, the loop's own numbers, the office line, the clock and the queue. Each operation has one lemma. -/

namespace Sys2Proof.Machine

/-- The parts of the state that only the Loop Port, the Table Store's loads and the Office Line Port change. -/
structure Fixed where
  laneTable : Vector (Option LaneRecord) 4
  vehicles : List VehicleRecord
  categories : Vector CategoryRecord 16
  nextFrame : Nat
  frameInHand : Option Nat
  superframeDue : Bool
  periodCount : Nat
  periodDue : Bool
  sentFrame : List Byte
  rate : LineRate
  receiver : Option (List Byte)
  buffer : List Request
  refusals : List RefusedRequest
  line : Option OutFrame
  sentOffice : List Byte
  clock : YardClock
  resetsDue : ResetsDue
  pending : List Instr
  deriving DecidableEq, Repr

/-- Those parts of a state. -/
def State.fixed (s : State) : Fixed :=
  { laneTable := s.laneTable, vehicles := s.vehicles, categories := s.categories, nextFrame := s.nextFrame, frameInHand := s.frameInHand, superframeDue := s.superframeDue,
    periodCount := s.periodCount, periodDue := s.periodDue, sentFrame := s.sentFrame, rate := s.rate, receiver := s.receiver, buffer := s.buffer,
    refusals := s.refusals, line := s.line, sentOffice := s.sentOffice, clock := s.clock, resetsDue := s.resetsDue, pending := s.pending }

theorem State.laneTable_of_fixed {s t : State} (h : s.fixed = t.fixed) : s.laneTable = t.laneTable := congrArg Fixed.laneTable h
theorem State.vehicles_of_fixed {s t : State} (h : s.fixed = t.fixed) : s.vehicles = t.vehicles := congrArg Fixed.vehicles h
theorem State.categories_of_fixed {s t : State} (h : s.fixed = t.fixed) : s.categories = t.categories := congrArg Fixed.categories h
theorem State.nextFrame_of_fixed {s t : State} (h : s.fixed = t.fixed) : s.nextFrame = t.nextFrame := congrArg Fixed.nextFrame h
theorem State.frameInHand_of_fixed {s t : State} (h : s.fixed = t.fixed) : s.frameInHand = t.frameInHand := congrArg Fixed.frameInHand h
theorem State.superframeDue_of_fixed {s t : State} (h : s.fixed = t.fixed) : s.superframeDue = t.superframeDue := congrArg Fixed.superframeDue h
theorem State.periodCount_of_fixed {s t : State} (h : s.fixed = t.fixed) : s.periodCount = t.periodCount := congrArg Fixed.periodCount h
theorem State.periodDue_of_fixed {s t : State} (h : s.fixed = t.fixed) : s.periodDue = t.periodDue := congrArg Fixed.periodDue h
theorem State.sentFrame_of_fixed {s t : State} (h : s.fixed = t.fixed) : s.sentFrame = t.sentFrame := congrArg Fixed.sentFrame h
theorem State.rate_of_fixed {s t : State} (h : s.fixed = t.fixed) : s.rate = t.rate := congrArg Fixed.rate h
theorem State.receiver_of_fixed {s t : State} (h : s.fixed = t.fixed) : s.receiver = t.receiver := congrArg Fixed.receiver h
theorem State.buffer_of_fixed {s t : State} (h : s.fixed = t.fixed) : s.buffer = t.buffer := congrArg Fixed.buffer h
theorem State.refusals_of_fixed {s t : State} (h : s.fixed = t.fixed) : s.refusals = t.refusals := congrArg Fixed.refusals h
theorem State.line_of_fixed {s t : State} (h : s.fixed = t.fixed) : s.line = t.line := congrArg Fixed.line h
theorem State.sentOffice_of_fixed {s t : State} (h : s.fixed = t.fixed) : s.sentOffice = t.sentOffice := congrArg Fixed.sentOffice h
theorem State.clock_of_fixed {s t : State} (h : s.fixed = t.fixed) : s.clock = t.clock := congrArg Fixed.clock h
theorem State.resetsDue_of_fixed {s t : State} (h : s.fixed = t.fixed) : s.resetsDue = t.resetsDue := congrArg Fixed.resetsDue h
theorem State.pending_of_fixed {s t : State} (h : s.fixed = t.fixed) : s.pending = t.pending := congrArg Fixed.pending h

/-- A change run for each member of a list keeps what the change keeps. -/
theorem fixed_forEach {α : Type} (xs : List α) (f : α → State → State) (h : ∀ x t, (f x t).fixed = t.fixed) (s : State) :
    (forEach xs f s).fixed = s.fixed := by
  induction xs generalizing s with
  | nil => rfl
  | cons x xs ih => exact (ih (f x s)).trans (h x s)


/-! ## Ops -/

@[simp] theorem State.setSlot_fixed (s : State) (n : StationId) (x : LoopSlot) : (s.setSlot n x).fixed = s.fixed := by
  rfl
@[simp] theorem State.setStation_fixed (s : State) (n : StationId) (x : Station) : (s.setStation n x).fixed = s.fixed := by
  rfl
@[simp] theorem State.setBarrier_fixed (s : State) (n : StationId) (x : Option BarrierRecord) : (s.setBarrier n x).fixed = s.fixed := by
  rfl
@[simp] theorem State.setDeck_fixed (s : State) (d : DeckId) (x : DeckEngine) : (s.setDeck d x).fixed = s.fixed := by
  rfl
@[simp] theorem State.setArbiter_fixed (s : State) (d : DeckId) (x : Arbiter) : (s.setArbiter d x).fixed = s.fixed := by
  rfl
@[simp] theorem State.setLane_fixed (s : State) (l : LaneId) (x : LaneContext) : (s.setLane l x).fixed = s.fixed := by
  rfl
@[simp] theorem State.setQueue_fixed (s : State) (l : LaneId) (x : TicketQueue) : (s.setQueue l x).fixed = s.fixed := by
  rfl
@[simp] theorem State.updateSlot_fixed (s : State) (n : StationId) (f : LoopSlot → LoopSlot) : (s.updateSlot n f).fixed = s.fixed := by
  rfl
@[simp] theorem State.updateStation_fixed (s : State) (n : StationId) (f : Station → Station) : (s.updateStation n f).fixed = s.fixed := by
  rfl
@[simp] theorem State.updateDeck_fixed (s : State) (d : DeckId) (f : DeckEngine → DeckEngine) : (s.updateDeck d f).fixed = s.fixed := by
  rfl
@[simp] theorem State.updateLane_fixed (s : State) (l : LaneId) (f : LaneContext → LaneContext) : (s.updateLane l f).fixed = s.fixed := by
  rfl
@[simp] theorem State.post_fixed (s : State) (b : ReportBody) : (s.post b).fixed = s.fixed := by
  unfold State.post; split <;> rfl
@[simp] theorem State.setCommand_fixed (s : State) (n : StationId) (c : Command) : (s.setCommand n c).fixed = s.fixed := by
  rfl
@[simp] theorem State.postBarrier_fixed (s : State) (n : StationId) (why : BarrierReason) : (s.postBarrier n why).fixed = s.fixed := by
  unfold State.postBarrier; (repeat' split) <;> simp

/-! ## Weigh -/

@[simp] theorem State.replaceReading_fixed (s : State) (d : DeckId) : (s.replaceReading d).fixed = s.fixed := by
  unfold State.replaceReading; dsimp only; simp
@[simp] theorem State.postStream_fixed (s : State) (d : DeckId) : (s.postStream d).fixed = s.fixed := by
  unfold State.postStream; (repeat' split) <;> simp
@[simp] theorem State.streamGroup_fixed (s : State) (d : DeckId) : (s.streamGroup d).fixed = s.fixed := by
  unfold State.streamGroup; (repeat' split) <;> simp

/-! ## Zero -/

@[simp] theorem State.commandDigitizer_fixed (s : State) (d : DeckId) : (s.commandDigitizer d).fixed = s.fixed := by
  unfold State.commandDigitizer; (repeat' split) <;> simp
@[simp] theorem State.enterDeckState_fixed (s : State) (d : DeckId) (st : DeckState) : (s.enterDeckState d st).fixed = s.fixed := by
  unfold State.enterDeckState; simp
@[simp] theorem State.clearDeckWindow_fixed (s : State) (d : DeckId) : (s.clearDeckWindow d).fixed = s.fixed := by
  unfold State.clearDeckWindow; simp
@[simp] theorem State.captureZero_fixed (s : State) (d : DeckId) (r : DeckRecord) : (s.captureZero d r).fixed = s.fixed := by
  unfold State.captureZero; dsimp only; simp
@[simp] theorem State.failZero_fixed (s : State) (d : DeckId) : (s.failZero d).fixed = s.fixed := by
  unfold State.failZero; (repeat' split) <;> simp
@[simp] theorem State.capturingGroup_fixed (s : State) (d : DeckId) (r : DeckRecord) : (s.capturingGroup d r).fixed = s.fixed := by
  unfold State.capturingGroup; dsimp only; (repeat' split) <;> simp
@[simp] theorem State.trackZero_fixed (s : State) (d : DeckId) (r : DeckRecord) : (s.trackZero d r).fixed = s.fixed := by
  unfold State.trackZero; dsimp only; (repeat' split) <;> simp
@[simp] theorem State.trackGroup_fixed (s : State) (d : DeckId) (r : DeckRecord) : (s.trackGroup d r).fixed = s.fixed := by
  unfold State.trackGroup; dsimp only; (repeat' split) <;> simp
@[simp] theorem State.completeWaking_fixed (s : State) (d : DeckId) : (s.completeWaking d).fixed = s.fixed := by
  unfold State.completeWaking; (repeat' split) <;> simp
@[simp] theorem State.wakeDeckEvent_fixed (s : State) (d : DeckId) : (s.wakeDeckEvent d).fixed = s.fixed := by
  unfold State.wakeDeckEvent; (repeat' split) <;> simp
@[simp] theorem State.restartIdle_fixed (s : State) (d : DeckId) : (s.restartIdle d).fixed = s.fixed := by
  unfold State.restartIdle; (repeat' split) <;> simp
@[simp] theorem State.deckArrive_fixed (s : State) (d : DeckId) : (s.deckArrive d).fixed = s.fixed := by
  unfold State.deckArrive; dsimp only; (repeat' split) <;> simp
@[simp] theorem State.deckRead_fixed (s : State) (d : DeckId) : (s.deckRead d).fixed = s.fixed := by
  unfold State.deckRead; simp
@[simp] theorem State.afterGroup_fixed (s : State) (d : DeckId) (r : DeckRecord) : (s.afterGroup d r).fixed = s.fixed := by
  unfold State.afterGroup; dsimp only; (repeat' split) <;> simp
@[simp] theorem State.deckGroup_fixed (s : State) (d : DeckId) (g : SampleGroup) : (s.deckGroup d g).fixed = s.fixed := by
  unfold State.deckGroup; (repeat' split) <;> simp
@[simp] theorem State.endSpan_fixed (s : State) (d : DeckId) : (s.endSpan d).fixed = s.fixed := by
  unfold State.endSpan; (repeat' split) <;> simp
@[simp] theorem State.deckCode_fixed (s : State) (d : DeckId) (before : Option Code) (c : Code) : (s.deckCode d before c).fixed = s.fixed := by
  unfold State.deckCode; (repeat' split) <;> simp
@[simp] theorem State.digitizerEnrolled_fixed (s : State) (n : StationId) : (s.digitizerEnrolled n).fixed = s.fixed := by
  unfold State.digitizerEnrolled; (repeat' split) <;> simp
@[simp] theorem State.digitizerLost_fixed (s : State) (n : StationId) : (s.digitizerLost n).fixed = s.fixed := by
  unfold State.digitizerLost; (repeat' split) <;> simp
@[simp] theorem State.attemptRest_fixed (s : State) (d : DeckId) : (s.attemptRest d).fixed = s.fixed := by
  unfold State.attemptRest; (repeat' split) <;> simp
@[simp] theorem State.resetDeckYard_fixed (s : State) (d : DeckId) : (s.resetDeckYard d).fixed = s.fixed := by
  unfold State.resetDeckYard; dsimp only; (repeat' split) <;> simp

/-! ## Visits -/

@[simp] theorem State.updateVisit_fixed (s : State) (k : Nat) (f : Visit → Visit) : (s.updateVisit k f).fixed = s.fixed := by
  rfl
@[simp] theorem State.removeVisit_fixed (s : State) (k : Nat) : (s.removeVisit k).fixed = s.fixed := by
  rfl
@[simp] theorem State.freeVisit_fixed (s : State) (l : LaneId) (k : Nat) : (s.freeVisit l k).fixed = s.fixed := by
  unfold State.freeVisit; (repeat' split) <;> simp
@[simp] theorem State.closeVisit_fixed (s : State) (k : Nat) : (s.closeVisit k).fixed = s.fixed := by
  unfold State.closeVisit; dsimp only; (repeat' split) <;> simp
@[simp] theorem State.writeOutcome_fixed (s : State) (k : Nat) (o : PrintOutcome) : (s.writeOutcome k o).fixed = s.fixed := by
  unfold State.writeOutcome; dsimp only; (repeat' split) <;> simp
@[simp] theorem State.finishVisit_fixed (s : State) (k : Nat) : (s.finishVisit k).fixed = s.fixed := by
  unfold State.finishVisit; (repeat' split) <;> simp
@[simp] theorem State.addAnomalies_fixed (s : State) (k : Nat) (xs : List Anomaly) (l : Option LaneId) : (s.addAnomalies k xs l).fixed = s.fixed := by
  unfold State.addAnomalies; dsimp only; (repeat' split) <;> simp [fixed_forEach]
@[simp] theorem State.forceVisit_fixed (s : State) (v : Visit) : (s.forceVisit v).fixed = s.fixed := by
  unfold State.forceVisit; dsimp only; (repeat' split) <;> simp
@[simp] theorem State.resetVisitsYard_fixed (s : State) : (s.resetVisitsYard).fixed = s.fixed := by
  rfl

/-! ## Tickets -/

@[simp] theorem State.stampTicket_fixed (s : State) (k : Nat) (l : LaneId) : (s.stampTicket k l).fixed = s.fixed := by
  unfold State.stampTicket; dsimp only; (repeat' split) <;> first | rfl | (rw [State.post_fixed, State.updateVisit_fixed]; rfl)
@[simp] theorem State.postOpened_fixed (s : State) (k : Nat) : (s.postOpened k).fixed = s.fixed := by
  unfold State.postOpened; (repeat' split) <;> simp
@[simp] theorem State.commitInbound_fixed (s : State) (k : Nat) (c : Commit) (account : Nat) (category : Option CategoryNo) : (s.commitInbound k c account category).fixed = s.fixed := by
  unfold State.commitInbound; dsimp only; (repeat' split) <;> simp
@[simp] theorem State.commitOutboundOpen_fixed (s : State) (k : Nat) (c : Commit) : (s.commitOutboundOpen k c).fixed = s.fixed := by
  unfold State.commitOutboundOpen; dsimp only; simp
@[simp] theorem State.commitOutboundTicketed_fixed (s : State) (k : Nat) (c : Commit) (pass : Bool) : (s.commitOutboundTicketed k c pass).fixed = s.fixed := by
  have h : ∀ xs : List TareUpdate, ∀ t : State, ({ t with tareUpdates := xs } : State).fixed = t.fixed := fun _ _ => rfl
  unfold State.commitOutboundTicketed; dsimp only; (repeat' split) <;> simp [h]
@[simp] theorem State.jobLeaves_fixed (s : State) (l : LaneId) (o : PrintOutcome) : (s.jobLeaves l o).fixed = s.fixed := by
  unfold State.jobLeaves; dsimp only; (repeat' split) <;> simp
@[simp] theorem State.withdrawTicket_fixed (s : State) (n : StationId) (l : LaneId) : (s.withdrawTicket n l).fixed = s.fixed := by
  rfl
@[simp] theorem State.flushQueue_fixed (s : State) (l : LaneId) (why : NotPrinted) : (s.flushQueue l why).fixed = s.fixed := by
  unfold State.flushQueue; dsimp only; (repeat' split) <;> simp [fixed_forEach]
@[simp] theorem State.terminalLost_fixed (s : State) (n : StationId) : (s.terminalLost n).fixed = s.fixed := by
  unfold State.terminalLost; (repeat' split) <;> simp
@[simp] theorem State.holdJob_fixed (s : State) (l : LaneId) : (s.holdJob l).fixed = s.fixed := by
  unfold State.holdJob; (repeat' split) <;> simp
@[simp] theorem State.printReported_fixed (s : State) (n : StationId) (m : PrintMessage) : (s.printReported n m).fixed = s.fixed := by
  unfold State.printReported; (repeat' split) <;> simp
@[simp] theorem State.ticketCode_fixed (s : State) (n : StationId) (c : Code) : (s.ticketCode n c).fixed = s.fixed := by
  unfold State.ticketCode; (repeat' split) <;> simp
@[simp] theorem State.endOutcomeWait_fixed (s : State) (l : LaneId) : (s.endOutcomeWait l).fixed = s.fixed := by
  unfold State.endOutcomeWait; (repeat' split) <;> simp
@[simp] theorem State.resetTicketsYard_fixed (s : State) : (s.resetTicketsYard).fixed = s.fixed := by
  unfold State.resetTicketsYard; simp [fixed_forEach]

/-! ## Barriers -/

@[simp] theorem State.putBarrier_fixed (s : State) (n : StationId) (b : BarrierRecord) : (s.putBarrier n b).fixed = s.fixed := by
  unfold State.putBarrier; simp
@[simp] theorem State.askBarrier_fixed (s : State) (l : LaneId) (role : BarrierRole) (m : Motion) : (s.askBarrier l role m).fixed = s.fixed := by
  unfold State.askBarrier; (repeat' split) <;> simp
@[simp] theorem State.applyOrder_fixed (s : State) (n : StationId) (b : BarrierRecord) (o : BarrierOrder) : (s.applyOrder n b o).fixed = s.fixed := by
  unfold State.applyOrder; dsimp only; (repeat' split) <;> simp
@[simp] theorem State.dealOrder_fixed (s : State) (n : StationId) (b : BarrierRecord) (o : BarrierOrder) : (s.dealOrder n b o).fixed = s.fixed := by
  unfold State.dealOrder; (repeat' split) <;> simp
@[simp] theorem State.orderDue_fixed (s : State) (n : StationId) (b : BarrierRecord) (o : BarrierOrder) : (s.orderDue n b o).fixed = s.fixed := by
  unfold State.orderDue; dsimp only; (repeat' split) <;> simp
@[simp] theorem State.edgeDue_fixed (s : State) (n : StationId) (edge : Edge) : (s.edgeDue n edge).fixed = s.fixed := by
  unfold State.edgeDue; (repeat' split) <;> simp
@[simp] theorem State.groupStep_fixed (s : State) (n : StationId) (o : BarrierOrder) : (s.groupStep n o).fixed = s.fixed := by
  unfold State.groupStep; (repeat' split) <;> simp
@[simp] theorem State.resetBarriersYard_fixed (s : State) : (s.resetBarriersYard).fixed = s.fixed := by
  rfl

/-! ## Lanes -/

@[simp] theorem State.setLaneCodes_fixed (s : State) (l : LaneId) (r : LaneRecord) : (s.setLaneCodes l r).fixed = s.fixed := by
  unfold State.setLaneCodes; dsimp only; (repeat' split) <;> simp
@[simp] theorem State.withdrawClaim_fixed (s : State) (l : LaneId) (d : DeckId) : (s.withdrawClaim l d).fixed = s.fixed := by
  unfold State.withdrawClaim; (repeat' split) <;> simp
@[simp] theorem State.freeReservation_fixed (s : State) (l : LaneId) : (s.freeReservation l).fixed = s.fixed := by
  unfold State.freeReservation; (repeat' split) <;> simp
@[simp] theorem State.enterLane_fixed (s : State) (l : LaneId) (st : LaneState) (why : LaneReason) (read : Option IdentRead) :
    (s.enterLane l st why read).fixed = s.fixed := by
  unfold State.enterLane; dsimp only; (repeat' split) <;> simp
@[simp] theorem State.refer_fixed (s : State) (l : LaneId) (why : ReferralReason) (read : Option IdentRead) :
    (s.refer l why read).fixed = s.fixed := by
  unfold State.refer; simp
@[simp] theorem State.enterIdle_fixed (s : State) (l : LaneId) (why : LaneReason) : (s.enterIdle l why).fixed = s.fixed := by
  unfold State.enterIdle; dsimp only; (repeat' split) <;> simp
@[simp] theorem State.grantDeck_fixed (s : State) (d : DeckId) : (s.grantDeck d).fixed = s.fixed := by
  unfold State.grantDeck; dsimp only; (repeat' split) <;> simp
@[simp] theorem State.clearHold_fixed (s : State) (l : LaneId) (d : DeckId) : (s.clearHold l d).fixed = s.fixed := by
  unfold State.clearHold; (repeat' split) <;> simp
@[simp] theorem State.askRecovery_fixed (s : State) (l : LaneId) : (s.askRecovery l).fixed = s.fixed := by
  unfold State.askRecovery; (repeat' split) <;> simp
@[simp] theorem State.recoverFree_fixed (s : State) (l : LaneId) : (s.recoverFree l).fixed = s.fixed := by
  unfold State.recoverFree; (repeat' split) <;> simp
@[simp] theorem State.afterRelease_fixed (s : State) (d : DeckId) : (s.afterRelease d).fixed = s.fixed := by
  unfold State.afterRelease; simp [fixed_forEach]
@[simp] theorem State.testRecover_fixed (s : State) (l : LaneId) : (s.testRecover l).fixed = s.fixed := by
  unfold State.testRecover; (repeat' split) <;> simp
@[simp] theorem State.enterRecover_fixed (s : State) (l : LaneId) (why : LaneReason) : (s.enterRecover l why).fixed = s.fixed := by
  unfold State.enterRecover; simp
@[simp] theorem State.enterReleasing_fixed (s : State) (l : LaneId) (why : LaneReason) : (s.enterReleasing l why).fixed = s.fixed := by
  unfold State.enterReleasing; simp
@[simp] theorem State.commitIn_fixed (s : State) (l : LaneId) (w : Weight) (pass : Bool) : (s.commitIn l w pass).fixed = s.fixed := by
  unfold State.commitIn; dsimp only; (repeat' split) <;> simp
@[simp] theorem State.commitOut_fixed (s : State) (l : LaneId) (w : Weight) (pass : Bool) (v : Visit) : (s.commitOut l w pass v).fixed = s.fixed := by
  unfold State.commitOut; dsimp only; (repeat' split) <;> simp
@[simp] theorem State.targetGone_fixed (s : State) (l : LaneId) : (s.targetGone l).fixed = s.fixed := by
  unfold State.targetGone; simp
@[simp] theorem State.commitCapture_fixed (s : State) (l : LaneId) (w : Weight) (pass : Bool) : (s.commitCapture l w pass).fixed = s.fixed := by
  unfold State.commitCapture; (repeat' split) <;> simp
@[simp] theorem runSteps_fixed (l : LaneId) (r : LaneRecord) (w : Weight) (why : LaneReason) (xs : List CaptureStep) (s : State) :
    (runSteps l r w why xs s).fixed = s.fixed := by
  induction xs generalizing s with
  | nil => unfold runSteps; simp
  | cons x xs ih => cases x <;> unfold runSteps <;> (repeat' split) <;> simp [ih]
@[simp] theorem State.capture_fixed (s : State) (l : LaneId) (r : LaneRecord) (value : Int) : (s.capture l r value).fixed = s.fixed := by
  unfold State.capture; dsimp only; simp
@[simp] theorem State.tryCapture_fixed (s : State) (l : LaneId) : (s.tryCapture l).fixed = s.fixed := by
  unfold State.tryCapture; (repeat' split) <;> simp
@[simp] theorem State.enterWeighing_fixed (s : State) (l : LaneId) (why : LaneReason) : (s.enterWeighing l why).fixed = s.fixed := by
  unfold State.enterWeighing; simp
@[simp] theorem State.closingTest_fixed (s : State) (l : LaneId) : (s.closingTest l).fixed = s.fixed := by
  unfold State.closingTest; (repeat' split) <;> simp
@[simp] theorem State.beginClosing_fixed (s : State) (l : LaneId) : (s.beginClosing l).fixed = s.fixed := by
  unfold State.beginClosing; simp
@[simp] theorem State.enteringTest_fixed (s : State) (l : LaneId) : (s.enteringTest l).fixed = s.fixed := by
  unfold State.enteringTest; (repeat' split) <;> simp
@[simp] theorem State.leavingTest_fixed (s : State) (l : LaneId) : (s.leavingTest l).fixed = s.fixed := by
  unfold State.leavingTest; (repeat' split) <;> simp
@[simp] theorem State.enterLeaving_fixed (s : State) (l : LaneId) : (s.enterLeaving l).fixed = s.fixed := by
  unfold State.enterLeaving; simp
@[simp] theorem State.releasingTest_fixed (s : State) (l : LaneId) : (s.releasingTest l).fixed = s.fixed := by
  unfold State.releasingTest; (repeat' split) <;> simp
@[simp] theorem State.cancelEntry_fixed (s : State) (l : LaneId) (r : LaneRecord) : (s.cancelEntry l r).fixed = s.fixed := by
  unfold State.cancelEntry; simp
@[simp] theorem State.deckFaultTest_fixed (s : State) (l : LaneId) : (s.deckFaultTest l).fixed = s.fixed := by
  unfold State.deckFaultTest; (repeat' split) <;> simp
@[simp] theorem State.deckSeen_fixed (s : State) (l : LaneId) : (s.deckSeen l).fixed = s.fixed := by
  unfold State.deckSeen; (repeat' split) <;> simp
@[simp] theorem State.deckTold_fixed (s : State) (d : DeckId) : (s.deckTold d).fixed = s.fixed := by
  unfold State.deckTold; simp [fixed_forEach]
@[simp] theorem State.awaitDeck_fixed (s : State) (l : LaneId) (why : LaneReason) (read : Option IdentRead) : (s.awaitDeck l why read).fixed = s.fixed := by
  unfold State.awaitDeck; dsimp only; (repeat' split) <;> simp
@[simp] theorem State.reserveAndWait_fixed (s : State) (l : LaneId) (v : Vehicle) (why : LaneReason) (read : Option IdentRead) : (s.reserveAndWait l v why read).fixed = s.fixed := by
  have h : (s.reserveVisit l v).2.fixed = s.fixed := by unfold State.reserveVisit; (repeat' split) <;> rfl
  unfold State.reserveAndWait; (repeat' split) <;> simp_all
@[simp] theorem State.yardCheck_fixed (s : State) (l : LaneId) (why : LaneReason) (read : Option IdentRead) : (s.yardCheck l why read).fixed = s.fixed := by
  unfold State.yardCheck; dsimp only; (repeat' split) <;> simp
@[simp] theorem State.settlePending_fixed (s : State) (l : LaneId) (takes : Vehicle → CategoryNo → Bool) : (s.settlePending l takes).fixed = s.fixed := by
  unfold State.settlePending; dsimp only; (repeat' split) <;> simp
@[simp] theorem State.makeDecision_fixed (s : State) (l : LaneId) (t : Text) (account : Option Nat) (category : Option CategoryNo) (why : LaneReason) (read : Option IdentRead) : (s.makeDecision l t account category why read).fixed = s.fixed := by
  unfold State.makeDecision; dsimp only; (repeat' split) <;> simp
@[simp] theorem State.presenceArrives_fixed (s : State) (l : LaneId) (r : LaneRecord) : (s.presenceArrives l r).fixed = s.fixed := by
  unfold State.presenceArrives; dsimp only; (repeat' split) <;> simp
@[simp] theorem State.presenceDeparts_fixed (s : State) (l : LaneId) : (s.presenceDeparts l).fixed = s.fixed := by
  unfold State.presenceDeparts; dsimp only; (repeat' split) <;> simp
@[simp] theorem State.noteFaultChange_fixed (s : State) (l : LaneId) (n : StationId) (before : Option Bool) (now : Bool) (toFault toReady : StationNotice) : (s.noteFaultChange l n before now toFault toReady).fixed = s.fixed := by
  unfold State.noteFaultChange; (repeat' split) <;> simp
@[simp] theorem State.terminalCode_fixed (s : State) (n : StationId) (before : Option Code) (c : Code) : (s.terminalCode n before c).fixed = s.fixed := by
  unfold State.terminalCode; dsimp only; (repeat' split) <;> simp
@[simp] theorem State.readerCode_fixed (s : State) (n : StationId) (before : Option Code) (c : Code) : (s.readerCode n before c).fixed = s.fixed := by
  unfold State.readerCode; (repeat' split) <;> simp
@[simp] theorem State.laneEdge_fixed (s : State) (l : LaneId) (role : BarrierRole) (edge : Edge) : (s.laneEdge l role edge).fixed = s.fixed := by
  unfold State.laneEdge; (repeat' split) <;> simp
@[simp] theorem State.routeEdge_fixed (s : State) (n : StationId) (edge : Edge) : (s.routeEdge n edge).fixed = s.fixed := by
  unfold State.routeEdge; (repeat' split) <;> simp
@[simp] theorem State.positionTold_fixed (s : State) (l : LaneId) : (s.positionTold l).fixed = s.fixed := by
  unfold State.positionTold; (repeat' split) <;> simp
@[simp] theorem State.recoveryLowers_fixed (s : State) (n : StationId) : (s.recoveryLowers n).fixed = s.fixed := by
  unfold State.recoveryLowers; exact fixed_forEach _ _ (fun p t => by split <;> simp) s
@[simp] theorem State.tellLanes_fixed (s : State) (n : StationId) : (s.tellLanes n).fixed = s.fixed := by
  unfold State.tellLanes; simp [fixed_forEach]
@[simp] theorem State.barrierMoved_fixed (s : State) (n : StationId) (b : BarrierRecord) (p : Position) (loop : ArmLoop) : (s.barrierMoved n b p loop).fixed = s.fixed := by
  unfold State.barrierMoved; dsimp only; (repeat' split) <;> simp
@[simp] theorem State.laneFault_fixed (s : State) (l : LaneId) (cause : FaultCause) : (s.laneFault l cause).fixed = s.fixed := by
  unfold State.laneFault; (repeat' split) <;> simp
@[simp] theorem State.faultLanes_fixed (s : State) (n : StationId) (cause : FaultCause) : (s.faultLanes n cause).fixed = s.fixed := by
  unfold State.faultLanes; simp [fixed_forEach]
@[simp] theorem State.barrierStops_fixed (s : State) (n : StationId) (b : BarrierRecord) (st : BarrierState) (why : BarrierReason) (cause : FaultCause) : (s.barrierStops n b st why cause).fixed = s.fixed := by
  unfold State.barrierStops; simp
@[simp] theorem State.barrierCode_fixed (s : State) (n : StationId) (c : Code) : (s.barrierCode n c).fixed = s.fixed := by
  unfold State.barrierCode; (repeat' split) <;> simp
@[simp] theorem State.motionExpires_fixed (s : State) (n : StationId) : (s.motionExpires n).fixed = s.fixed := by
  unfold State.motionExpires; (repeat' split) <;> simp
@[simp] theorem State.lanesSeeEnrolled_fixed (s : State) (n : StationId) : (s.lanesSeeEnrolled n).fixed = s.fixed := by
  unfold State.lanesSeeEnrolled; simp [fixed_forEach]
@[simp] theorem State.presenceLost_fixed (s : State) (n : StationId) : (s.presenceLost n).fixed = s.fixed := by
  unfold State.presenceLost; (repeat' split) <;> simp
@[simp] theorem State.lanesSeeLost_fixed (s : State) (n : StationId) : (s.lanesSeeLost n).fixed = s.fixed := by
  unfold State.lanesSeeLost; simp [fixed_forEach]
@[simp] theorem State.identArrives_fixed (s : State) (n : StationId) (x : IdentRead) : (s.identArrives n x).fixed = s.fixed := by
  unfold State.identArrives; dsimp only; (repeat' split) <;> simp
@[simp] theorem State.categoryKey_fixed (s : State) (l : LaneId) (k : CategoryNo) : (s.categoryKey l k).fixed = s.fixed := by
  unfold State.categoryKey; dsimp only; (repeat' split) <;> simp
@[simp] theorem State.keyArrives_fixed (s : State) (n : StationId) (x : KeyEntry) : (s.keyArrives n x).fixed = s.fixed := by
  unfold State.keyArrives; (repeat' split) <;> simp
@[simp] theorem State.identWaitEnds_fixed (s : State) (l : LaneId) : (s.identWaitEnds l).fixed = s.fixed := by
  unfold State.identWaitEnds; (repeat' split) <;> simp
@[simp] theorem State.referralEnds_fixed (s : State) (l : LaneId) : (s.referralEnds l).fixed = s.fixed := by
  unfold State.referralEnds; (repeat' split) <;> simp
@[simp] theorem State.entryEnds_fixed (s : State) (l : LaneId) : (s.entryEnds l).fixed = s.fixed := by
  unfold State.entryEnds; (repeat' split) <;> simp
@[simp] theorem State.weighEnds_fixed (s : State) (l : LaneId) : (s.weighEnds l).fixed = s.fixed := by
  unfold State.weighEnds; (repeat' split) <;> simp
@[simp] theorem State.closeLane_fixed (s : State) (l : LaneId) (r : LaneRecord) : (s.closeLane l r).fixed = s.fixed := by
  unfold State.closeLane; dsimp only; (repeat' split) <;> simp
@[simp] theorem State.overrideVehicle_fixed (s : State) (l : LaneId) (account : Option Nat) (category : Option CategoryNo) : (s.overrideVehicle l account category).fixed = s.fixed := by
  unfold State.overrideVehicle; simp
@[simp] theorem State.admitGoesOn_fixed (s : State) (l : LaneId) (r : LaneRecord) (v : AdmitLoad) (reason : ReferralReason) : (s.admitGoesOn l r v reason).fixed = s.fixed := by
  unfold State.admitGoesOn; dsimp only; (repeat' split) <;> simp
@[simp] theorem State.resumeCapture_fixed (s : State) (l : LaneId) (r : LaneRecord) (steps : List CaptureStep) : (s.resumeCapture l r steps).fixed = s.fixed := by
  unfold State.resumeCapture; (repeat' split) <;> simp
@[simp] theorem State.releaseEntry_fixed (s : State) (l : LaneId) : (s.releaseEntry l).fixed = s.fixed := by
  unfold State.releaseEntry; simp
@[simp] theorem State.releaseUnweighed_fixed (s : State) (l : LaneId) : (s.releaseUnweighed l).fixed = s.fixed := by
  unfold State.releaseUnweighed; simp
@[simp] theorem State.resetLanesYard_fixed (s : State) : (s.resetLanesYard).fixed = s.fixed := by
  unfold State.resetLanesYard; dsimp only; simp [fixed_forEach]

/-! ## Smc -/

@[simp] theorem State.receiveFrame_fixed (s : State) (n : StationId) (fields : Option UnitFields) : (s.receiveFrame n fields).fixed = s.fixed := by
  unfold State.receiveFrame; dsimp only; (repeat' split) <;> simp
@[simp] theorem State.receiveEnds_fixed (s : State) (n : StationId) : (s.receiveEnds n).fixed = s.fixed := by
  unfold State.receiveEnds; (repeat' split) <;> simp
@[simp] theorem State.updateSend_fixed (s : State) (n : StationId) (f : SendChannel → SendChannel) : (s.updateSend n f).fixed = s.fixed := by
  unfold State.updateSend; simp
@[simp] theorem State.sendStarts_fixed (s : State) (n : StationId) : (s.sendStarts n).fixed = s.fixed := by
  unfold State.sendStarts; dsimp only; (repeat' split) <;> simp
@[simp] theorem State.attemptFails_fixed (s : State) (n : StationId) : (s.attemptFails n).fixed = s.fixed := by
  have h : ∀ (t : State) (m : MessageSource), (t.sourceFailed n m).fixed = t.fixed := by
    intro t m; unfold State.sourceFailed; split <;> simp
  unfold State.attemptFails; (repeat' split) <;> simp [h]
@[simp] theorem State.unitMatched_fixed (s : State) (n : StationId) : (s.unitMatched n).fixed = s.fixed := by
  have h : ∀ (t : State) (m : MessageSource), (t.sourceDelivered n m).fixed = t.fixed := by
    intro t m; unfold State.sourceDelivered; split <;> simp
  unfold State.unitMatched; (repeat' split) <;> simp [h]
@[simp] theorem State.sendFrame_fixed (s : State) (n : StationId) (answer : Option Answer) : (s.sendFrame n answer).fixed = s.fixed := by
  unfold State.sendFrame; dsimp only; (repeat' split) <;> simp
@[simp] theorem State.unitTimerEnds_fixed (s : State) (n : StationId) : (s.unitTimerEnds n).fixed = s.fixed := by
  unfold State.unitTimerEnds; (repeat' split) <;> simp
@[simp] theorem State.gapEnds_fixed (s : State) (n : StationId) : (s.gapEnds n).fixed = s.fixed := by
  unfold State.gapEnds; (repeat' split) <;> simp
@[simp] theorem State.judgeCode_fixed (s : State) (n : StationId) (c : Code) : (s.judgeCode n c).fixed = s.fixed := by
  unfold State.judgeCode; (repeat' split) <;> simp
@[simp] theorem State.handOn_fixed (s : State) (n : StationId) (before : Option Code) (c : Code) : (s.handOn n before c).fixed = s.fixed := by
  unfold State.handOn; (repeat' split) <;> simp
@[simp] theorem State.handOnEnrolled_fixed (s : State) (n : StationId) : (s.handOnEnrolled n).fixed = s.fixed := by
  unfold State.handOnEnrolled; (repeat' split) <;> simp
@[simp] theorem State.handOnGained_fixed (s : State) (n : StationId) : (s.handOnGained n).fixed = s.fixed := by
  unfold State.handOnGained; (repeat' split) <;> simp
@[simp] theorem State.barrierLost_fixed (s : State) (n : StationId) : (s.barrierLost n).fixed = s.fixed := by
  unfold State.barrierLost; (repeat' split) <;> simp
@[simp] theorem State.deckLost_fixed (s : State) (n : StationId) : (s.deckLost n).fixed = s.fixed := by
  unfold State.deckLost; (repeat' split) <;> simp
@[simp] theorem State.dropForward_fixed (s : State) (n : StationId) : (s.dropForward n).fixed = s.fixed := by
  unfold State.dropForward; (repeat' split) <;> simp
@[simp] theorem State.enrolledLost_fixed (s : State) (n : StationId) (restarted : Bool) : (s.enrolledLost n restarted).fixed = s.fixed := by
  unfold State.enrolledLost; dsimp only; simp
@[simp] theorem State.stationSilent_fixed (s : State) (n : StationId) : (s.stationSilent n).fixed = s.fixed := by
  unfold State.stationSilent; (repeat' split) <;> simp
@[simp] theorem State.stationAlive_fixed (s : State) (n : StationId) : (s.stationAlive n).fixed = s.fixed := by
  unfold State.stationAlive; (repeat' split) <;> simp
@[simp] theorem State.attemptFailed_fixed (s : State) (n : StationId) : (s.attemptFailed n).fixed = s.fixed := by
  unfold State.attemptFailed; dsimp only; (repeat' split) <;> simp
@[simp] theorem State.windowEnds_fixed (s : State) (n : StationId) : (s.windowEnds n).fixed = s.fixed := by
  unfold State.windowEnds; (repeat' split) <;> simp
@[simp] theorem State.enrols_fixed (s : State) (n : StationId) (kind : StationKind) (revision : Nat) (serial : Text) : (s.enrols n kind revision serial).fixed = s.fixed := by
  unfold State.enrols; dsimp only; (repeat' split) <;> simp
@[simp] theorem State.mismatches_fixed (s : State) (n : StationId) (kind : StationKind) : (s.mismatches n kind).fixed = s.fixed := by
  unfold State.mismatches; simp
@[simp] theorem State.attemptComplete_fixed (s : State) (n : StationId) : (s.attemptComplete n).fixed = s.fixed := by
  unfold State.attemptComplete; dsimp only; (repeat' split) <;> simp
@[simp] theorem State.storePage_fixed (s : State) (n : StationId) (p : EnrolPage) : (s.storePage n p).fixed = s.fixed := by
  unfold State.storePage; dsimp only; (repeat' split) <;> simp
@[simp] theorem State.breakAndStore_fixed (s : State) (n : StationId) (p : EnrolPage) : (s.breakAndStore n p).fixed = s.fixed := by
  unfold State.breakAndStore; dsimp only; (repeat' split) <;> simp
@[simp] theorem State.stationRestarts_fixed (s : State) (n : StationId) (p : EnrolPage) : (s.stationRestarts n p).fixed = s.fixed := by
  unfold State.stationRestarts; simp
@[simp] theorem State.pageArrives_fixed (s : State) (n : StationId) (p : EnrolPage) : (s.pageArrives n p).fixed = s.fixed := by
  unfold State.pageArrives; dsimp only; (repeat' split) <;> simp
@[simp] theorem State.roleChanged_fixed (s : State) (n : StationId) : (s.roleChanged n).fixed = s.fixed := by
  unfold State.roleChanged; (repeat' split) <;> simp
@[simp] theorem State.takeMessage_fixed (s : State) (n : StationId) : (s.takeMessage n).fixed = s.fixed := by
  unfold State.takeMessage; simp
@[simp] theorem State.malformedPage_fixed (s : State) (n : StationId) : (s.malformedPage n).fixed = s.fixed := by
  unfold State.malformedPage; (repeat' split) <;> simp
@[simp] theorem State.clearStation_fixed (s : State) (n : StationId) (threshold : Option Nat) : (s.clearStation n threshold).fixed = s.fixed := by
  unfold State.clearStation; dsimp only; (repeat' split) <;> simp

/-! ## Tables -/

@[simp] theorem fixed_reportRoles (before : State) (s : State) : (reportRoles before s).fixed = s.fixed := by
  unfold reportRoles; exact fixed_forEach _ _ (fun n t => by split <;> simp) s
@[simp] theorem State.syncBarriers_fixed (s : State) : (s.syncBarriers).fixed = s.fixed := by
  unfold State.syncBarriers; exact fixed_forEach _ _ (fun n t => by (repeat' split) <;> simp) s
@[simp] theorem fixed_clearLostRoles (before : State) (s : State) : (clearLostRoles before s).fixed = s.fixed := by
  unfold clearLostRoles; exact fixed_forEach _ _ (fun n t => by split <;> simp) s
@[simp] theorem fixed_handOnGains (before : State) (s : State) : (handOnGains before s).fixed = s.fixed := by
  unfold handOnGains; exact fixed_forEach _ _ (fun n t => by split <;> simp) s
@[simp] theorem fixed_settleRoles (before : State) (s : State) : (settleRoles before s).fixed = s.fixed := by
  unfold settleRoles; simp
@[simp] theorem State.changeTerminal_fixed (s : State) (l : LaneId) (r : LaneRecord) : (s.changeTerminal l r).fixed = s.fixed := by
  unfold State.changeTerminal; (repeat' split) <;> simp
@[simp] theorem State.setDeckRecord_fixed (s : State) (d : DeckId) (r : DeckRecord) : (s.setDeckRecord d r).fixed = s.fixed := by
  unfold State.setDeckRecord; simp
@[simp] theorem State.storeDeck_fixed (s : State) (d : DeckId) (r : DeckRecord) : (s.storeDeck d r).fixed = s.fixed := by
  unfold State.storeDeck; dsimp only; simp

/-! ## Loop -/

@[simp] theorem State.slotAlive_fixed (s : State) (n : StationId) : (s.slotAlive n).fixed = s.fixed := by
  unfold State.slotAlive; (repeat' split) <;> simp
@[simp] theorem State.slotSilent_fixed (s : State) (n : StationId) : (s.slotSilent n).fixed = s.fixed := by
  unfold State.slotSilent; (repeat' split) <;> simp
@[simp] theorem State.takeCode_fixed (s : State) (n : StationId) (c : Code) : (s.takeCode n c).fixed = s.fixed := by
  unfold State.takeCode; dsimp only; (repeat' split) <;> simp
@[simp] theorem State.handGroup_fixed (s : State) (n : StationId) (g : Option SampleGroup) : (s.handGroup n g).fixed = s.fixed := by
  unfold State.handGroup; (repeat' split) <;> simp
@[simp] theorem State.goodSlot_fixed (s : State) (n : StationId) (r : UpRecord) : (s.goodSlot n r).fixed = s.fixed := by
  unfold State.goodSlot; dsimp only; simp
@[simp] theorem State.badSlot_fixed (s : State) (n : StationId) : (s.badSlot n).fixed = s.fixed := by
  unfold State.badSlot; dsimp only; simp
@[simp] theorem State.judgedSlot_fixed (s : State) (n : StationId) (o : SlotOutcome) : (s.judgedSlot n o).fixed = s.fixed := by
  unfold State.judgedSlot; dsimp only; (repeat' split) <;> simp
@[simp] theorem State.upstreamSlot_fixed (s : State) (n : StationId) (arrived : List Byte) : (s.upstreamSlot n arrived).fixed = s.fixed := by
  unfold State.upstreamSlot; (repeat' split) <;> simp
@[simp] theorem State.accountSlot_fixed (s : State) (n : StationId) : (s.accountSlot n).fixed = s.fixed := by
  unfold State.accountSlot; dsimp only; (repeat' split) <;> simp
@[simp] theorem State.judgePeriod_fixed (s : State) (n : StationId) : (s.judgePeriod n).fixed = s.fixed := by
  unfold State.judgePeriod; dsimp only; (repeat' split) <;> simp
@[simp] theorem State.restAttempt_fixed (s : State) (d : DeckId) : (s.restAttempt d).fixed = s.fixed := by
  unfold State.restAttempt; (repeat' split) <;> simp
@[simp] theorem State.missSlots_fixed (s : State) : (s.missSlots).fixed = s.fixed := by
  unfold State.missSlots; split
  · rfl
  · exact fixed_forEach _ _ (fun n t => by split <;> simp) s
@[simp] theorem State.stationDue_fixed (s : State) (n : StationId) : (s.stationDue n).fixed = s.fixed := by
  unfold State.stationDue; simp
@[simp] theorem State.laneDue_fixed (s : State) (l : LaneId) : (s.laneDue l).fixed = s.fixed := by
  unfold State.laneDue; simp

end Sys2Proof.Machine
end

