-- ==== Sys2Proof/Laws/Ops.lean ====
section
/-! SUPPORT. What each shared operation can do, said once: numbers that name a member, posting, serving a request, delivering a message, lists worked through in turn. -/

namespace Sys2Proof.Machine

/-! ## Numbers and counts -/

/-- The number of a member names it. -/
@[simp] theorem oneBased_succ (n : Nat) (x : Fin n) : oneBased n (x.val + 1) = some x := by
  unfold oneBased
  rw [dif_pos ⟨Nat.le_add_left _ _, x.isLt⟩]
  rfl

/-- A number outside the table names nothing. -/
theorem oneBased_none {n k : Nat} (h : k = 0 ∨ n < k) : oneBased n k = none := by
  unfold oneBased
  rw [dif_neg (by omega)]

/-- A number that names a member is that member's number. -/
theorem oneBased_some {n k : Nat} {x : Fin n} (h : oneBased n k = some x) : k = x.val + 1 := by
  unfold oneBased at h
  split at h
  · cases h; simp only; omega
  · cases h

@[simp] theorem laneOf_succ (l : LaneId) : laneOf (l.val + 1) = some l := oneBased_succ 4 l
@[simp] theorem deckOf_succ (d : DeckId) : deckOf (d.val + 1) = some d := oneBased_succ 4 d
@[simp] theorem stationOf_succ (n : StationId) : stationOf (n.val + 1) = some n := oneBased_succ 24 n
@[simp] theorem categoryOf_succ (c : CategoryNo) : categoryOf (c.val + 1) = some c := oneBased_succ 16 c
theorem laneOf_none {k : Nat} (h : k = 0 ∨ 4 < k) : laneOf k = none := oneBased_none h
theorem deckOf_none {k : Nat} (h : k = 0 ∨ 4 < k) : deckOf k = none := oneBased_none h
theorem stationOf_none {k : Nat} (h : k = 0 ∨ 24 < k) : stationOf k = none := oneBased_none h
theorem categoryOf_none {k : Nat} (h : k = 0 ∨ 16 < k) : categoryOf k = none := oneBased_none h

/-- A saturating count stays at or below its top. -/
theorem countUp_le (top n : Nat) : countUp top n ≤ top := Nat.min_le_left _ _

/-- A set that grows holds the new member and the old ones, and nothing else. -/
theorem mem_insertNew {α : Type} [DecidableEq α] (x y : α) (xs : List α) : y ∈ insertNew x xs ↔ y = x ∨ y ∈ xs := by
  unfold insertNew
  split
  · rename_i h
    exact ⟨Or.inr, fun k => k.elim (fun e => e ▸ h) id⟩
  · simp [or_comm]

/-! ## Lists worked through in turn -/

@[simp] theorem forEach_nil {α : Type} (f : α → State → State) (s : State) : forEach [] f s = s := rfl
@[simp] theorem forEach_cons {α : Type} (x : α) (xs : List α) (f : α → State → State) (s : State) :
    forEach (x :: xs) f s = forEach xs f (f x s) := rfl
theorem forEach_append {α : Type} (xs ys : List α) (f : α → State → State) (s : State) :
    forEach (xs ++ ys) f s = forEach ys f (forEach xs f s) := List.foldl_append

/-- A property that each change keeps is kept by all of them in turn. -/
theorem forEach_keeps {α : Type} (P : State → Prop) (xs : List α) (f : α → State → State)
    (h : ∀ x ∈ xs, ∀ t, P t → P (f x t)) (s : State) (hs : P s) : P (forEach xs f s) := by
  induction xs generalizing s with
  | nil => exact hs
  | cons x xs ih =>
    exact ih (fun y hy => h y (List.mem_cons_of_mem _ hy)) (f x s) (h x List.mem_cons_self s hs)

/-- Changes that leave the state alone leave it alone in turn. -/
theorem forEach_id {α : Type} (xs : List α) (f : α → State → State) (s : State) (h : ∀ x ∈ xs, f x s = s) :
    forEach xs f s = s := by
  induction xs with
  | nil => rfl
  | cons x xs ih =>
    rw [forEach_cons, h x List.mem_cons_self]
    exact ih fun y hy => h y (List.mem_cons_of_mem _ hy)

/-! ## Reports -/

/-- A report that finds room joins the queue (R185). -/
theorem State.post_room {s : State} (h : s.RoomForReport) (b : ReportBody) : s.post b = s.reported b := if_pos h

/-- A report that finds no room is counted as dropped (R185). -/
theorem State.post_full {s : State} (h : 32 ≤ s.reports.length) (b : ReportBody) :
    s.post b = { s with dropped := min 255 (s.dropped + 1), overrun := true } := if_neg (by simpa using h)

/-- Everything a posted report can do: it joins the queue, or it raises the dropped count and sets the note (R185). -/
theorem State.post_cases (s : State) (b : ReportBody) :
    (s.reports.length < 32 ∧ s.post b = s.reported b)
      ∨ (32 ≤ s.reports.length ∧ s.post b = { s with dropped := min 255 (s.dropped + 1), overrun := true }) := by
  rcases Nat.lt_or_ge s.reports.length 32 with h | h
  · exact .inl ⟨h, State.post_room h b⟩
  · exact .inr ⟨h, State.post_full h b⟩

/-! ## Requests -/

/-- The owner of a number serves the head request of that number. -/
theorem State.serve_head {s : State} {k : Nat} {h : Request} {rest : List Request} (hd : s.HasHead k h rest)
    (f : State → State × Reply) : s.serve k f = (f s).1.giveReply (f s).2 := by
  obtain ⟨hb, hk, hr, hn, hd⟩ := hd
  have : s.owes k = true := by simp [State.owes, State.resetsTaken, hb, hk, hr, hn, hd]
  simp [State.serve, this]

/-- A request that is not at the head, or that waits behind a yard reset still to be taken, is not served (log entries 4
and 54). -/
theorem State.serve_other {s : State} {k : Nat} (h : s.owes k = false) (f : State → State × Reply) : s.serve k f = s := by
  simp [State.serve, h]

/-- A reply given on a state that kept the buffer. -/
theorem State.giveReply_kept {s t : State} {h : Request} {rest : List Request} (hb : s.buffer = h :: rest)
    (ht : t.buffer = s.buffer) (y : Reply) : t.giveReply y = t.replied h rest y.code y.data := by
  unfold State.giveReply State.replied
  rw [ht, hb]

/-- A served request is answered on the state its handling leaves, when the handling keeps the buffer. -/
theorem State.serve_replied {s : State} {k : Nat} {h : Request} {rest : List Request} (hd : s.HasHead k h rest)
    {f : State → State × Reply} (hf : (f s).1.buffer = s.buffer) :
    s.serve k f = (f s).1.replied h rest (f s).2.code (f s).2.data := by
  rw [State.serve_head hd, State.giveReply_kept hd.1 hf]

@[simp] theorem withBody_misfit {α : Type} (f : α → State → State × Reply) (s : State) :
    withBody .misfit f s = (s, { code := .bad, data := .none }) := rfl
@[simp] theorem withBody_fits {α : Type} (a : α) (f : α → State → State × Reply) (s : State) :
    withBody (.fits a) f s = f a s := rfl
@[simp] theorem refuse_eq (s : State) (c : ReplyCode) : refuse s c = (s, { code := c, data := .none }) := rfl
@[simp] theorem accept_eq (s : State) (d : ReplyData) : accept s d = (s, { code := .ok, data := d }) := rfl

/-- With no yard reset handed over, the blocks take none (R189). -/
theorem State.takeResets_clear {s : State} (h : s.resetsDue = .clear) : s.takeResets = s := by
  have hd : ∀ d : DeckId, s.resetsDue.decks[d] = false := by
    intro d; rw [h]; simp [ResetsDue.clear]
  have h1 : ∀ d : DeckId, s.deckYardReset d = s := fun d => by
    have h := hd d
    simp_all [State.deckYardReset]
  simp [State.takeResets, allDecks, h1, State.laneYardReset, State.visitYardReset, State.barrierYardReset,
    State.ticketYardReset, h, ResetsDue.clear]

/-! ## Send channels -/

@[simp] theorem SendChannel.begins_shows (c : SendChannel) (m : DownMessage) (k : Nat) (b : Bool) :
    (c.begins m k b).shows = { mark := .first, parity := false, unit := m.kind } := rfl
@[simp] theorem SendChannel.quiet_shows (c : SendChannel) :
    c.quiet.shows = { mark := .none, parity := false, unit := 0 } := rfl
@[simp] theorem SendChannel.idled_shows (c : SendChannel) :
    c.idled.shows = { mark := .none, parity := false, unit := 0 } := rfl
@[simp] theorem SendChannel.begins_inSending (c : SendChannel) (m : DownMessage) (k : Nat) (b : Bool) :
    (c.begins m k b).inSending = some { msg := m, unit := 0, attempt := k } := rfl
@[simp] theorem SendChannel.quiet_inSending (c : SendChannel) : c.quiet.inSending = none := rfl
@[simp] theorem SendChannel.idled_inSending (c : SendChannel) : c.idled.inSending = none := rfl

/-- The send channel of a station after it is changed. -/
@[simp] theorem State.updateSend_send (s : State) (n : StationId) (f : SendChannel → SendChannel) :
    ((s.updateSend n f).station n).send = f (s.station n).send := by
  simp [State.updateSend, State.updateStation]

/-! ## Messages -/

/-- The oldest complete message of a kind is handed to its owner when its body reads. -/
theorem State.deliver_read {α : Type} {s : State} {n : StationId} {m : UpMessage} {rest : List UpMessage}
    (hm : s.HasMessage n m rest) {b : Body α} {w : α → Bool} {a : α} (hb : b.read w = some a)
    (bad : State → State) (f : α → State → State) :
    s.deliver n m.kind b w bad f = f a (s.messagesLeft n rest) := by
  have hn : (s.station n).nextIs m.kind = true := by simp [Station.nextIs, show (s.station n).complete = _ from hm]
  simp [State.deliver, hn, hb, State.takeMessage, State.updateStation, State.messagesLeft,
    show (s.station n).complete = _ from hm]

/-- A body that does not read is discarded with BAD-MESSAGE (R168). -/
theorem State.deliver_bad {α : Type} {s : State} {n : StationId} {m : UpMessage} {rest : List UpMessage}
    (hm : s.HasMessage n m rest) {b : Body α} {w : α → Bool} (hb : b.read w = none)
    (bad : State → State) (f : α → State → State) :
    s.deliver n m.kind b w bad f = bad ((s.messagesLeft n rest).post (.badMessageKind n m.kind)) := by
  have hn : (s.station n).nextIs m.kind = true := by simp [Station.nextIs, show (s.station n).complete = _ from hm]
  simp [State.deliver, hn, hb, State.takeMessage, State.updateStation, State.messagesLeft,
    show (s.station n).complete = _ from hm]

/-- A message of another kind stays where it is (log entry 4). -/
theorem State.deliver_other {α : Type} {s : State} {n : StationId} {m : UpMessage} {rest : List UpMessage}
    (hm : s.HasMessage n m rest) {k : UpKind} (hk : m.kind ≠ k) (b : Body α) (w : α → Bool)
    (bad : State → State) (f : α → State → State) : s.deliver n k b w bad f = s := by
  have hn : (s.station n).nextIs k = false := by simp [Station.nextIs, show (s.station n).complete = _ from hm, hk]
  simp [State.deliver, hn]

/-! ## Roles -/

/-- A lane whose record names a barrier is one of the lanes of that barrier. -/
theorem State.barrierLanes_ne_nil {s : State} {n : StationId} (h : (s.lanesWhere fun r => r.namesBarrier n) ≠ []) :
    s.barrierLanes n ≠ [] := by
  obtain ⟨l, hl⟩ := List.exists_mem_of_ne_nil _ h
  simp only [State.lanesWhere, List.mem_filter, Option.any_eq_true] at hl
  obtain ⟨hall, r, hr, hn⟩ := hl
  simp only [LaneRecord.namesBarrier, Bool.or_eq_true] at hn
  unfold State.barrierLanes
  by_cases he : r.entryBarrier == n
  · exact List.ne_nil_of_mem (List.mem_filterMap.mpr ⟨l, hall, by simp only [hr]; exact if_pos he⟩)
  · exact List.ne_nil_of_mem (List.mem_filterMap.mpr ⟨l, hall, by
      simp only [hr]; exact (if_neg he).trans (if_pos (hn.resolve_left he))⟩)

/-- A lane of a filtered list has a record that meets the test. -/
theorem State.lanesWhere_record {s : State} {p : LaneRecord → Bool} {l : LaneId} (h : l ∈ s.lanesWhere p) :
    ∃ r, s.laneRecord l = some r := by
  simp only [State.lanesWhere, List.mem_filter, Option.any_eq_true] at h
  obtain ⟨-, r, hr, -⟩ := h
  exact ⟨r, hr⟩

/-- A barrier that no lane record names has no lanes. -/
theorem State.barrierLanes_eq_nil {s : State} {n : StationId} (h : (s.lanesWhere fun r => r.namesBarrier n) = []) :
    s.barrierLanes n = [] := by
  simp only [State.lanesWhere, List.filter_eq_nil_iff, Option.any_eq_true] at h
  refine List.filterMap_eq_nil_iff.mpr fun l hl => ?_
  cases hr : s.laneRecord l with
  | none => rfl
  | some r =>
    have hn : ¬ r.namesBarrier n = true := fun hn => h l hl ⟨r, hr, hn⟩
    simp only [LaneRecord.namesBarrier, Bool.or_eq_true, not_or] at hn
    simp [hn.1, hn.2]

/-- No row of R51 names a station exactly when it has no role. -/
theorem State.rolePlaces_eq_nil_iff (s : State) (n : StationId) : s.rolePlaces n = [] ↔ s.role n = none := by
  unfold State.rolePlaces State.role State.deckOfDigitizer State.laneOfReader State.laneOfTerminal
  by_cases hd : (allDecks.filter fun d => (s.deck d).record.any fun r => r.digitizer == n) = []
  · by_cases hb : (s.lanesWhere fun r => r.namesBarrier n) = []
    · have hn : s.barrierLanes n = [] := State.barrierLanes_eq_nil hb
      by_cases hr : (s.lanesWhere fun r => r.reader == some n) = []
      · cases ht : s.lanesWhere fun r => r.terminal == n with
        | nil => simp [hd, hb, hn, hr]
        | cons l ls =>
          obtain ⟨r, hx⟩ := State.lanesWhere_record (ht ▸ List.mem_cons_self)
          simp [hd, hb, hr, hx]
      · obtain ⟨l, ls, h⟩ := List.exists_cons_of_ne_nil hr
        simp [hd, hb, h]
    · simp [hd, hb, State.barrierLanes_ne_nil hb]
  · obtain ⟨d, ds, h⟩ := List.exists_cons_of_ne_nil hd
    simp [h]

/-- A station that gains a role has one afterwards. -/
theorem role_of_gainsRole {before after : State} {n : StationId} (h : gainsRole before after n = true) : after.role n ≠ none := by
  intro hn
  rw [gainsRole, (after.rolePlaces_eq_nil_iff n).mpr hn] at h
  cases h

/-- A station that had no role and has one gains it. -/
theorem gainsRole_of_role {before after : State} {n : StationId} (hb : before.role n = none) (ha : after.role n ≠ none) :
    gainsRole before after n = true := by
  obtain ⟨p, ps, h⟩ := List.exists_cons_of_ne_nil (mt (after.rolePlaces_eq_nil_iff n).mp ha)
  simp [gainsRole, h, (before.rolePlaces_eq_nil_iff n).mpr hb]

end Sys2Proof.Machine
end

