-- ==== Sys2Proof/WellFormed.lean ====
section
/-! DEFINITION. The commands that can be sent: sizes of what arrives on the two lines, and sets that hold each member once. -/

namespace Sys2Proof

open Machine

/-- Bytes that fit the place of an upstream slot: the preamble and a record of at most 18 bytes (R156). -/
def slotBytesFit (arrived : List Byte) : Bool := arrived.length ≤ 19

/-- Bytes of at most one office frame: L + 5 with L up to 1,026 (R159). -/
def officeBytesFit (bytes : List Byte) : Bool := bytes.length ≤ 1031

/-- A list that stands for a set holds each member at most once (00_scope.md, section 6). -/
def isSet (xs : List Nat) : Bool := decide xs.Nodup

/-- A signed 24-bit count of the format (R55). -/
def countFits (z : Int) : Bool := -8388608 ≤ z && z ≤ 8388607

/-- The corner zero counts of a deck load are signed 24-bit values (R55). -/
def deckLoadFits (v : DeckLoadRequest) : Bool :=
  countFits v.record.zeros.c1 && countFits v.record.zeros.c2 && countFits v.record.zeros.c3 && countFits v.record.zeros.c4

/-- The fields of a body meet a test; a body that does not hold its fields meets any. -/
def Machine.Body.fitsWith {α : Type} (b : Body α) (p : α → Bool) : Bool :=
  match b with
  | .fits a => p a
  | .misfit => true

/-- A command that can be sent to the block. -/
def Instr.wellFormed : Instr → Bool
  | .upstreamSlot _ arrived => slotBytesFit arrived
  | .officeFrame bytes => officeBytesFit bytes
  | .loadVehicle b => b.fitsWith fun v => isSet v.permitted
  | .groupOrder b => b.fitsWith fun v => isSet v.stations
  | .loadDeck b => b.fitsWith deckLoadFits
  | .powerOnReset _ _ | .downstreamFrame | .clockSecond | .slotAlive _ | .slotSilent _ | .superframeEnd | .periodEnd
  | .transitSpanEnd _ | .readingStream _ | .zeroFail _ | .trackingStep _ | .wakingComplete _ | .restAttempt _
  | .identWaitExpiry _ | .referralTimeout _ | .entryTimeout _ | .weighTimeout _ | .identRead _ _ | .deckGrant _
  | .keyEntry _ _ | .storedTareUpdate | .motionTimeout _ | .receiveStale _ | .stationNote _ _ | .sendStart _
  | .unitTimerExpiry _ | .gapEnd _ | .enrolPage _ _ | .enrolWindowExpiry _ | .printOutcome _ _ | .outcomeWaitExpiry _
  | .officeByteGap | .unknownRequest | .transmitStart | .officeFrameSent | .dropVehicle _ | .readVehicle _
  | .loadCategory _ | .loadLane _ | .enableLane _ | .disableLane _ | .resumeLane _ | .admitLane _ | .refuseLane _
  | .releaseLane _ | .retryLane _ | .zeroDeck _ | .restDeck _ | .wakeDeck _ | .streamDeck _ | .readDeck _
  | .setTicketBase _ | .readVisit _ | .nextClosed | .clearVisit _ | .forceClose _ | .barrierOrder _
  | .setBarrierMode _ | .releaseStaged _ | .readStation _ | .forward _ | .setClock _ | .identify | .yardReset
  | .deckYardReset _ | .laneYardReset | .visitYardReset | .barrierYardReset | .ticketYardReset => true

end Sys2Proof
end

