-- ==== Sys2Proof/Tests/Slice0.lean ====
section
/-! SUPPORT. Tests: ill-formed commands refused by the checks, the worked cases and sequences of the manual, hand-worked checks, and for every statement of the certificates a state and operands that meet its hypotheses. -/

namespace Sys2Proof.Tests

-- One test after another: many kernel evaluations at once would each hold a thread of the checker.
set_option Elab.async false

open Sys2Proof Sys2Proof.Machine

/-! ## Well-formed commands: one ill-formed term for each check -/

theorem test_slot_bytes_refused : (Instr.upstreamSlot 0 (List.replicate 20 0)).wellFormed = false := by decide
theorem test_slot_bytes_fit : (Instr.upstreamSlot 0 (List.replicate 19 0)).wellFormed = true := by decide
theorem test_office_bytes_refused : (Instr.officeFrame (List.replicate 1032 0)).wellFormed = false := by decide +kernel
theorem test_permitted_set_refused :
    (Instr.loadVehicle (.fits ⟨[], none, none, none, none, none, none, [3, 3], none⟩)).wellFormed = false := by decide
theorem test_station_set_refused : (Instr.groupOrder (.fits { stations := [5, 6, 5], order := .hold })).wellFormed = false := by
  decide

/-! ## The sample yard: deck A with a crosswise pair of lanes (3.7, 4.9) -/

/-- The deck record of the worked case 1.5, its zero quantities of 2.9. -/
def deckRecord : DeckRecord :=
  { digitizer := 0, zeros := ⟨200400, 198700, 205300, 190000⟩, factors := ⟨65536, 65536, 66191, 64881⟩, scale := 7680,
    division := 20, capacity := 60000, refZero := 46000, nominalWindow := 32, transitWindow := 4, settleCount := 50,
    motionBand := 4, occupancyThreshold := 50, transitSpan := 250, restIdleTime := 120, zeroTracking := true }

/-- The same deck as its LOAD-DECK gives it. -/
def deckLoad : DeckLoad :=
  { digitizer := 1, zeros := ⟨200400, 198700, 205300, 190000⟩, factors := ⟨65536, 65536, 66191, 64881⟩, scale := 7680,
    division := 20, capacity := 60000, refZero := 46000, nominalWindow := none, transitWindow := some 4, settleCount := none,
    motionBand := none, occupancyThreshold := none, transitSpan := none, restIdleTime := none, zeroTracking := none }

theorem test_deck_corner_count_refused :
    (Instr.loadDeck (.fits { deck := 1, record := { deckLoad with zeros := ⟨8388608, 0, 0, 0⟩ } })).wellFormed = false := by
  decide

def laneLoad : LaneLoad :=
  { direction := some .inward, deck := 1, entryBarrier := 5, exitBarrier := 6, terminal := 9, reader := some 13,
    unknownPolicy := some .refer, cashCategory := none, referralTimeout := none, tareTolerance := none, motionLimit := none }

def lane1 : LaneRecord :=
  { direction := .inward, deck := 0, entryBarrier := 4, exitBarrier := 5, terminal := 8, reader := some 12,
    unknownPolicy := .refer, cashCategory := none, referralTimeout := 120, tareTolerance := 5, motionLimit := 6 }

def lane2 : LaneRecord :=
  { lane1 with direction := .outward, entryBarrier := 5, exitBarrier := 4, terminal := 9, reader := some 13 }

/-- A barrier of the pair standing DOWN under LOWER. -/
def barrierDown : BarrierRecord :=
  { newBarrier 6 with commanded := .lower, position := .down, told := .down, loop := some .clear, state := .down }

/-- A deck standing ACTIVE, EMPTY and STABLE at zero. -/
def activeDeck : DeckEngine :=
  { DeckEngine.reset 0 with
    state := .active, record := some deckRecord, zeros := some { refZero := 46000, captured := 46200, tracked := 46200 },
    ring := List.replicate 32 { mass := 46200, gap := 0 }, stable := 50, judged := .stable, value := some 0,
    restIdle := some 0,
    reading := { deck := 0, state := .stable, value := some 0, sample := 9, profile := .nominal, degraded := false,
                 zeroLimit := false, stamp := none } }

def station (k : StationKind) (st : StationState) : Station :=
  { Station.reset with
    state := st, kind := some k,
    abilities := { reducedRate := k == .digitizer, off := k == .digitizer, cardReader := k == .terminal, keypad := k == .terminal } }

/-- The yard of 4.9 with both lanes IDLE and its vehicle RC-4471. -/
def yard : State :=
  { State.reset with
    decks := State.reset.decks.set 0 activeDeck
    laneTable := #v[some lane1, some lane2, none, none]
    lanes := #v[{ LaneContext.reset with state := .idle }, { LaneContext.reset with state := .idle }, LaneContext.reset, LaneContext.reset]
    barriers := (State.reset.barriers.set 4 (some barrierDown)).set 5 (some barrierDown)
    stations := ((((((State.reset.stations.set 0 (station .digitizer .enrolled)).set 4 (station .barrierDrive .enrolled)).set 5
      (station .barrierDrive .enrolled)).set 8 (station .terminal .enrolled)).set 9 (station .terminal .enrolled)).set 12
      (station .identReader .enrolled)).set 13 (station .identReader .enrolled)
    categories := State.reset.categories.set 2 { code := some "C3".toList, enabled := true, inspect := false }
    vehicles := [{ ident := "RC-4471".toList, account := 20418, status := .admits, tarePolicy := .weighEach, storedTare := none,
                   tareStamp := none, maxGross := none, permitted := [2, 6], defaultCategory := 2 }]
    counter := .valid 1000402
    clock := { set := true, seconds := 812400000, frames := 0 } }

/-- The vehicle of the yard as a lane holds it. -/
def vehicle : Vehicle :=
  { ident := "RC-4471".toList, account := 20418, tarePolicy := .weighEach, storedTare := none, maxGross := none,
    permitted := [2, 6], category := some 2, cash := false }

/-- What a next state shows. -/
def shows {α : Type} (o : Host.Outcome State Fault Refusal) (f : State → α) : Option α :=
  match o with
  | .next s => some (f s)
  | _ => none

/-- A request of a number at the head of the buffer. -/
def head (k : Nat) : Request := { kind := .request, tag := 7, body := [BitVec.ofNat 8 k], reply := none }
def asked (k : Nat) (s : State) : State := { s with buffer := [head k], resetsDue := .clear }
theorem asked_head (k : Nat) (s : State) : (asked k s).HasHead k (head k) [] := ⟨rfl, rfl, rfl, rfl, rfl⟩

/-- The reply given to the head request. -/
def code (s : State) : Option ReplyCode := (s.buffer.head?.bind Request.reply).map Reply.code

/-- A complete message of a kind from a station. -/
def sent (n : StationId) (k : UpKind) (s : State) : State :=
  s.setStation n { s.station n with complete := [{ kind := k, body := [] }] }
theorem sent_message (n : StationId) (k : UpKind) (s : State) :
    (sent n k s).HasMessage n { kind := k, body := [] } [] := by
  simp [sent, State.HasMessage]

/-- The yard with one lane's context, deck, station or slot changed. -/
def withLane (l : LaneId) (f : LaneContext → LaneContext) (s : State) : State := s.updateLane l f
def inState (l : LaneId) (st : LaneState) (why : Option ReferralReason) (s : State) : State :=
  s.updateLane l fun c => { c with state := st, reason := why }

/-! ## Chapter 1: the worked case (1.5) and the gap run (1.6) -/

theorem test_corner_counts :
    cornerCount 1205300 205300 66191 = 1009995 ∧ cornerCount 1190100 190000 64881 = 990104 := by decide +kernel

theorem test_raw_mass : rawMass deckRecord ⟨1210400, 1198750, 1205300, 1190100⟩ = 30076118 := by decide +kernel

/-- The engine of 1.5 before the group. -/
def case15 : DeckEngine :=
  { activeDeck with
    zeros := some { refZero := 46000, captured := 46118, tracked := 46118 }, profile := .transit, span := 9, stable := 49,
    occupancy := .occupied, last := some 6,
    ring := [⟨30076618, 0⟩, ⟨30077118, 0⟩, ⟨30075118, 0⟩, ⟨30075118, 0⟩, ⟨30075118, 0⟩] }

/-- The group of 1.5. -/
def group15 : SampleGroup :=
  { sequence := 7, counts := ⟨1210400, 1198750, 1205300, 1190100⟩, saturated := ⟨false, false, false, false⟩ }

theorem test_worked_case :
    let a := case15.accepted deckRecord group15 0
    a.judged = .stable ∧ a.value = some 30040000 ∧ a.stable = 50 ∧ a.occupancy = .occupied ∧ a.span = 8 := by decide +kernel

/-- The second case of 1.5: an empty deck settles at −30,000 g. -/
theorem test_half_rounds_away :
    let e := { case15 with ring := List.replicate 5 { mass := 16118, gap := 0 }, stable := 50 }
    e.judge deckRecord = (.stable, some (-40000)) := by decide +kernel

theorem test_sequence_wrap :
    sequenceCheck (some 254) 255 = some 0 ∧ sequenceCheck (some 255) 255 = none ∧ sequenceCheck (some 255) 2 = some 2 := by
  decide

/-- Group 19 of 1.6: its gap of 3 and the 2 of group 13 set the latch, and the reading is INVALID. -/
theorem test_gap_latch :
    let e := { activeDeck with ring := ([⟨0, 0⟩, ⟨0, 0⟩, ⟨0, 2⟩] : List RingEntry) ++ List.replicate 32 (RingEntry.mk 0 0), last := some 15, stable := 2 }
    let r := { deckRecord with nominalWindow := 8 }
    let a := e.accepted r { group15 with sequence := 19 } 3
    a.gapLatch = true ∧ a.judged = .invalid ∧ a.stable = 0 := by decide +kernel

/-! ## Chapter 2: tracking up to the bound (2.10), a capture that fails (2.9) -/

/-- The deck of 2.10 at its 125th qualifying group, its window at a filtered mass. -/
def deck210 (tracked filtered : Int) : DeckEngine :=
  { activeDeck with
    record := some { deckRecord with division := 1, capacity := 1000 },
    zeros := some { refZero := 0, captured := 12000, tracked := tracked },
    ring := List.replicate 32 { mass := tracked + filtered, gap := 0 }, trackingCount := 125 }

theorem test_tracking_inside :
    shows (exec (.trackingStep 0) (yard.setDeck 0 (deck210 31850 140)))
      (fun t => ((t.deck 0).zeros.map Zeros.tracked, (t.deck 0).zeroLimit)) = some (some 31990, false) := by decide +kernel

theorem test_tracking_bound :
    shows (exec (.trackingStep 0) (yard.setDeck 0 (deck210 31990 310)))
      (fun t => ((t.deck 0).zeros.map Zeros.tracked, (t.deck 0).zeroLimit, t.reports.length)) = some (some 32000, true, 1) := by
  decide +kernel

theorem test_zero_fail :
    shows (exec (.zeroFail 0) (yard.setDeck 0 { activeDeck with state := .capturing, captureCount := 1250 }))
      (fun t => ((t.deck 0).state, (t.slot 0).command, (t.deck 0).reading.state)) = some (.fault, .off, .invalid) := by
  decide +kernel

theorem test_cold_rest :
    shows (exec (.restAttempt 0) (yard.setDeck 0 { activeDeck with restIdle := some 120000 }))
      (fun t => ((t.deck 0).state, (t.slot 0).command)) = some (.coldRest, .off) := by decide +kernel

/-! ## Chapter 3: the loads of 3.7 -/

/-- The yard of 3.7 before its first step: terminal 10 without CARD-READER. -/
def bareYard : State :=
  { State.reset with
    stations := ((State.reset.stations.set 8 (station .terminal .enrolled)).set 9
      { station .terminal .enrolled with
        abilities := { reducedRate := false, off := false, cardReader := false, keypad := true } }).set 12 (station .identReader .enrolled) }

theorem test_load_deck_waits :
    shows (exec (.loadDeck (.fits { deck := 1, record := { deckLoad with nominalWindow := some 8, transitWindow := some 16, settleCount := some 0, transitSpan := some 3000 } })) (asked 13 bareYard))
      (fun t => (code t, (t.deck 0).state,
        ((t.deck 0).record.map fun r => [r.transitWindow, r.settleCount, r.transitSpan, r.motionBand, r.occupancyThreshold])))
      = some (some .ok, .waiting, some [8, 1, 2000, 4, 50]) := by decide +kernel

theorem test_load_lane :
    shows (exec (.loadLane (.fits { lane := 1, record := laneLoad })) (asked 5 bareYard))
      (fun t => (code t, t.barrierLanes 4, t.barrierLanes 5, (t.barrier 4).isSome)) = some (some .ok, [(0, .entry)], [(0, .exit)], true) := by
  decide +kernel

/-- Step 3 of 3.7: two lanes would share a deck without crossed barriers. -/
theorem test_load_lane_not_crosswise :
    shows (exec (.loadLane (.fits { lane := 2, record := { laneLoad with direction := some .outward, terminal := 10, reader := some 14 } }))
      (asked 5 (bareYard.setLaneRecord 0 (some lane1)))) code = some (some .bad) := by decide +kernel

/-- Step 4 of 3.7: no ident source. -/
theorem test_load_lane_no_ident_source :
    shows (exec (.loadLane (.fits { lane := 2, record := { laneLoad with direction := some .outward, entryBarrier := 6, exitBarrier := 5, terminal := 10, reader := none } }))
      (asked 5 (bareYard.setLaneRecord 0 (some lane1)))) code = some (some .bad) := by decide +kernel

/-! ## Chapter 4: the first pass of 4.9 -/

/-- Steps 2 and 3: the read is admitted, the deck granted at once and barrier 5 asked to RAISE. -/
theorem test_ident_read :
    shows (exec (.identRead 12 (.fits { ident := "RC-4471".toList, source := .tag, quality := 90 })) (sent 12 .identRead (inState 0 .identify none yard)))
      (fun t => ((t.lane 0).state, (t.arbiter 0).holder, (t.slot 4).command, (t.slot 8).command, t.visits.map Visit.state))
      = some (.entering, some 0, .raise, .showDriveOn, [.reserved]) := by decide +kernel

/-- A vehicle of the lane over its deck, its visit RESERVED. -/
def onDeck (st : LaneState) : State :=
  { yard with
    lanes := yard.lanes.set 0 { LaneContext.reset with
      state := st, vehicle := some vehicle, passage := some .inbound, reservation := some 0, claim := .held, departSeen := true }
    arbiters := yard.arbiters.set 0 { holder := some 0, claims := [] }
    visits := [newVisit 0 0 vehicle], nextVisitKey := 1 }

/-- Step 10: the capture, its commit and the exit barrier. -/
theorem test_capture :
    shows (.next (((onDeck .weighing).setDeck 0 { activeDeck with occupancy := .occupied, reading := { activeDeck.reading with value := some 14620000 } }).tryCapture 0))
      (fun t => ((t.lane 0).state, (t.slot 5).command, t.visits.map fun v => (v.state, v.gross.map Weight.kg)))
      = some (.releasing, .raise, [(.open_, some 14620)]) := by decide +kernel

/-- Step 13: the exit barrier is DOWN, the hold is released and the waiting partner is granted the deck. -/
theorem test_leaving_grants_partner :
    shows (.next (((((onDeck .leaving).setLane 1 { LaneContext.reset with state := .awaitDeck, present := true, claim := .waiting }).setArbiter 0
      { holder := some 0, claims := [1] }).positionTold 0)))
      (fun t => ((t.lane 0).state, (t.lane 1).state, (t.arbiter 0).holder)) = some (.idle, .entering, some 1) := by decide +kernel

theorem test_disable_busy :
    shows (exec (.disableLane (.fits 1)) (asked 7 (onDeck .weighing))) code = some (some .busy) := by decide +kernel

theorem test_ident_wait :
    shows (exec (.identWaitExpiry 0) (withLane 0 (fun c => { c with timer := some { kind := .identWait, elapsed := 30000, limit := 30000 } }) (inState 0 .identify none yard)))
      (fun t => ((t.lane 0).state, (t.lane 0).reason, (t.slot 12).command, (t.lane 0).timer.map LaneTimer.limit))
      = some (.referred, some .noIdent, .disarm, some 120000) := by decide +kernel

/-! ## Chapter 5: the exit of FL-208 (5.11) -/

/-- The visit of FL-208 after its entry ticket was printed. -/
def visitFL : Visit :=
  { newVisit 0 0 { ident := "FL-208".toList, account := 40112, tarePolicy := .storedAuto, storedTare := some 9460, maxGross := some 32000, permitted := [4], category := some 4, cash := false } with
    state := .ticketed, gross := some { kg := 21380, deck := 0, sample := 41877, stamp := some 812400000, degraded := false },
    tare := some (.stored 9460), net := some 11920, ticketNo := some 1000301, outcome := some .printed }

/-- Lane 2 over deck A with FL-208 at an exit weight. -/
def exitYard (kg : Int) : State :=
  { yard with
    lanes := yard.lanes.set 1 { LaneContext.reset with state := .weighing, vehicle := some vehicle, passage := some .outbound, target := some 0, claim := .held }
    arbiters := yard.arbiters.set 0 { holder := some 1, claims := [] }
    visits := [visitFL], nextVisitKey := 1
    decks := yard.decks.set 0 { activeDeck with occupancy := .occupied, reading := { activeDeck.reading with value := some (kg * 1000), stamp := some 812402160 } } }

/-- Step 7: 260 kg from the stored tare, above the tolerance of 100 kg. -/
theorem test_tare_mismatch :
    shows (.next ((exitYard 9720).tryCapture 1)) (fun t => ((t.lane 1).state, (t.lane 1).reason, (t.arbiter 0).holder, t.visits.map Visit.state))
      = some (.referred, some .tareMismatch, some 1, [.ticketed]) := by decide +kernel

/-- Step 9: the release commits with tare check FAIL. -/
theorem test_tare_check_fail :
    shows (exec (.releaseLane (.fits 2)) (asked 11 ((exitYard 9720).tryCapture 1)))
      (fun t => t.visits.map fun v => (v.state, v.anomalies, v.exitWeight.map Weight.kg))
      = some [(.closed, [.tareCheckFail], some 9720)] := by decide +kernel

/-- The same exit, passing: the visit closes and a stored-tare update is asked for. -/
theorem test_tare_check_pass :
    shows (.next ((exitYard 9540).tryCapture 1)) (fun t => (t.visits.map fun v => (v.state, v.tareCheck), t.tareUpdates))
      = some ([(.closed, some true)], [{ ident := "FL-208".toList, kg := 9540, stamp := some 812402160 }]) := by decide +kernel

theorem test_clear_visit :
    shows (exec (.clearVisit (.fits (.ident "FL-208".toList))) (asked 22 { yard with visits := [{ visitFL with state := .closed }] }))
      (fun t => (code t, t.visits)) = some (some .ok, []) := by decide +kernel

theorem test_clear_ticketed_busy :
    shows (exec (.clearVisit (.fits (.ticket 1000301))) (asked 22 { yard with visits := [visitFL] })) code = some (some .busy) := by
  decide +kernel

/-! ## Chapter 6: an obstruction during lowering (6.8) -/

/-- Barrier 5 after step c. -/
def stepC : BarrierRecord :=
  { barrierDown with position := .up, state := .lowering, timer := some 0 }

/-- Steps d and e, f and g, h, i and j. -/
def stepE : BarrierRecord := (stepC.takes .falling .clear).takes .falling .occupied
def stepG : BarrierRecord := (stepE.takes .rising .occupied).takes .up .occupied
def stepH : BarrierRecord := stepG.takes .up .clear
def stepJ : BarrierRecord := (stepH.takes .falling .clear).takes .down .clear

theorem test_obstruction_reverses :
    stepE = { stepC with position := .falling, loop := some .occupied, commanded := .raise, state := .raising,
                         pendingLower := true, timer := some 0, obstructions := 1 } := by decide +kernel

theorem test_obstruction_up :
    stepG = { stepE with position := .up, state := .up, timer := none } := by decide +kernel

theorem test_obstruction_lowers_again :
    stepH = { stepG with loop := some .clear, commanded := .lower, state := .lowering, pendingLower := false, timer := some 0 }
      ∧ stepJ = { stepH with position := .down, state := .down, timer := none } := by decide +kernel

/-- The jammed arm: both lanes of the pair enter FAULT, lane 1 keeps its hold. -/
theorem test_motion_timeout :
    shows (exec (.motionTimeout 5) ((onDeck .leaving).setBarrier 5 (some { stepC with position := .falling, timer := some 6000 })))
      (fun t => ((t.barrier 5).map fun b => (b.state, b.commanded, b.faultPosition), (t.lane 0).state, (t.lane 1).state, (t.arbiter 0).holder))
      = some (some (.fault, .hold, some .falling), .fault, .fault, some 0) := by decide +kernel

/-- DOWN-CLEAR after MANUAL returns the barrier to service. -/
theorem test_return_to_service :
    let b := (stepC.stops .manual).takes .down .clear
    (b.commanded, b.state, b.faultPosition) = (.none, .down, none) := by decide

/-! ## Chapter 7: the stamp of 7.6 -/

/-- The OPEN visit of TP-3310. -/
def visitTP : Visit :=
  { newVisit 0 0 { vehicle with ident := "TP-3310".toList } with
    state := .open_, gross := some { kg := 18240, deck := 0, sample := 5, stamp := none, degraded := false } }

/-- Step 1: net 10,380 kg, number 1,000,402, the job at the head in WAITING. -/
theorem test_outbound_commit :
    shows (.next (State.commitOutboundOpen { yard with visits := [visitTP], nextVisitKey := 1 } 0
      { lane := 1, weight := { kg := 7860, deck := 0, sample := 6, stamp := none, degraded := false }, anomalies := [] }))
      (fun t => (t.visits.map fun v => (v.net, v.outcome, v.state), t.counter, (t.queue 1).jobs.map TicketJob.number))
      = some ([(some 10380, some .pending, .closing)], .valid 1000403, [1000402]) := by decide +kernel

/-- A job of the queue of lane 2. -/
def job (n : Nat) : TicketJob :=
  { number := n, lane := 1, terminal := 9, ident := "TP-3310".toList, account := 5, categoryCode := none, gross := 18240,
    grossStamp := none, tare := .stored 7860, net := 10380, anomalies := [], degraded := false, issueTime := none, visit := 0 }

/-- Lane 2 with two jobs, its head in a phase. -/
def queueYard (p : DeliveryPhase) : State :=
  { yard with
    queues := yard.queues.set 1 { jobs := [job 1000402, job 1000403], phase := p }
    visits := [{ visitTP with state := .closing, outcome := some .pending }], nextVisitKey := 1 }

/-- Step 3: paper-out holds the head job. -/
theorem test_paper_out :
    shows (exec (.printOutcome 9 (.fits { number := 1000402, outcome := .paperOut })) (sent 9 .printOutcome (queueYard (.awaitOutcome 3))))
      (fun t => ((t.queue 1).phase, t.visits.map Visit.state)) = some (.held, [.closing]) := by decide +kernel

/-- Step 8: PRINTED closes the visit, and the next job is the head in WAITING. -/
theorem test_printed :
    shows (exec (.printOutcome 9 (.fits { number := 1000402, outcome := .printed })) (sent 9 .printOutcome (queueYard (.awaitOutcome 3))))
      (fun t => ((t.queue 1).jobs.map TicketJob.number, (t.queue 1).phase, t.visits.map fun v => (v.state, v.outcome)))
      = some ([1000403], .waiting, [(.closed, some .printed)]) := by decide +kernel

/-- Step 11: 20 s with no outcome. -/
theorem test_outcome_wait :
    shows (exec (.outcomeWaitExpiry 1) (queueYard (.awaitOutcome 20000)))
      (fun t => t.visits.map fun v => (v.state, v.outcome)) = some [(.closed, some (.notPrinted .noOutcome))] := by decide +kernel

/-! ## Chapter 8: checks worked by hand from R141 and R159, a record from R155, the runs of 8.7 -/

/-- The register of ones meets eight ones: each bit shifted out equals the data bit, so no pattern is added. -/
theorem test_slot_check : slotCheck [] = 0xFF ∧ slotCheck [0xFF] = 0x00 ∧ slotCheck [0xFF, 0x01] = 0x07 := by decide

theorem test_office_check : officeCheck [0xFF, 0xFF] = 0x0000 ∧ officeCheck [0xFF, 0xFF, 0x01] = 0x1021 := by decide +kernel

/-- Station 5 under RAISE with its echo flag set: 0001 1 00 0, no unit, slot number 5. -/
theorem test_downstream_record :
    (downstreamRecord 4 .raise true { mark := .none, parity := false, unit := 0 } .none).take 3 = [0x18, 0x00, 0x05] := by decide

/-- Station 5 shows RISING-CLEAR: the bytes of R156 with the check of R141 over 0x40, 0x00, 0x05. -/
def risingClear : List Byte := [0x6C, 0x40, 0x00, 0x05, slotCheck [0x40, 0x00, 0x05]]

/-- Slot 5 of the frame in hand. -/
def slotYard (f : Nat) (x : LoopSlot → LoopSlot) (s : State) : State :=
  State.updateSlot { s with frameInHand := some f } 4 fun y => x { y with awaited := true, alive := true, goodRun := 3 }

/-- 40/1 and 40/4 of 8.7: one frame is not enough, the pair is taken and handed on. -/
theorem test_pair_taken :
    shows (exec (.upstreamSlot 4 risingClear) (slotYard 1 (fun y => { y with taken := some 0, lastCode := some 0 }) yard))
        (fun t => ((t.slot 4).taken, (t.barrier 4).map BarrierRecord.position)) = some (some 0, some .down)
      ∧ shows (exec (.upstreamSlot 4 risingClear) (slotYard 4 (fun y => { y with taken := some 0, lastCode := some 4 }) yard))
        (fun t => ((t.slot 4).taken, (t.barrier 4).map BarrierRecord.position)) = some (some 4, some .rising) := by decide +kernel

/-- 41/6 of 8.7: the sixth missing slot; the station is LOST, the barrier UNKNOWN under NONE, both lanes in FAULT. -/
theorem test_slot_lost :
    shows (exec (.upstreamSlot 4 []) (slotYard 6 (fun y => { y with badRun := 5, goodRun := 0, taken := some 2 }) yard))
      (fun t => ((t.slot 4).alive, (t.slot 4).command, (t.barrier 4).map BarrierRecord.position, (t.lane 0).state, (t.lane 1).state))
      = some (false, .none, some .unknown, .fault, .fault) := by decide +kernel

/-- The end of superframe 41 of 8.7: errored at both ends, counted once. -/
theorem test_superframe_end :
    let y : LoopSlot := { LoopSlot.reset with near := 4, far := 0, periodErrors := 13, aliveAtStart := true, nearHit := true, farHit := true }
    (y.accounted.near, y.accounted.far, y.accounted.periodErrors, y.accounted.echo, y.degrades) = (5, 1, 14, true, false) := by decide

/-! ## Chapter 9: the abandoned page of 9.8, and two sides of a message -/

/-- The base page of 9.8, announcing two pages. -/
def basePage : EnrolPage :=
  .base .terminal { reducedRate := false, off := false, cardReader := true, keypad := true } 7 2 true

/-- Station 11 with stored pages. -/
def enrolling (ps : List EnrolPage) : State :=
  State.setStation (yard.setStation 9 (station .terminal .lost)) 10 { station .terminal .enrolling with pages := ps, kind := none }

/-- Page 1 again with its toggle is a duplicate; page 2 completes the attempt with the serial YT03-318-A. -/
theorem test_enrolment :
    let ps := [basePage, .next 1 "YT03-318".toList false]
    shows (exec (.enrolPage 10 (.fits (.next 1 "YT03-318".toList false))) (sent 10 .enrolPage (enrolling ps)))
        (fun t => ((t.station 10).state, (t.station 10).pages)) = some (.enrolling, ps)
      ∧ shows (exec (.enrolPage 10 (.fits (.next 2 "-A".toList true))) (sent 10 .enrolPage (enrolling ps)))
        (fun t => ((t.station 10).state, (t.station 10).serial, (t.station 10).send.waiting))
        = some (.enrolled, some "YT03-318-A".toList, some .accepted) := by decide +kernel

/-- A channel in the middle of a message, stale since 64 frames. -/
theorem test_receive_stale :
    shows (exec (.receiveStale 8) (yard.setStation 8 { station .terminal .enrolled with
      receive := { phase := .receiving { kind := .identRead, length := some 4, body := [1] }, answer := .taken0, candidate := none, lastTaken := some (.next, false), stale := 64 } }))
      (fun t => ((t.station 8).receive.phase, (t.station 8).receive.answer)) = some (.idle, .none) := by decide +kernel

/-! ## Chapter 10: the burst of 10.8 -/

/-- Step 3: the buffer is full, so the request joins the refusal list. -/
theorem test_burst_refused :
    let s := { yard with buffer := List.replicate 4 (head 18) }
    shows (.next (s.arrive .request 14 [24, 5, 0])) (fun t => (t.buffer.length, t.refusals)) = some (4, [{ tag := 14, name := .number 24 }]) := by
  decide +kernel

/-- Steps 7 and 9: refusals go first on a free line. -/
theorem test_transmit_order :
    let s := { yard with buffer := [{ head 18 with reply := some (.plain .ok) }], refusals := [{ tag := 14, name := .number 24 }] }
    shows (exec .transmitStart s) State.line = some (some (.refusal 14 (.number 24)))
      ∧ shows (exec .transmitStart { s with refusals := [] }) State.line = some (some (.reply 7 (.number 18) (.plain .ok))) := by
  decide +kernel

/-- A REQUEST frame of a bare IDENTIFY, byte by byte from R159, arrives as one request. -/
theorem test_office_frame :
    let covered : List Byte := [0x00, 0x03, 0x51, 0x0A, 0x1F]
    let c := officeCheck covered
    shows (exec (.officeFrame ([0xC3] ++ covered ++ [c.extractLsb' 8 8, c.extractLsb' 0 8])) State.reset) State.buffer
      = some [{ kind := .request, tag := 0x0A, body := [0x1F], reply := none }] := by decide +kernel

theorem test_clock_second :
    shows (exec .clockSecond { yard with clock := { set := true, seconds := 4294967295, frames := 1000 } }) State.clock
      = some { set := true, seconds := 0, frames := 0 } := by decide +kernel

/-! ## Witnesses: for each statement with hypotheses, a state and operands that meet them, at the ends of their ranges -/

/-- A request of a number at the head of the buffer, in a state that meets a condition. -/
abbrev Meets (k : Nat) (s : State) (p : State → Prop) : Prop := (asked k s).HasHead k (head k) [] ∧ p (asked k s)
theorem meets {k : Nat} {s : State} {p : State → Prop} (h : p (asked k s)) : Meets k s p := ⟨asked_head k s, h⟩

/-- A complete message at a station, in a state that meets a condition. -/
abbrev Holds (n : StationId) (k : UpKind) (s : State) (p : State → Prop) : Prop :=
  (sent n k s).HasMessage n { kind := k, body := [] } [] ∧ p (sent n k s)
theorem holds {n : StationId} {k : UpKind} {s : State} {p : State → Prop} (h : p (sent n k s)) : Holds n k s p :=
  ⟨sent_message n k s, h⟩

theorem next_of_shows {o : Host.Outcome State Fault Refusal} (h : (shows o fun _ => ()) = some ()) : ∃ t, o = .next t := by
  cases o with
  | next s => exact ⟨s, rfl⟩
  | fault f => simp [shows] at h
  | refused r => simp [shows] at h

theorem witness_StepRunsFrontCommand :
    ({ State.reset with pending := [.clockSecond, .identify] } : State).pending = [.clockSecond, .identify]
      ∧ State.reset.pending = [] := ⟨rfl, rfl⟩

/-- The state after reset and, past the first superframe, the frames 6 and 7 at a clock 999 frames into its second. -/
theorem witness_DownstreamFrame :
    State.reset.NothingDue
      ∧ ({ State.reset with nextFrame := 7, frameInHand := some 6, clock := { set := true, seconds := 5, frames := 999 } } : State).NothingDue := by
  have ba : ∀ n, State.reset.barrier n = none := by decide +kernel
  have la : ∀ l, (∀ k, (State.reset.lane l).timedOut k = false) ∧ (State.reset.queue l).waitOver = false := fun l =>
    ⟨fun k => by cases k <;> revert l <;> decide +kernel, by revert l; decide +kernel⟩
  refine ⟨⟨rfl, .inl rfl, rfl, rfl, by decide, rfl, fun n => ?_, la, by decide +kernel⟩,
    ⟨rfl, .inr (by decide +kernel), rfl, rfl, by decide, rfl, fun n => ?_, la, by decide +kernel⟩⟩
  · exact ⟨by revert n; decide +kernel, by revert n; decide +kernel, by revert n; decide +kernel,
      by revert n; decide +kernel, fun b h => by simp [ba] at h, by revert n; decide +kernel⟩
  · exact ⟨by revert n; decide +kernel, by revert n; decide +kernel, by revert n; decide +kernel,
      by revert n; decide +kernel, fun b h => by change State.reset.barrier n = _ at h; simp [ba] at h, by revert n; decide +kernel⟩

theorem witness_FrameLayout : State.reset.nextFrame < 8 ∧ ({ State.reset with nextFrame := 7 } : State).nextFrame < 8 := by decide

/-- A record with a group of the widest counts in frame 0, and one of mark NONE in frame 7. -/
def groupRecord : UpRecord :=
  { code := 9, echo := true, unit := { mark := .next, parity := true, unit := 0xFF }, answer := .abort,
    group := some { sequence := 255, counts := ⟨-8388608, 8388607, 0, -1⟩, saturated := ⟨true, false, false, true⟩ } }
def bareRecord : UpRecord :=
  { code := 0, echo := false, unit := { mark := .none, parity := false, unit := 0 }, answer := .none, group := none }

theorem witness_UpstreamRecordReadBack :
    (groupRecord.group.isSome → 0 = 0) ∧ (groupRecord.unit.mark = .none → groupRecord.unit.parity = false ∧ groupRecord.unit.unit = 0)
      ∧ (∀ g ∈ groupRecord.group, g.sequence < 256 ∧ validCount g.counts.c1 = true ∧ validCount g.counts.c2 = true
        ∧ validCount g.counts.c3 = true ∧ validCount g.counts.c4 = true)
      ∧ (bareRecord.group.isSome → 7 = 0) ∧ (bareRecord.unit.mark = .none → bareRecord.unit.parity = false ∧ bareRecord.unit.unit = 0) := by
  decide +kernel

/-- Every line of the judgement: no preamble, four bytes, a group record cut short, a wrong check, a wrong number, mark 11,
a group outside frame 0, and a good record. -/
theorem witness_SlotJudged :
    [0x6D#8, 0x40, 0x00, 0x05, 0x00].head? ≠ some 0x6C#8 ∧ [0x6C#8, 0x40, 0x00, 0x05].length < 5
      ∧ (0x25#8).getLsbD 5 = true ∧ (0x40#8 :: 0x00 :: 0x25 :: List.replicate 14 (0#8)).length < 18
      ∧ [0x40#8, 0x00, 0x05, 0x00][3]? ≠ some (slotCheck [0x40, 0x00, 0x05])
      ∧ ((0x05#8).extractLsb' 0 5).toNat ≠ (5 : StationId).val + 1
      ∧ (0x46#8).extractLsb' 1 2 = 3#2
      ∧ ((0x25#8).getLsbD 5 = true ∧ 1 ≠ 0)
      ∧ [0x40#8, 0x00, 0x05, slotCheck [0x40, 0x00, 0x05]][3]? = some (slotCheck [0x40, 0x00, 0x05])
      ∧ ((0x05#8).extractLsb' 0 5).toNat = (4 : StationId).val + 1 := by
  decide +kernel

/-- A LOST and a SILENT station with a slot in hand, in frames 0 and 7: missing, bad and good, with the runs one short of the
change of presence. -/
def lostSlot (f : Nat) (y : LoopSlot → LoopSlot) : State :=
  State.updateSlot { yard with frameInHand := some f } 20 fun x => y { x with awaited := true }

theorem witness_UpstreamSlotCounted :
    (yard.slot 20).awaited = false
      ∧ (∀ f : Fin 8, let s := lostSlot f.val fun x => { x with alive := true, badRun := 4, goodRun := 0 }
        s.frameInHand = some f.val ∧ (s.slot 20).awaited = true ∧ (s.station 20).state = .silent
          ∧ judgeSlot 20 f.val [] = .missing ∧ judgeSlot 20 f.val [0x6C, 0x40, 0x00, 0x15, 0x00] = .bad ∧ (s.slot 20).badRun < 5)
      ∧ (∀ f : Fin 8, let s := (lostSlot f.val fun x => { x with goodRun := 1 }).updateStation 20 fun x => { x with state := .lost }
        s.frameInHand = some f.val ∧ (s.slot 20).awaited = true ∧ (s.station 20).state = .lost
          ∧ judgeSlot 20 f.val (bareRecord.bytes 20) = .good bareRecord ∧ bareRecord.group = none ∧ (s.slot 20).goodRun < 2)
      ∧ judgeSlot 20 0 (groupRecord.bytes 20) = .good groupRecord ∧ yard.deckOfDigitizer 20 = none := by
  refine ⟨?_, ?_, ?_, ?_⟩ <;> decide +kernel

/-- A station about to become ALIVE from SILENT and from LOST, and one about to become SILENT in each state. -/
def lossOf (st : StationState) (full : Nat) : State :=
  { (State.updateSlot yard 20 fun x => { x with alive := true, badRun := 6 }).updateStation 20 (fun x => { x with state := st }) with
    reports := List.replicate full { body := .degradeCleared 0, stamp := none } }

theorem witness_SlotPresenceChanges :
    (∀ st ∈ [StationState.silent, .lost],
        let s := (State.updateSlot yard 20 fun x => { x with goodRun := 3 }).updateStation 20 fun x => { x with state := st };
        (s.slot 20).alive = false ∧ (s.slot 20).goodRun = 3 ∧ (s.station 20).state = st)
      ∧ (∀ st ∈ [StationState.alive, .enrolling, .rejected, .enrolled],
        ((lossOf st 31).slot 20).alive = true ∧ ((lossOf st 31).slot 20).badRun = 6 ∧ ((lossOf st 31).station 20).state = st)
      ∧ ((lossOf .enrolled 31).role 20 = none ∧ (lossOf .enrolled 31).barrier 20 = none
        ∧ ((lossOf .enrolled 31).station 20).forward = none ∧ (lossOf .enrolled 31).RoomForReport) := by
  refine ⟨?_, ?_, ?_⟩ <;> decide +kernel

/-- The end of the last superframe of a period, one station rising to its threshold, and the end of the period. -/
def superframeOver : State :=
  { (State.updateSlot yard 4 fun x => { x with aliveAtStart := true, nearHit := true, periodErrors := 15, near := 255 }) with
    superframeDue := true, periodCount := 999, reports := List.replicate 31 { body := .degradeCleared 0, stamp := none } }

theorem witness_SuperframeAndPeriodEnd :
    superframeOver.superframeDue = true ∧ (∀ n, (superframeOver.slot n).awaited = false)
      ∧ superframeOver.reports.length + (allStations.filter fun n => n == (4 : StationId)).length ≤ 32
      ∧ ({ yard with periodDue := true } : State).periodDue = true := by
  refine ⟨?_, ?_, ?_, ?_⟩ <;> decide +kernel

theorem witness_YardClockKept :
    (let s : State := { yard with clock := { set := true, seconds := 4294967295, frames := 1000 } };
      s.clock.set = true ∧ 1000 ≤ s.clock.frames)
      ∧ State.reset.clock.set = false ∧ ({ yard with clock := { set := true, seconds := 0, frames := 999 } } : State).clock.frames < 1000
      ∧ Meets 29 yard (fun _ => 4294967295 ≤ 4294967295) ∧ Meets 29 yard (fun _ => 4294967295 < 4294967296) := by
  refine ⟨?_, ?_, ?_, meets ?_, meets ?_⟩ <;> decide +kernel

/-! ### Decks -/

theorem witness_RawMass :
    validCount (-8388608) = true ∧ validCount 8388607 = true ∧ 32768 ≤ 32768 ∧ 32768 ≤ 131072 ∧ 131072 ≤ 131072
      ∧ (Corners.mk (-8388608) 8388607 (-8388608) 8388607).all validCount = true
      ∧ ({ deckRecord with zeros := ⟨8388607, -8388608, 8388607, -8388608⟩, factors := ⟨32768, 131072, 131072, 65536⟩ } : DeckRecord).zeros.all validCount = true
      ∧ (Corners.mk 32768 131072 131072 65536).all (inRange 32768 131072) = true := by
  decide

theorem witness_JudgedState : 0 < deckRecord.division ∧ 0 < deckRecord.nominalWindow ∧ 0 < deckRecord.transitWindow := by decide

theorem witness_SampleGroupAccepted :
    ({ group15 with saturated := ⟨false, false, false, true⟩ } : SampleGroup).isSaturated = true ∧ group15.isSaturated = false ∧ (1 ≠ 0)
      ∧ (0 < 256 ∧ 255 < 256)
      ∧ (yard.deck 0).record = some deckRecord
      ∧ (∀ st ∈ [DeckState.waiting, .coldRest, .fault], let s := yard.setDeck 0 { activeDeck with state := st };
        (s.deck 0).record = some deckRecord ∧ (s.deck 0).state = st)
      ∧ (yard.updateSlot 0 fun x => { x with taken := some 9 }).excited 0 = true
      ∧ ((yard.setDeck 0 { activeDeck with last := some 7 }).deck 0).last = some group15.sequence := by
  refine ⟨?_, ?_, ?_, ?_, ?_, ?_, ?_, ?_⟩ <;> decide +kernel

theorem witness_DeckStateEntered :
    (yard.deck 0).record = some deckRecord
      ∧ ∀ st ∈ [DeckState.waiting, .capturing, .active, .waking, .warmRest, .coldRest, .fault], st ≠ .unconfigured := by
  decide +kernel

/-- A report queue with room for just one more. -/
def oneLeft (s : State) : State := { s with reports := List.replicate 31 { body := .degradeCleared 0, stamp := none } }

theorem witness_DeckEvents :
    (let s := yard.setDeck 0 { activeDeck with profile := .transit, span := 0 };
      (s.deck 0).record = some deckRecord ∧ (s.deck 0).profile = .transit ∧ (s.deck 0).span = 0)
      ∧ (let s := yard.setDeck 0 { activeDeck with state := .waking };
        (s.deck 0).state = .waking ∧ (s.deck 0).profile = .nominal ∧ deckRecord.nominalWindow = (s.deck 0).ring.length)
      ∧ (let s := yard.setDeck 0 { activeDeck with state := .waking, profile := .transit, ring := activeDeck.ring.take 4 };
        (s.deck 0).state = .waking ∧ (s.deck 0).profile = .transit ∧ deckRecord.transitWindow = (s.deck 0).ring.length)
      ∧ (let s := oneLeft (yard.setDeck 0 { activeDeck with state := .capturing, captureCount := 1250 });
        (s.deck 0).state = .capturing ∧ 1250 ≤ (s.deck 0).captureCount ∧ s.RoomForReport) := by
  refine ⟨?_, ?_, ?_, ?_⟩ <;> decide +kernel

theorem witness_ReadingsToOffice :
    (∀ k ∈ [1, 255], let s := oneLeft (yard.setDeck 3 { activeDeck with streamInterval := k, streamCount := k });
      (s.deck 3).state = .active ∧ (s.deck 3).streamInterval ≠ 0 ∧ (s.deck 3).streamInterval ≤ (s.deck 3).streamCount ∧ s.RoomForReport)
      ∧ Meets 17 yard (fun _ => 255 ≤ 255 ∧ 255 < 256 ∧ (0 = 0 ∨ 4 < 0) ∧ (5 = 0 ∨ 4 < 5))
      ∧ Meets 18 yard (fun _ => (0 = 0 ∨ 4 < 0) ∧ (5 = 0 ∨ 4 < 5)) := by
  refine ⟨?_, meets ?_, meets ?_⟩ <;> decide +kernel

/-- The deck of 2.10 at the bound, one gram above it and one below its other end. -/
theorem witness_TrackingStep :
    let r : DeckRecord := { deckRecord with division := 1, capacity := 1000 }
    let at_ (t f : Int) : State := oneLeft (yard.setDeck 0 (deck210 t f))
    let z (t : Int) : Zeros := { refZero := 0, captured := 12000, tracked := t }
    ((at_ 31990 10).deck 0).record = some r ∧ ((at_ 31990 10).deck 0).zeros = some (z 31990)
      ∧ 125 ≤ ((at_ 31990 10).deck 0).trackingCount
      ∧ ((31990 : Int) + max (-250) (min 250 (((at_ 31990 10).deck 0).filtered r)) - 12000).natAbs ≤ 20 * 1000
      ∧ 20 * 1000 < (31990 : Int) + max (-250) (min 250 (((at_ 31990 11).deck 0).filtered r)) - 12000
      ∧ (-7990 : Int) + max (-250) (min 250 (((at_ (-7990) (-11)).deck 0).filtered r)) - 12000 < -(20 * 1000)
      ∧ (at_ 31990 11).RoomForReport := by
  refine ⟨?_, ?_, ?_, ?_, ?_, ?_, ?_⟩ <;> decide +kernel

/-- The yard at the end of its rest idle time: cold with no visit, warm with one, none while the deck is held. -/
def restYard (vs : List Visit) (holder : Option LaneId) : State :=
  ({ yard with visits := vs }.setArbiter 0 { holder := holder, claims := [] }).setDeck 0 { activeDeck with restIdle := some 120000 }

theorem witness_RestAttempts :
    let warm := (restYard [visitTP] none).updateStation 0 fun x => { x with abilities := { x.abilities with reducedRate := true } }
    let cold := (restYard [] none).updateStation 0 fun x => { x with abilities := { x.abilities with off := true } }
    (warm.deck 0).record = some deckRecord ∧ (warm.deck 0).state = .active ∧ deckRecord.restIdleTime ≠ 0
      ∧ (warm.deck 0).restIdle = some 120000 ∧ deckRecord.restIdleTime * 1000 ≤ 120000
      ∧ warm.restOutcome 0 = some .warm ∧ cold.restOutcome 0 = some .cold ∧ (restYard [] (some 0)).restOutcome 0 = none
      ∧ Meets 15 warm (fun s => s.restOutcome 0 = some .warm) ∧ Meets 15 cold (fun s => s.restOutcome 0 = some .cold)
      ∧ Meets 15 (restYard [] (some 0)) (fun s => s.restOutcome 0 = none ∧ (s.deck 0).state = .active)
      ∧ Meets 15 yard (fun s => s.restOutcome 3 = none ∧ (s.deck 3).state ≠ .active ∧ (0 = 0 ∨ 4 < 0) ∧ (5 = 0 ∨ 4 < 5)) := by
  refine ⟨?_, ?_, ?_, ?_, ?_, ?_, ?_, ?_, meets ?_, meets ?_, meets ?_, meets ?_⟩ <;> decide +kernel

theorem witness_WakeDeck :
    (∀ st ∈ [DeckState.warmRest, .coldRest, .fault, .capturing, .waking, .active, .unconfigured, .waiting],
      Meets 16 (yard.setDeck 3 { activeDeck with state := st }) fun s => (s.deck 3).state = st)
      ∧ Meets 16 yard (fun _ => (0 = 0 ∨ 4 < 0) ∧ (5 = 0 ∨ 4 < 5)) := by
  refine ⟨?_, meets ?_⟩ <;> decide +kernel

/-- The newest average exactly 2 % of capacity from Zc, and one gram past it. -/
def zeroYard (away : Int) (st : ReadingState) : State :=
  yard.setDeck 0 { activeDeck with ring := List.replicate 32 { mass := 46200 + away, gap := 0 }, reading := { activeDeck.reading with state := st } }

theorem witness_ZeroDeck :
    Meets 14 (yard.setDeck 0 { activeDeck with state := .waking }) (fun s => (s.deck 0).state ≠ .active)
      ∧ Meets 14 (yard.setArbiter 0 { holder := some 3, claims := [] }) (fun s => (s.arbiter 0).holder ≠ none)
      ∧ (∀ st ∈ [ReadingState.motion, .stable], Meets 14 (zeroYard 1200000 st) fun s =>
        (s.deck 0).state = .active ∧ (s.arbiter 0).holder = none ∧ (s.deck 0).record = some deckRecord
          ∧ (s.deck 0).zeros = activeDeck.zeros ∧ (s.deck 0).reading.state = st)
      ∧ (roundDiv (((zeroYard 1200000 .stable).deck 0).ring.map RingEntry.mass).sum 32 - 46200).natAbs ≤ 20 * 60000
      ∧ 20 * 60000 < (roundDiv (((zeroYard 1200001 .stable).deck 0).ring.map RingEntry.mass).sum 32 - 46200).natAbs
      ∧ Meets 14 yard (fun _ => (0 = 0 ∨ 4 < 0) ∧ (5 = 0 ∨ 4 < 5)) := by
  refine ⟨meets ?_, meets ?_, ?_, ?_, ?_, meets ?_⟩ <;> decide +kernel

theorem witness_LoadDeck :
    Meets 13 yard (fun _ => deckOf 5 = none ∧ deckOf 0 = none ∧ deckRecordOf { deckLoad with division := 3 } = none)
      ∧ (∃ r, deckOf 1 = some 0 ∧ deckOf 4 = some 3 ∧ deckRecordOf deckLoad = some r
        ∧ Meets 13 (yard.setArbiter 0 { holder := some 0, claims := [] }) (fun s => (s.arbiter 0).holder ≠ none)
        ∧ Meets 13 yard (fun s => (s.arbiter 3).holder = none ∧ s.deckRolesPass 3 r = false)
        ∧ Meets 13 yard (fun s => (s.arbiter 0).holder = none ∧ s.deckRolesPass 0 r = true ∧ (s.station r.digitizer).state = .enrolled)
        ∧ Meets 13 bareYard (fun s => (s.arbiter 0).holder = none ∧ s.deckRolesPass 0 r = true ∧ (s.station r.digitizer).state ≠ .enrolled)) := by
  refine ⟨meets (by decide +kernel), deckRecord, ?_, ?_, ?_, meets ?_, meets ?_, meets ?_, meets ?_⟩ <;> decide +kernel

/-! ### The tables -/

/-- The vehicle load of FL-208 (5.11), and the same vehicle at the ends of every range. -/
def loadFL : VehicleLoad :=
  { ident := "FL-208".toList, account := some 40112, status := some .admits, tarePolicy := some .storedAuto,
    storedTare := some 9460, tareStamp := none, maxGross := some 32000, permitted := [5], defaultCategory := some 5 }
def recordFL : VehicleRecord :=
  { ident := "FL-208".toList, account := 40112, status := .admits, tarePolicy := .storedAuto, storedTare := some 9460,
    tareStamp := none, maxGross := some 32000, permitted := [4], defaultCategory := 4 }

theorem witness_VehicleRecordChecks :
    vehicleRecord loadFL = some recordFL
      ∧ (vehicleRecord { loadFL with account := some 999999, storedTare := some 200000, tareStamp := some 4294967295,
                                     maxGross := some 200000, permitted := [1, 16], defaultCategory := some 16 }).isSome
      ∧ vehicleRecord { loadFL with storedTare := none } = none ∧ vehicleRecord { loadFL with account := some 1000000 } = none
      ∧ vehicleRecord { loadFL with permitted := [17] } = none := by
  decide +kernel

/-- A table of 1,023 and one of 1,024 vehicles, none of them FL-208. -/
def manyVehicles (k : Nat) : State := { yard with vehicles := List.replicate k { recordFL with ident := "RC-4471".toList } }

theorem witness_VehicleRequests :
    Meets 1 yard (fun _ => vehicleRecord { loadFL with account := none } = none)
      ∧ Meets 1 { yard with vehicles := [recordFL] } (fun s => vehicleRecord loadFL = some recordFL ∧ ∃ x ∈ s.vehicles, x.ident = recordFL.ident)
      ∧ Meets 1 (manyVehicles 1023) (fun s => (∀ x ∈ s.vehicles, x.ident ≠ recordFL.ident) ∧ s.vehicles.length < 1024)
      ∧ Meets 1 (manyVehicles 1024) (fun s => (∀ x ∈ s.vehicles, x.ident ≠ recordFL.ident) ∧ 1024 ≤ s.vehicles.length)
      ∧ Meets 2 yard (fun s => validIdent "RC-4471".toList = true ∧ (∃ x ∈ s.vehicles, x.ident = "RC-4471".toList)
        ∧ validIdent (List.replicate 17 'A') = false ∧ ∀ x ∈ s.vehicles, x.ident ≠ "FL-208".toList)
      ∧ Meets 3 { yard with vehicles := [recordFL] } (fun s => s.vehicles = [] ++ recordFL :: [] ∧ recordFL.ident = "FL-208".toList
        ∧ ∀ x ∈ s.vehicles, x.ident ≠ "RC-4471".toList)
      ∧ ({ yard with tareUpdates := [{ ident := "RC-4471".toList, kg := 1, stamp := none }] } : State).tareUpdates
        = { ident := "RC-4471".toList, kg := 1, stamp := none } :: [] := by
  have other : ∀ k, ∀ x ∈ (asked 1 (manyVehicles k)).vehicles, x.ident ≠ recordFL.ident := fun k x h => by
    rw [List.eq_of_mem_replicate h]; decide
  have size : ∀ k, (asked 1 (manyVehicles k)).vehicles.length = k := fun k => by simp [asked, manyVehicles]
  refine ⟨meets ?_, meets ?_, meets ⟨other _, ?_⟩, meets ⟨other _, ?_⟩, meets ?_, meets ?_, ?_⟩
  · decide +kernel
  · decide +kernel
  · rw [size]; decide
  · rw [size]
  · decide +kernel
  · decide +kernel
  · rfl

theorem witness_LoadCategory :
    Meets 4 yard (fun _ => 16 = (15 : CategoryNo).val + 1 ∧ 1 = (0 : CategoryNo).val + 1 ∧ 1 ≤ (List.replicate 8 'A').length
      ∧ (List.replicate 8 'A').length ≤ 8 ∧ (∀ x ∈ List.replicate 8 'A', identChar x = true) ∧ 16 < 17
      ∧ 8 < (List.replicate 9 'A').length ∧ ∃ x ∈ ['a'], identChar x = false) :=
  meets ⟨rfl, rfl, by decide, by decide, fun x h => by rw [List.eq_of_mem_replicate h]; decide, by decide, by decide,
    'a', .head _, by decide⟩

/-- A second lane over deck A beside lane 1 of 3.7. -/
def pairYard : State := bareYard.setLaneRecord 0 (some lane1)

theorem witness_LoadLane :
    (laneOf 0 = none ∧ laneOf 5 = none ∧ laneRecordOf { laneLoad with deck := 5 } = none ∧ laneOf 4 = some 3
        ∧ laneRecordOf laneLoad = some lane1)
      ∧ Meets 5 yard (fun s => (s.lane 0).state ≠ .closed)
      ∧ Meets 5 bareYard (fun s => (s.lane 3).state = .closed ∧ ¬ { lane1 with exitBarrier := 4 }.stations.Nodup)
      ∧ Meets 5 yard (fun s => (s.lane 3).state = .closed ∧ s.laneRolesPass 3 { lane1 with terminal := 0 } = false)
      ∧ Meets 5 pairYard (fun s => (s.lane 1).state = .closed ∧ s.identSource { lane2 with reader := none } = false)
      ∧ Meets 5 pairYard (fun s => (s.lane 1).state = .closed ∧ s.sharingPasses 1 { lane1 with terminal := 9, reader := some 13 } = false)
      ∧ Meets 5 bareYard (fun s => (s.lane 0).state = .closed ∧ lane1.stations.Nodup ∧ s.laneRolesPass 0 lane1 = true
        ∧ s.identSource lane1 = true ∧ s.sharingPasses 0 lane1 = true) := by
  refine ⟨?_, meets ?_, meets ?_, meets ?_, meets ?_, meets ?_, meets ?_⟩ <;> decide +kernel

/-! ### Lanes -/

theorem witness_LaneStateEntered :
    (oneLeft yard).laneRecord 0 = some lane1 ∧ ((oneLeft yard).lane 0).claim ≠ .waiting ∧ ((oneLeft yard).lane 0).reservation = none
      ∧ (oneLeft yard).RoomForReport ∧ lane1.reader ≠ some lane1.terminal := by
  decide +kernel

/-- Lane 1 in a state, holding the deck or not. -/
def laneIn (st : LaneState) (holder : Option LaneId) : State :=
  (inState 0 st none yard).setArbiter 0 { holder := holder, claims := [] }

theorem witness_LaneService :
    (Meets 6 yard (fun s => (0 = 0 ∨ 4 < 0) ∧ (5 = 0 ∨ 4 < 5) ∧ s.laneRecord 3 = none ∧ s.laneRecord 0 = some lane1
        ∧ (s.lane 0).state ≠ .closed)
      ∧ Meets 6 (laneIn .closed none) (fun s => s.laneRecord 0 = some lane1 ∧ (s.lane 0).state = .closed))
      ∧ (Meets 8 yard (fun s => s.laneRecord 0 = some lane1 ∧ (s.lane 0).state ≠ .fault)
      ∧ Meets 8 ((laneIn .fault none).updateStation 4 fun x => { x with state := .lost }) (fun s =>
        (s.lane 0).state = .fault ∧ s.stationsEnrolled lane1 = false)
      ∧ Meets 8 (laneIn .fault none) (fun s => (s.lane 0).state = .fault ∧ s.stationsEnrolled lane1 = true
        ∧ s.barrierStopped lane1.entryBarrier = false ∧ s.barrierStopped lane1.exitBarrier = false))
      ∧ (Meets 7 (laneIn .entering (some 0)) (fun s => (s.lane 0).state ≠ .idle ∧ (s.lane 0).state ≠ .recover ∧ (s.lane 0).state ≠ .fault)
      ∧ (∀ st ∈ [LaneState.idle, .recover, .fault],
        Meets 7 (laneIn st none) fun s => (s.lane 0).state = st ∧ (s.arbiter lane1.deck).holder ≠ some 0)
      ∧ (∀ st ∈ [LaneState.recover, .fault],
        Meets 7 (laneIn st (some 0)) fun s => (s.lane 0).state = st ∧ (s.arbiter lane1.deck).holder = some 0))
      ∧ (bareYard.setLaneRecord 0 (some lane1)).stationsEnrolled lane1 = false := by
  refine ⟨⟨meets ?_, meets ?_⟩, ⟨meets ?_, meets ?_, meets ?_⟩, ⟨meets ?_, ?_, ?_⟩, ?_⟩ <;> decide +kernel

/-- Lane 1 as a lane timer of a kind has just run out. -/
def timedLane (st : LaneState) (k : LaneTimerKind) (limit : Nat) (occ : Occupancy) : State :=
  (withLane 0 (fun c => { c with timer := some { kind := k, elapsed := limit, limit := limit } }) (laneIn st (some 0))).setDeck 0
    { activeDeck with occupancy := occ }

theorem witness_LaneTimersEnd :
    (∀ x ∈ [(LaneState.identify, LaneTimerKind.identWait, 30000), (.weighing, .weigh, 60000), (.referred, .referral, 120000)],
        ((timedLane x.1 x.2.1 x.2.2 .empty).lane 0).timer = some { kind := x.2.1, elapsed := x.2.2, limit := x.2.2 })
      ∧ (∀ occ ∈ [Occupancy.occupied, .empty], ((timedLane .entering .entry 60000 occ).lane 0).timer
          = some { kind := .entry, elapsed := 60000, limit := 60000 }
        ∧ (timedLane .entering .entry 60000 occ).laneRecord 0 = some lane1
        ∧ ((timedLane .entering .entry 60000 occ).deck lane1.deck).occupancy = occ)
      ∧ Meets 10 yard (fun s => (0 = 0 ∨ 4 < 0) ∧ (5 = 0 ∨ 4 < 5) ∧ s.laneRecord 0 = some lane1 ∧ (s.lane 0).state ≠ .referred)
      ∧ Meets 10 (inState 0 .referred (some .noIdent) yard) (fun s => (s.lane 0).state = .referred ∧ (s.lane 0).reason = some .noIdent
        ∧ ReferralReason.noIdent.beforeEntry = true)
      ∧ Meets 10 (inState 0 .referred (some .noStable) yard) (fun s => (s.lane 0).state = .referred ∧ (s.lane 0).reason = some .noStable
        ∧ ReferralReason.noStable.beforeEntry = false) := by
  refine ⟨?_, ?_, meets ?_, meets ?_, meets ?_⟩ <;> decide +kernel

theorem witness_DeckGrant :
    (let s := yard.setArbiter 0 { holder := none, claims := [0, 1] };
      (s.deck 0).state = .active ∧ (s.arbiter 0).holder = none ∧ (s.arbiter 0).claims = 0 :: [1])
      ∧ (yard.deck 1).state ≠ .active ∧ ((yard.setArbiter 0 { holder := some 0, claims := [1] }).arbiter 0).holder ≠ none
      ∧ (yard.arbiter 0).claims = [] := by
  decide +kernel

/-- A read at the ends of its ranges. -/
def wideRead : IdentRead := { ident := List.replicate 16 'Z', source := .plate, quality := 100 }

/-- The yard with the last read of lane 1 so many frames old. -/
def readYard (f : Nat) (st : LaneState) (why : Option ReferralReason) : State :=
  oneLeft (withLane 0 (fun c => { c with lastRead := some (wideRead.ident, f) }) (inState 0 st why yard))

theorem witness_IdentReadHandled :
    (validIdent wideRead.ident = true ∧ wideRead.quality ≤ 100)
      ∧ Holds 20 .identRead (oneLeft yard) (fun s => (∀ l, ∀ r ∈ s.laneRecord l, r.reader ≠ some 20 ∧ r.terminal ≠ 20) ∧ s.RoomForReport)
      ∧ Holds 12 .identRead (readYard 2999 .identify none) (fun s => s.identLane 12 = some 0 ∧ s.laneRecord 0 = some lane1
        ∧ (s.lane 0).lastRead = some (wideRead.ident, 2999) ∧ 2999 < 3000)
      ∧ Holds 12 .identRead (readYard 3000 .idle none) (fun s => s.identLane 12 = some 0 ∧ (s.lane 0).lastRead = some (wideRead.ident, 3000)
        ∧ (s.lane 0).state ≠ .identify ∧ (s.lane 0).state ≠ .referred ∧ s.RoomForReport)
      ∧ Holds 12 .identRead (readYard 3000 .referred (some .unknown)) (fun s => (s.lane 0).reason ≠ some .noIdent)
      ∧ Holds 12 .identRead (readYard 3000 .identify none) (fun s => (s.lane 0).state = .identify)
      ∧ Holds 8 .identRead (readYard 3000 .referred (some .noIdent)) (fun s => s.identLane 8 = some 0
        ∧ (s.lane 0).state = .referred ∧ (s.lane 0).reason = some .noIdent) := by
  refine ⟨?_, holds ?_, holds ?_, holds ?_, holds ?_, holds ?_, holds ?_⟩ <;> decide +kernel

/-- The yard with one vehicle record of a status, and lane 1 of a direction and policy holding the vehicle. -/
def decisionYard (st : VehicleStatus) (dir : Direction) (policy : UnknownPolicy) : State :=
  withLane 0 (fun c => { c with vehicle := some vehicle })
    (State.setLaneRecord { yard with vehicles := [{ recordFL with status := st }] } 0
      (some { lane1 with direction := dir, unknownPolicy := policy, cashCategory := some 2 }))

theorem witness_AdmissionDecision :
    (∀ st ∈ [VehicleStatus.bars, .refers, .admits], let s := decisionYard st .both .refer;
        s.laneRecord 0 = some { lane1 with direction := .both, cashCategory := some 2 } ∧ (s.lane 0).pendingCategory = none
          ∧ s.lookup "FL-208".toList = some { recordFL with status := st })
      ∧ (decisionYard .admits .inward .refer).lookup "X".toList = none
      ∧ (decisionYard .admits .inward .admitCash).laneRecord 0 = some { lane1 with unknownPolicy := .admitCash, cashCategory := some 2 }
      ∧ (let s : State := { decisionYard .admits .inward .refer with visits := [newVisit 0 0 vehicle] };
        (s.lane 0).vehicle = some vehicle ∧ ∃ x ∈ s.visits, x.ident = vehicle.ident ∧ x.state = .reserved)
      ∧ (let s := decisionYard .admits .inward .refer;
        s.inYard vehicle.ident = false ∧ (some (6 : CategoryNo)).any (s.permits vehicle) = false ∧ vehicle.category.any (s.permits vehicle) = true)
      ∧ (let s : State := { decisionYard .admits .inward .refer with visits := List.replicate 64 { visitFL with state := .closed } };
        s.inYard vehicle.ident = false ∧ 64 ≤ s.visits.length)
      ∧ (let s : State := { decisionYard .admits .both .refer with visits := List.replicate 63 { visitFL with state := .closed } };
        s.outVisit vehicle.ident = none ∧ s.inYard vehicle.ident = false ∧ s.visits.length < 64)
      ∧ (let s : State := { decisionYard .admits .both .refer with visits := [{ visitFL with ident := vehicle.ident }] };
        s.outVisit vehicle.ident = some { visitFL with ident := vehicle.ident })
      ∧ (decisionYard .admits .outward .refer).outVisit vehicle.ident = none := by
  refine ⟨?_, ?_, ?_, ?_, ?_, ?_, ?_, ?_, ?_⟩ <;> decide +kernel

/-- Lane 1 with its vehicle inbound in a state. -/
def keyYard (st : LaneState) (why : Option ReferralReason) : State :=
  oneLeft (withLane 0 (fun c => { c with vehicle := some vehicle, passage := some .inbound }) (inState 0 st why yard))

theorem witness_KeyEntryHandled :
    Holds 20 .keyEntry (oneLeft yard) (fun s => s.RoomForReport ∧ (∀ l, ∀ r ∈ s.laneRecord l, r.terminal ≠ 20)
        ∧ (KeyEntry.category 16).wellFormed = true ∧ (KeyEntry.category 1).wellFormed = true)
      ∧ Holds 8 .keyEntry (keyYard .identify none) (fun s => s.laneOfTerminal 8 = some 0 ∧ s.RoomForReport ∧ (s.lane 0).state = .identify)
      ∧ (∀ st ∈ [LaneState.awaitDeck, .entering, .weighing], Holds 8 .keyEntry (keyYard st none) fun s =>
        (s.lane 0).vehicle = some vehicle ∧ (s.lane 0).passage = some .inbound ∧ s.permits vehicle 2 = true ∧ (s.lane 0).state = st)
      ∧ Holds 8 .keyEntry (keyYard .referred (some .yardFull)) (fun s => (s.lane 0).state = .referred ∧ (s.lane 0).reason = some .yardFull
        ∧ ReferralReason.yardFull.beforeEntry = true)
      ∧ Holds 8 .keyEntry (keyYard .referred (some .category)) (fun s => (s.lane 0).state = .referred ∧ (s.lane 0).reason = some .category
        ∧ s.permits vehicle 2 = true)
      ∧ Holds 8 .keyEntry (oneLeft (inState 0 .idle none yard)) (fun s => s.RoomForReport ∧ (s.lane 0).state ≠ .identify ∧ (s.lane 0).vehicle = none)
      ∧ Holds 8 .keyEntry (keyYard .awaitDeck none) (fun s => s.permits vehicle 15 = false)
      ∧ (∀ st ∈ [LaneState.closed, .recover, .idle, .refused, .releasing, .leaving, .fault], Holds 8 .keyEntry (keyYard st none) fun s =>
        (s.lane 0).state = st ∧ (s.lane 0).state ≠ .identify)
      ∧ Holds 8 .keyEntry (keyYard .referred (some .inspect)) (fun s => (s.lane 0).reason = some .inspect
        ∧ ReferralReason.inspect.beforeEntry = false) := by
  refine ⟨holds ?_, holds ?_, ?_, holds ?_, holds ?_, holds ?_, holds ?_, ?_, holds ?_⟩ <;> decide +kernel

/-- Lane 1 REFERRED for a reason with its vehicle, and an ADMIT of lane 1. -/
def referredYard (why : ReferralReason) : State :=
  withLane 0 (fun c => { c with vehicle := some vehicle, passage := some .inbound, captured := some ⟨14620, 0, 9, none, false⟩ })
    (inState 0 .referred (some why) yard)
def admitLoad : AdmitLoad := { lane := 1, ident := none, account := none, category := none }

theorem witness_Admit :
    Meets 9 yard (fun s => laneOf 0 = none ∧ laneOf 5 = none ∧ laneOf admitLoad.lane = some 0 ∧ s.laneRecord 0 = some lane1
        ∧ (s.lane 0).state ≠ .referred)
      ∧ Meets 9 (referredYard .inspect) (fun s => (s.lane 0).state = .referred ∧ (s.lane 0).reason = some .inspect
        ∧ ReferralReason.inspect.beforeEntry = false)
      ∧ Meets 9 (referredYard .noIdent) (fun s => (s.lane 0).reason = some .noIdent ∧ admitLoad.ident = none ∧ 999999 < 1000000 ∧ 16 < 17
        ∧ (s.category 6).enabled = false ∧ s.admitBad { admitLoad with ident := some wideRead.ident, account := some 999999, category := some 3 } lane1 .noIdent = false)
      ∧ Meets 9 (referredYard .category) (fun s => (s.lane 0).reason = some .category ∧ admitLoad.category = none
        ∧ s.admitBad { admitLoad with category := some 3 } lane1 .category = false ∧ (s.lane 0).vehicle = some vehicle)
      ∧ Meets 9 (referredYard .unknown) (fun s => (s.lane 0).reason = some .unknown ∧ lane1.cashCategory = none
        ∧ s.admitBad { admitLoad with category := some 3 } lane1 .unknown = false)
      ∧ (∀ why ∈ [ReferralReason.status, .notInYard, .deckFault, .alreadyInYard, .yardFull], Meets 9 (referredYard why) fun s =>
        (s.lane 0).reason = some why ∧ why.beforeEntry = true ∧ s.admitBad admitLoad lane1 why = false
          ∧ s.inYard vehicle.ident = false ∧ s.visits.length < 64)
      ∧ Meets 9 { referredYard .alreadyInYard with visits := [newVisit 0 0 vehicle] } (fun s => (s.lane 0).vehicle = some vehicle
        ∧ s.inYard vehicle.ident = true)
      ∧ Meets 9 { referredYard .yardFull with visits := List.replicate 64 visitFL } (fun s => 64 ≤ s.visits.length) := by
  refine ⟨meets ?_, meets ?_, meets ?_, meets ?_, meets ?_, ?_, meets ?_, meets ?_⟩ <;> decide +kernel

theorem witness_ReleaseAndRetry :
    (Meets 12 yard (fun s => (0 = 0 ∨ 4 < 0) ∧ (5 = 0 ∨ 4 < 5) ∧ s.laneRecord 0 = some lane1 ∧ (s.lane 0).state ≠ .referred)
      ∧ Meets 12 (referredYard .inspect) (fun s => (s.lane 0).reason ≠ some .noStable)
      ∧ Meets 12 (referredYard .noStable) (fun s => (s.lane 0).state = .referred ∧ (s.lane 0).reason = some .noStable))
      ∧ (Meets 11 yard (fun s => (0 = 0 ∨ 4 < 0) ∧ (5 = 0 ∨ 4 < 5) ∧ (s.lane 0).state ≠ .referred)
      ∧ Meets 11 (referredYard .deckFault) (fun s => (s.lane 0).reason = some .deckFault ∧ ReferralReason.deckFault.beforeEntry = true)
      ∧ Meets 11 (oneLeft (referredYard .noStable)) (fun s => s.RoomForReport ∧ (s.lane 0).reservation = none)
      ∧ Meets 11 { referredYard .noTicketNumber with counter := .exhausted } (fun s => s.findsGone 0 = false ∧ s.counter = .exhausted)
      ∧ (∀ why ∈ [ReferralReason.entryIncomplete, .inspect, .tareMismatch, .negativeNet, .noTicketNumber], Meets 11 (referredYard why) fun s =>
        s.laneRecord 0 = some lane1 ∧ (s.lane 0).state = .referred ∧ (s.lane 0).reason = some why
          ∧ (s.lane 0).captured = some ⟨14620, 0, 9, none, false⟩ ∧ s.findsGone 0 = false ∧ s.counter = .valid 1000402)) := by
  refine ⟨⟨meets ?_, meets ?_, meets ?_⟩, ⟨meets ?_, meets ?_, meets ?_, meets ?_, ?_⟩⟩ <;> decide +kernel

/-! ### Barriers -/

/-- Barrier 5 with its record changed. -/
def barrierYard (b : BarrierRecord) : State := oneLeft (yard.setBarrier 4 (some b))

theorem witness_MotionTimeout :
    (∀ limit ∈ [1, 15], let b : BarrierRecord := { barrierDown with limit := limit, timer := some (limit * 1000) };
        (barrierYard b).barrier 4 = some b ∧ b.timer = some (limit * 1000) ∧ b.limit * 1000 ≤ limit * 1000 ∧ (barrierYard b).RoomForReport)
      ∧ (∀ st ∈ [LaneState.closed, .recover], ((laneIn st none).lane 0).state = st)
      ∧ (let s := oneLeft (withLane 0 (fun c => { c with causes := [.barrierFault 4] }) (laneIn .fault none));
        (s.lane 0).state = .fault ∧ FaultCause.barrierFault 4 ∈ (s.lane 0).causes ∧ FaultCause.barrierManual 4 ∉ (s.lane 0).causes
          ∧ s.RoomForReport)
      ∧ (let s := laneIn .weighing (some 0);
        (s.lane 0).state ≠ .closed ∧ (s.lane 0).state ≠ .recover ∧ (s.lane 0).state ≠ .fault ∧ (s.lane 0).causes = []) := by
  refine ⟨?_, ?_, ?_, ?_⟩ <;> decide +kernel

theorem witness_BarrierRecordTakesCode :
    (stepC.returns .falling = false ∧ stepC.outOfService = false ∧ stepC.commanded = .lower)
      ∧ (stepE.pendingLower = true ∧ stepE.returns .up = false ∧ stepE.commanded ≠ .lower)
      ∧ (barrierDown.pendingLower = false ∧ barrierDown.returns .down = false)
      ∧ (∀ p ∈ [Position.down, .up, .rising, .falling], (stepC.stops .manual).returns p = true)
      ∧ (barrierYard barrierDown).barrier 4 = some barrierDown ∧ (barrierYard barrierDown).RoomForReport := by
  refine ⟨?_, ?_, ?_, ?_, ?_⟩ <;> decide +kernel

theorem witness_BarrierOrders :
    Meets 24 yard (fun s => (0 = 0 ∨ 24 < 0) ∧ (25 = 0 ∨ 24 < 25) ∧ s.barrier 0 = none ∧ s.barrier 23 = none)
      ∧ (∀ st ∈ [BarrierState.fault, .manual], let b := { barrierDown with state := st };
        Meets 24 (barrierYard b) fun s => s.barrier 4 = some b ∧ (b.state = .fault ∨ b.state = .manual))
      ∧ Meets 24 (oneLeft (laneIn .entering (some 0))) (fun s => s.barrier 4 = some barrierDown ∧ s.lanesQuiet 4 = false ∧ s.RoomForReport)
      ∧ Meets 24 (barrierYard { barrierDown with commanded := .none }) (fun s => s.barrier 4 = some { barrierDown with commanded := .none }
        ∧ s.lanesQuiet 4 = true ∧ barrierDown.mode = .direct ∧ s.RoomForReport ∧ barrierDown.loop ≠ some .occupied)
      ∧ Meets 24 (barrierYard { barrierDown with commanded := .raise, loop := some .occupied }) (fun s =>
        s.barrier 4 = some { barrierDown with commanded := .raise, loop := some .occupied } ∧ s.lanesQuiet 4 = true)
      ∧ (∀ m ∈ [OfficeMode.stagedMsg, .stagedLoop], Meets 24 (barrierYard { barrierDown with mode := m }) fun s =>
        s.barrier 4 = some { barrierDown with mode := m } ∧ s.lanesQuiet 4 = true ∧ m ≠ .direct) := by
  refine ⟨meets ?_, ?_, meets ?_, meets ?_, meets ?_, ?_⟩ <;> decide +kernel

/-- Barrier 5 in STAGED-MSG with an order staged. -/
def stagedRecord (o : BarrierOrder) : BarrierRecord := { barrierDown with mode := .stagedMsg, staged := some o }

theorem witness_StagedOrders :
    (Meets 26 yard (fun s => (0 = 0 ∨ 24 < 0) ∧ (25 = 0 ∨ 24 < 25) ∧ s.barrier 23 = none ∧ s.barrier 4 = some barrierDown
        ∧ barrierDown.mode ≠ .stagedMsg ∧ barrierDown.staged = none)
      ∧ Meets 26 (barrierYard (stagedRecord .raise)) (fun s => s.barrier 4 = some (stagedRecord .raise)
        ∧ (stagedRecord .raise).mode = .stagedMsg ∧ s.lanesQuiet 4 = true ∧ (stagedRecord .raise).state ≠ .fault
        ∧ (stagedRecord .raise).state ≠ .manual)
      ∧ Meets 26 (oneLeft ((laneIn .leaving (some 0)).setBarrier 4 (some (stagedRecord .hold)))) (fun s =>
        s.barrier 4 = some (stagedRecord .hold) ∧ s.lanesQuiet 4 = false ∧ s.RoomForReport)
      ∧ Meets 26 (barrierYard { stagedRecord .lower with state := .fault }) (fun s =>
        s.barrier 4 = some { stagedRecord .lower with state := .fault } ∧ s.RoomForReport))
      ∧ (Meets 25 yard (fun s => (0 = 0 ∨ 24 < 0) ∧ (25 = 0 ∨ 24 < 25) ∧ s.barrier 23 = none)
      ∧ Meets 25 (barrierYard (stagedRecord .raise)) (fun s => s.barrier 4 = some (stagedRecord .raise) ∧ OfficeMode.stagedLoop ≠ .direct
        ∧ (stagedRecord .raise).staged = some .raise ∧ s.RoomForReport)) := by
  refine ⟨⟨meets ?_, meets ?_, meets ?_, meets ?_⟩, ⟨meets ?_, meets ?_⟩⟩ <;> decide +kernel

theorem witness_GroupOrders :
    Meets 27 yard (fun _ => (∃ m ∈ [0, 5], m = 0 ∨ 24 < m) ∧ ∃ m ∈ [5, 25], m = 0 ∨ 24 < m)
      ∧ Meets 27 (yard.setBarrier 5 (some { barrierDown with state := .manual })) (fun s => [24, 6, 5, 1] ≠ ([] : List Nat)
        ∧ (∀ m ∈ [24, 6, 5, 1], 1 ≤ m ∧ m ≤ 24) ∧ s.barrier 4 = some barrierDown ∧ s.barrier 0 = none) := by
  refine ⟨meets ?_, meets ?_⟩ <;> decide +kernel

/-! ### Messages and enrolment -/

theorem witness_WholeMessageReceived :
    (List.replicate 60 (0 : Byte)).length ≤ 60 ∧ ([] : List Byte).length ≤ 60 ∧ ReceiveChannel.reset.phase = .idle
      ∧ ReceiveChannel.reset.candidate = none ∧ ReceiveChannel.reset.lastTaken ≠ some (.first, false) ∧ 0 < 8 ∧ 7 < 8 := by
  decide

theorem witness_StationMessages :
    Holds 8 .stationNote (oneLeft yard) (fun s => (List.replicate 40 ':').length ≤ 40 ∧ (∀ c ∈ List.replicate 40 ':', textChar c = true)
        ∧ (Body.fits (List.replicate 41 ':')).read validText = none ∧ (Body.misfit : Body Text).read validText = none ∧ s.RoomForReport
        ∧ UpKind.stationNote ≠ .identRead ∧ UpKind.stationNote ≠ .keyEntry ∧ UpKind.stationNote ≠ .printOutcome
        ∧ UpKind.stationNote ≠ .enrolPage)
      ∧ Holds 8 .identRead (oneLeft yard) (fun s => (Body.fits { wideRead with quality := 101 }).read IdentRead.wellFormed = none
        ∧ s.RoomForReport ∧ UpKind.identRead ≠ .stationNote)
      ∧ Holds 8 .keyEntry (oneLeft yard) (fun s => (Body.fits (KeyEntry.category 17)).read KeyEntry.wellFormed = none
        ∧ (Body.fits (KeyEntry.category 0)).read KeyEntry.wellFormed = none ∧ s.RoomForReport)
      ∧ Holds 8 .printOutcome (oneLeft yard) (fun s => (Body.fits (PrintMessage.mk 100000000 .jam)).read PrintMessage.wellFormed = none
        ∧ (Body.fits (PrintMessage.mk 0 .jam)).read PrintMessage.wellFormed = none ∧ s.RoomForReport)
      ∧ (∀ st ∈ [StationState.alive, .enrolling, .enrolled], Holds 20 .enrolPage (oneLeft (yard.updateStation 20 fun x => { x with state := st }))
        fun s => (Body.fits (EnrolPage.next 4 [] true)).read EnrolPage.wellFormed = none ∧ (s.station 20).state = st ∧ s.RoomForReport) := by
  refine ⟨holds ⟨by decide, fun c h => by rw [List.eq_of_mem_replicate h]; decide, ?_, ?_, ?_, ?_, ?_, ?_, ?_⟩, holds ?_, holds ?_, holds ?_, ?_⟩ <;>
    decide +kernel

/-- Terminal 9 with its send channel ready. -/
def readyYard (w : Option EnrolResult) (f : Option Text) (s : State) : State :=
  s.updateStation 8 fun x => { x with forward := f, send := { x.send with waiting := w, noneShown := 2, noneHeard := 2 } }

/-- Lane 1 with one job waiting. -/
def jobYard : State := yard.setQueue 0 { jobs := [{ job 1000402 with lane := 0, terminal := 8 }], phase := .waiting }

theorem witness_SendStart :
    (let s := readyYard (some .accepted) none jobYard;
      (s.station 8).state = .enrolled ∧ (s.station 8).send.phase = .idle ∧ (s.station 8).send.noneShown = 2
        ∧ (s.station 8).send.noneHeard = 2 ∧ (s.station 8).send.waiting = some .accepted)
      ∧ (let s := readyYard none none jobYard;
        (s.station 8).send.waiting = none ∧ s.laneOfTerminal 8 = some 0
          ∧ (s.queue 0).jobs = { job 1000402 with lane := 0, terminal := 8 } :: [] ∧ (s.queue 0).phase = .waiting)
      ∧ (let s := readyYard none (some "GO".toList) yard;
        (s.station 8).send.waiting = none ∧ s.offeredTicket 8 = none ∧ (s.station 8).forward = some "GO".toList)
      ∧ (yard.station 8).send.noneShown ≠ 2
      ∧ (let s := readyYard none none yard;
        (s.station 8).send.waiting = none ∧ s.offeredTicket 8 = none ∧ (s.station 8).forward = none) := by
  refine ⟨?_, ?_, ?_, ?_, ?_⟩ <;> decide +kernel

/-- A message in the air to terminal 9: its unit, its attempt, and a full unit timer and gap. -/
def air (src : MessageSource) (unit attempt : Nat) : Progress :=
  { msg := { kind := 0x22, body := [], source := src }, unit := unit, attempt := attempt }
def airYard (phase : SendPhase) (p : Progress) (noneSeen : Bool) : State :=
  oneLeft (State.updateStation yard 8 fun x =>
    { x with forward := some "GO".toList
             send := { x.send with phase := phase, message := some p, timer := 32, gap := 4, noneSeen := noneSeen } })

theorem witness_ChannelTimers :
    (let s := yard.updateStation 8 fun x => { x with receive := { x.receive with phase := .receiving { kind := .keyEntry, length := none, body := [] }, stale := 64 } };
      (s.station 8).receive.phase = .receiving { kind := .keyEntry, length := none, body := [] } ∧ 64 ≤ (s.station 8).receive.stale)
      ∧ (∀ src ∈ [MessageSource.enrolResult .accepted, .forward, .ticket 0], ∀ a ∈ [2, 3],
        let s := airYard .sending (air src 0 a) true;
        (s.station 8).send.phase = .sending ∧ (s.station 8).send.message = some (air src 0 a) ∧ 32 ≤ (s.station 8).send.timer
          ∧ (s.slot 8).awaited = false ∧ s.RoomForReport)
      ∧ (let s := airYard .gap (air .forward 0 2) false;
        (s.station 8).send.phase = .gap ∧ (s.station 8).send.message = some (air .forward 0 2) ∧ 4 ≤ (s.station 8).send.gap) := by
  refine ⟨?_, ?_, ?_⟩ <;> decide +kernel

/-- One frame of the send channel: each answer in the first unit and in the last of an empty message, with NONE seen and not,
and a station that is LOST. -/
theorem witness_SendFrame :
    (∀ src ∈ [MessageSource.enrolResult .accepted, .forward, .ticket 0], ∀ u ∈ [0, 1], ∀ a ∈ [2, 3], ∀ seen,
        let s := airYard .sending (air src u a) seen;
        (s.station 8).state = .enrolled ∧ (s.station 8).send.phase = .sending ∧ (s.station 8).send.message = some (air src u a)
          ∧ (s.station 8).send.noneSeen = seen ∧ s.RoomForReport ∧ ((0 : Nat) + 1 < [].length (α := Byte) + 2)
          ∧ [].length (α := Byte) + 2 ≤ (1 : Nat) + 1)
      ∧ (yard.station 8).send.phase ≠ .sending ∧ (yard.station 20).state = .silent
      ∧ ((airYard .sending (air (.ticket 0) 1 1) true).station 8).send.message = some (air (.ticket 0) 1 1)
      ∧ ∀ p, (yard.station 8).send.message = some p → p.msg.source ≠ .ticket 0 := by
  refine ⟨?_, ?_, ?_, ?_, fun p h => ?_⟩
  · decide +kernel
  · decide +kernel
  · decide +kernel
  · decide +kernel
  · exact absurd h (by rw [show (yard.station 8).send.message = none from by decide +kernel]; simp)

/-- Station 21 ALIVE or in an attempt, with its pages and failed attempts. -/
def enrolYard (st : StationState) (ps : List EnrolPage) (failed window : Nat) : State :=
  oneLeft (State.updateStation yard 20 fun x => { x with state := st, pages := ps, failed := failed, window := window })

theorem witness_Enrolment :
    (∀ k ∈ [5, 6], ((enrolYard .alive [] k 2000).station 20).failed = k ∧ (enrolYard .alive [] k 2000).RoomForReport
        ∧ ((enrolYard .alive [] k 2000).station 20).state = .alive ∧ 2000 ≤ ((enrolYard .alive [] k 2000).station 20).window)
      ∧ ((enrolYard .enrolling [basePage] 0 2000).station 20).state = .enrolling
      ∧ (abilitiesFit .terminal (station .terminal .alive).abilities = true ∧ abilitiesFit .barrierDrive (station .barrierDrive .alive).abilities = true
        ∧ 255 ≤ 255)
      ∧ Holds 20 .enrolPage (enrolYard .alive [] 6 0) (fun s => (s.station 20).state = .alive ∧ (s.station 20).pages = []
        ∧ s.role 20 = none ∧ (s.slot 20).taken = none ∧ s.RoomForReport)
      ∧ Holds 8 .enrolPage (oneLeft (State.updateStation yard 8 fun x => { x with state := .alive })) (fun s => (s.station 8).state = .alive
        ∧ (s.station 8).pages = [] ∧ s.role 8 = some (.terminal false) ∧ StationKind.barrierDrive ≠ (Role.terminal false).kind)
      ∧ ((List.replicate 8 'Z').length ≤ 8 ∧ ∀ c ∈ List.replicate 8 'Z', identChar c = true)
      ∧ (∀ st ∈ [StationState.enrolled, .rejected], Holds 20 .enrolPage (enrolYard st [] 0 0) fun s => (s.station 20).state = st)
      ∧ Holds 20 .enrolPage (enrolYard .enrolling [basePage] 0 0) (fun s => (s.station 20).state = .enrolling
        ∧ (s.station 20).pages.getLast? = some basePage ∧ basePage.toggle = true ∧ basePage.toggle ≠ false ∧ 3 ≠ basePage.number + 1
        ∧ 1 = basePage.number + 1 ∧ pagesComplete ((s.station 20).pages ++ [.next 1 [] false]) = false) := by
  refine ⟨?_, ?_, ?_, holds ?_, holds ?_, ⟨by decide, fun c h => by rw [List.eq_of_mem_replicate h]; decide⟩, ?_, holds ?_⟩ <;>
    decide +kernel

/-- A FORWARD at the head of the buffer. -/
def forwarded (s : State) : State :=
  { s with buffer := [{ kind := .forward, tag := 3, body := [8, 1], reply := none }], resetsDue := .clear }

theorem witness_StationRequests :
    (∀ s : State, (forwarded s).HasForward { kind := .forward, tag := 3, body := [8, 1], reply := none } [])
      ∧ ((List.replicate 40 '/').length ≤ 40 ∧ 40 < (List.replicate 41 '/').length ∧ textChar '#' = false
        ∧ ∀ c ∈ List.replicate 40 '/', textChar c = true)
      ∧ ((forwarded yard).station 23).state ≠ .enrolled
      ∧ (((forwarded yard).station 0).state = .enrolled ∧ ((forwarded yard).station 0).kind ≠ some .terminal)
      ∧ (let s := forwarded (readyYard none (some []) yard);
        (s.station 8).state = .enrolled ∧ (s.station 8).kind = some .terminal ∧ (s.station 8).forward ≠ none)
      ∧ ((forwarded yard).station 8).forward = none
      ∧ Meets 28 yard (fun s => 24 < 25 ∧ 255 < 256 ∧ 24 = (23 : StationId).val + 1 ∧ (∀ k ∈ some 255, k ≤ 255) ∧ s.barrier 23 = none
        ∧ s.barrier 4 = some barrierDown) := by
  refine ⟨fun _ => ⟨rfl, rfl, rfl, rfl⟩, ⟨by decide, by decide, by decide, fun c h => by rw [List.eq_of_mem_replicate h]; decide⟩, ?_, ?_, ?_, ?_, meets ?_⟩ <;>
    decide +kernel

/-! ### Tickets and visits -/

theorem witness_SetTicketBase :
    Meets 19 yard (fun _ => 1 ≤ 1 ∧ 1 ≤ 99999999 ∧ 99999999 ≤ 99999999) ∧ Meets 19 State.reset (fun _ => 99999999 < 100000000) := by
  refine ⟨meets ?_, meets ?_⟩ <;> decide

/-- A visit ready for its stamp, lane 2's queue of a length, and the state of its terminal. -/
def stampYard (n jobs : Nat) (st : StationState) : State :=
  oneLeft ((({ yard with counter := .valid n, visits := [{ visitTP with tare := some (.stored 7860), net := some 10380 }], nextVisitKey := 1 } : State).setQueue
    1 { jobs := List.replicate jobs (job 5), phase := .held }).updateStation 9 fun x => { x with state := st })

theorem witness_TicketStamped :
    ∀ x ∈ [(99999999, 0, StationState.lost), (99999998, 8, .enrolled), (1, 0, .enrolled), (1, 7, .enrolled)],
      let s := stampYard x.1 x.2.1 x.2.2
      s.counter = .valid x.1 ∧ s.visit 0 = some { visitTP with tare := some (.stored 7860), net := some 10380 } ∧ visitTP.gross.isSome
        ∧ s.laneRecord 1 = some lane2 ∧ (s.station 9).state = x.2.2 ∧ (s.queue 1).jobs.length = x.2.1 ∧ s.RoomForReport := by
  decide +kernel

theorem witness_PrintOutcomes :
    (∀ n ∈ [1, 99999999], Holds 9 .printOutcome (oneLeft (yard.setQueue 1 { jobs := [job n], phase := .awaitOutcome 19999 })) fun s =>
        s.laneOfTerminal 9 = some 1 ∧ (s.queue 1).jobs = job n :: [] ∧ (s.queue 1).phase = .awaitOutcome 19999 ∧ (job n).number = n
          ∧ s.RoomForReport)
      ∧ Holds 20 .printOutcome (oneLeft yard) (fun s => s.RoomForReport ∧ s.laneOfTerminal 20 = none)
      ∧ Holds 9 .printOutcome (oneLeft yard) (fun s => s.laneOfTerminal 9 = some 1 ∧ (s.queue 1).jobs = [])
      ∧ (∀ p ∈ [DeliveryPhase.waiting, .sending, .held], Holds 9 .printOutcome (oneLeft (queueYard p)) fun s => (s.queue 1).phase = p)
      ∧ Holds 9 .printOutcome (oneLeft (queueYard (.awaitOutcome 0))) (fun s => (s.queue 1).jobs = job 1000402 :: [job 1000403] ∧ (job 1000402).number ≠ 7)
      ∧ (((queueYard (.awaitOutcome 20000)).queue 1).jobs ≠ [] ∧ ((queueYard (.awaitOutcome 20000)).queue 1).phase = .awaitOutcome 20000)
      ∧ ((queueYard .sending).visit (job 1000402).visit = some { visitTP with state := .closing, outcome := some .pending }
        ∧ PrintOutcome.printed ≠ .pending ∧ (queueYard .sending).reports.length < 31
        ∧ ({ queueYard .sending with visits := [visitFL] } : State).visit 0 = some visitFL ∧ visitFL.state ≠ .closing) := by
  refine ⟨?_, holds ?_, holds ?_, ?_, holds ?_, ?_, ?_⟩ <;> decide +kernel

/-- Two visits of one ident: a CLOSED one first, then one standing. -/
def visitsYard (st : VisitState) (out : Option PrintOutcome) : State :=
  { yard with visits := [{ visitFL with key := 5, state := .closed, ticketNo := some 99999999 }, { visitFL with state := st, outcome := out }], nextVisitKey := 6 }

theorem witness_VisitReads :
    Meets 20 (visitsYard .ticketed none) (fun s => s.visits.Pairwise (fun a b => a.key ≠ b.key)
        ∧ s.visits = [{ visitFL with key := 5, state := .closed, ticketNo := some 99999999 }] ++ { visitFL with state := .ticketed, outcome := none } :: []
        ∧ validIdent visitFL.ident = true ∧ visitFL.ticketNo = some 1000301
        ∧ s.visits.length < 3 ∧ (∀ x ∈ s.visits, x.ticketNo ≠ some 7) ∧ ∀ x ∈ s.visits, x.ident ≠ "X".toList)
      ∧ (visitsYard .ticketed none).visits.length < 64
      ∧ Meets 21 (visitsYard .ticketed none) (fun s => (head 21).body.length = 1 ∧ s.visits = [] ++ { visitFL with key := 5, state := .closed, ticketNo := some 99999999 } :: [{ visitFL with state := .ticketed, outcome := none }])
      ∧ Meets 21 { yard with visits := [visitFL] } (fun s => ∀ x ∈ s.visits, x.state ≠ .closed)
      ∧ (let h : Request := { head 21 with body := [21, 0] };
        ({ yard with buffer := [h] } : State).HasHead 21 h [] ∧ h.body.length ≠ 1) := by
  refine ⟨meets ?_, ?_, meets ?_, meets ?_, ?_⟩ <;> decide +kernel

theorem witness_VisitClears :
    Meets 22 (visitsYard .ticketed none) (fun s => s.visits.Pairwise (fun a b => a.key ≠ b.key) ∧ (∀ x ∈ s.visits, x.ticketNo ≠ some 7)
        ∧ (∀ x ∈ s.visits, x.ident ≠ "X".toList)
        ∧ s.visits = [] ++ { visitFL with key := 5, state := .closed, ticketNo := some 99999999 } :: [{ visitFL with state := .ticketed, outcome := none }]
        ∧ validIdent visitFL.ident = true)
      ∧ Meets 22 { yard with visits := [visitFL] } (fun s => s.visits = [] ++ visitFL :: [] ∧ visitFL.ticketNo = some 1000301 ∧ visitFL.state ≠ .closed
        ∧ ∀ x ∈ s.visits, x.ident = visitFL.ident → x.state ≠ .closed)
      ∧ (∀ st ∈ [VisitState.reserved, .closing, .closed, .open_, .ticketed], Meets 23 (visitsYard st (some .pending)) fun s =>
        s.visits = [{ visitFL with key := 5, state := .closed, ticketNo := some 99999999 }] ++ { visitFL with state := st, outcome := some .pending } :: []
          ∧ ∀ x ∈ [{ visitFL with key := 5, state := .closed, ticketNo := some 99999999 }], x.ticketNo ≠ some 1000301 ∧ x.state.standing = false) := by
  refine ⟨meets ?_, meets ?_, ?_⟩ <;> decide +kernel

/-! ### The office line and the resets -/

theorem witness_OfficeFrameArrives :
    State.reset.receiver = none ∧ (List.replicate 1024 (0 : Byte)).length ≤ 1024 ∧ ([] : List Byte).length ≤ 1024
      ∧ ({ yard with buffer := List.replicate 3 (head 18) } : State).buffer.length < 4
      ∧ (let s : State := { yard with buffer := List.replicate 4 (head 18), refusals := List.replicate 3 { tag := 1, name := .forward } };
        4 ≤ s.buffer.length ∧ s.refusals.length < 4)
      ∧ (let s : State := { yard with buffer := List.replicate 4 (head 18), refusals := List.replicate 4 { tag := 1, name := .forward } };
        4 ≤ s.buffer.length ∧ 4 ≤ s.refusals.length)
      ∧ (0x61 : Byte) ≠ 0x51 ∧ (0x61 : Byte) ≠ 0x54
      ∧ (officeFrameBytes (RequestKind.byte .request) 0x0A [0x1F]).drop 6 ≠ [0, 0] := by
  refine ⟨rfl, by rw [List.length_replicate], by decide, ?_, ?_, ?_, ?_, ?_, ?_⟩ <;> decide +kernel

/-- Requests of the numbers 0 and 32 and of no number. -/
def unknownHead (body : List Byte) : Request := { kind := .request, tag := 7, body := body, reply := none }
def someReport : Report := { body := .degradeCleared 0, stamp := none }

theorem witness_OfficeLine :
    (∀ body ∈ [[], [0], [32], [255]], let s : State := { yard with buffer := [unknownHead body] };
        s.buffer = unknownHead body :: [] ∧ (unknownHead body).kind = .request ∧ (unknownHead body).reply = none
          ∧ s.resetsDue = .clear ∧ ((unknownHead body).body = [] ∨ ∃ b ∈ (unknownHead body).body.head?, b.toNat = 0 ∨ 31 < b.toNat))
      ∧ yard.line = none
      ∧ ({ yard with refusals := [{ tag := 14, name := .number 24 }] } : State).refusals = { tag := 14, name := .number 24 } :: []
      ∧ (let s : State := { yard with buffer := [{ head 18 with reply := some (.plain .ok) }] };
        s.refusals = [] ∧ s.buffer = { head 18 with reply := some (.plain .ok) } :: [])
      ∧ (let s : State := { yard with reports := [someReport] };
        s.refusals = [] ∧ s.buffer = [] ∧ s.reports = someReport :: [])
      ∧ (∀ f ∈ [OutFrame.refusal 14 (.number 24), .reply 7 (.number 18) (.plain .ok), .report someReport true 255],
        ({ yard with line := some f } : State).line = some f)
      ∧ ({ yard with reports := List.replicate 31 someReport } : State).reports.length < 32
      ∧ 32 ≤ ({ yard with reports := List.replicate 32 someReport } : State).reports.length := by
  refine ⟨?_, ?_, ?_, ?_, ?_, ?_, ?_, ?_⟩ <;> decide +kernel

/-- A FORWARD or a REQUEST with a body that cannot be read. -/
theorem witness_MisfitBodiesRefused :
    (∀ k : Nat, (asked k yard).HasHead k (head k) [])
      ∧ (∀ k ∈ [21, 30, 31], let h : Request := { head k with body := [BitVec.ofNat 8 k, 0] };
        ({ yard with buffer := [h] } : State).HasHead k h [] ∧ h.body.length ≠ 1)
      ∧ (let h : Request := { kind := .forward, tag := 3, body := [], reply := none };
        ({ yard with buffer := [h] } : State).HasForward h []) := by
  refine ⟨fun k => asked_head k yard, ?_, ?_⟩ <;> decide +kernel

/-- The yard with a reset one Deck Engine and the Ticket Stamper have not taken. -/
def yardResetDue : State :=
  { asked 31 yard with resetsDue := { ResetsDue.clear with decks := ResetsDue.clear.decks.set 3 true, tickets := true } }

/-- An IDENTIFY behind that reset waits; it is answered once the blocks have taken it. -/
theorem test_request_behind_reset :
    shows (exec .identify yardResetDue) code = some none
      ∧ shows (exec .identify yardResetDue.takeResets) code = some (some .ok) := by decide +kernel

theorem witness_IdentifyAndYardReset :
    Meets 31 yard (fun _ => (head 31).body.length = 1)
      ∧ Meets 30 { yard with line := some (.report someReport true 255), reports := [someReport, someReport], dropped := 255 } (fun s =>
        (head 30).body.length = 1 ∧ s.line = some (.report someReport true 255))
      ∧ Meets 30 { yard with reports := [someReport] } (fun s => s.line = none)
      ∧ (yardResetDue.resetsDue.decks[(3 : DeckId)] = true ∧ yardResetDue.resetsDue.tickets = true) := by
  refine ⟨meets ?_, meets ?_, meets ?_, ?_⟩ <;> decide +kernel

/-- Yard resets handed to every block. -/
def resetsYard (s : State) : State := { s with resetsDue := .all }

/-- The yard with a terminal lost and every reset due. -/
def lostYard : State := resetsYard (yard.updateStation 8 fun x => { x with state := .lost })

theorem witness_BlocksTakeYardReset :
    (∀ d : DeckId, lostYard.resetsDue.decks[d] = true) ∧ lostYard.resetsDue.visits = true ∧ lostYard.resetsDue.barriers = true
      ∧ lostYard.resetsDue.tickets = true ∧ lostYard.resetsDue.lanes = true ∧ (lostYard.lane 3).state = .closed
      ∧ lostYard.laneRecord 0 = some lane1 ∧ (lostYard.lane 0).state ≠ .closed ∧ lostYard.stationsEnrolled lane1 = false
      ∧ lostYard.HoldLaw := by
  refine ⟨?_, ?_, ?_, ?_, ?_, ?_, ?_, ?_, ?_, ⟨?_, ?_, ?_, ?_⟩⟩ <;> decide +kernel

/-- A lane over the deck with its visit RESERVED, its exit barrier in MANUAL, and the queue of lane 2 with the job of a visit
CLOSING: the hold law, the reservation, and the queue to flush. -/
def busyReset : State :=
  resetsYard (((onDeck .weighing).setBarrier 5 (some { barrierDown with state := .manual, commanded := .hold })).setQueue 1
    { jobs := [{ job 1000402 with visit := 0 }], phase := .held })

theorem witness_BlocksTakeYardReset_flush :
    (busyReset.queue 1).jobs = [] ++ { job 1000402 with visit := 0 } :: [] ∧ (busyReset.queue 0).jobs = []
      ∧ busyReset.visit 0 = some (newVisit 0 0 vehicle) ∧ (newVisit 0 0 vehicle).state = .reserved
      ∧ (newVisit 0 0 vehicle).entryLane = 0 ∧ (busyReset.lane 0).reservation = some 0
      ∧ busyReset.barrierStopped lane1.exitBarrier = true ∧ (busyReset.arbiter lane1.deck).holder = some 0
      ∧ busyReset.reports.length + 4 ≤ 32 ∧ busyReset.HoldLaw
      ∧ (resetsYard (queueYard .held)).visit (job 1000402).visit = some { visitTP with state := .closing, outcome := some .pending } := by
  refine ⟨?_, ?_, ?_, ?_, ?_, ?_, ?_, ?_, ?_, ⟨?_, ?_, ?_, ?_⟩, ?_⟩ <;> decide +kernel

/-- The barrier in MANUAL keeps the lane in RECOVER although it was last told DOWN (R63, R122). -/
theorem test_manual_keeps_recover :
    shows (exec .laneYardReset busyReset) (fun t => ((t.lane 0).state, (t.arbiter 0).holder, (t.lane 0).claim))
      = some (.recover, some 0, .held) := by decide +kernel

/-! ### The laws: a lawful yard in which a step runs -/

/-- Barrier 5 under RAISE over an OCCUPIED loop, and an office LOWER waiting. -/
def lawYard : State :=
  { asked 24 (barrierYard { barrierDown with commanded := .raise, loop := some .occupied, position := .up, state := .up }) with
    pending := [.barrierOrder (.fits { station := 5, order := .lower })] }

theorem witness_InterlockKept : lawYard.InterlockLaw ∧ ∃ t, step lawYard = .next t :=
  ⟨fun n b e => (by decide +kernel : ∀ n, ∀ b ∈ lawYard.barrier n, b.loop = some .occupied → b.commanded ≠ .lower) n b e,
    next_of_shows (by decide +kernel)⟩

/-- The deck of 2.10, T at the bound, a tracking step waiting. -/
def zeroLawYard : State := { yard.setDeck 0 (deck210 32000 250) with pending := [.trackingStep 0] }

theorem witness_ZeroLawKept : zeroLawYard.ZeroLaw ∧ ∃ t, step zeroLawYard = .next t :=
  ⟨fun d r z e f => (by decide +kernel : ∀ d, ∀ r ∈ (zeroLawYard.deck d).record, ∀ z ∈ (zeroLawYard.deck d).zeros,
      (z.tracked - z.captured).natAbs ≤ 20 * r.capacity ∧ (z.captured - z.refZero).natAbs ≤ 100 * r.capacity) d r e z f,
    next_of_shows (by decide +kernel)⟩

/-- A visit standing and a read of its ident waiting. -/
def visitLawYard : State :=
  { sent 12 .identRead (inState 0 .identify none { yard with visits := [newVisit 0 0 vehicle], nextVisitKey := 1 }) with
    pending := [.identRead 12 (.fits { ident := "RC-4471".toList, source := .tag, quality := 90 })] }

theorem witness_VisitLawKept : visitLawYard.VisitLaw ∧ ∃ t, step visitLawYard = .next t :=
  ⟨⟨by decide +kernel, by decide +kernel, by decide +kernel⟩, next_of_shows (by decide +kernel)⟩

/-- Full office buffers, frame 7 and the counters at their tops. -/
def boundsYard : State :=
  { State.updateSlot yard 4 (fun x => { x with near := 255, far := 255 }) with
    nextFrame := 7, frameInHand := some 7, periodCount := 999, dropped := 255, buffer := List.replicate 4 (head 18),
    refusals := List.replicate 4 { tag := 1, name := .forward }, reports := List.replicate 32 someReport,
    clock := { set := true, seconds := 4294967295, frames := 1000 }, pending := [.clockSecond] }

theorem witness_BoundsKept :
    boundsYard.FrameLaw ∧ boundsYard.CounterLaw ∧ boundsYard.OfficeLaw ∧ boundsYard.TableLaw ∧ ∃ t, step boundsYard = .next t :=
  ⟨⟨by decide +kernel, fun f e => (by decide +kernel : ∀ f ∈ boundsYard.frameInHand, f < 8) f e, by decide +kernel, by decide +kernel⟩,
    ⟨by decide +kernel, fun n b e => (by decide +kernel : ∀ n, ∀ b ∈ boundsYard.barrier n, b.obstructions ≤ 255) n b e⟩,
    ⟨by decide +kernel, by decide +kernel, by decide +kernel, by decide +kernel⟩,
    ⟨by decide +kernel, by decide +kernel, by decide +kernel⟩, next_of_shows (by decide +kernel)⟩

/-- Both lanes waiting for the deck, which is free: a grant waiting. -/
def holdYard : State :=
  { ((yard.updateLane 0 fun c => { c with state := .awaitDeck, claim := .waiting }).updateLane 1
      fun c => { c with state := .awaitDeck, claim := .waiting }).setArbiter 0 { holder := none, claims := [1, 0] } with
    pending := [.deckGrant 0] }

theorem witness_HoldLawKept : holdYard.HoldLaw ∧ ∃ t, step holdYard = .next t :=
  ⟨⟨by decide +kernel, by decide +kernel, by decide +kernel, by decide +kernel⟩, next_of_shows (by decide +kernel)⟩

/-! ### Witnesses of the wider clauses -/

/-- The units of a send channel: the kind, the length, the first and the last of 60 body units. -/
theorem witness_FrameLayout_units :
    ∀ u ∈ [0, 1, 2, 61],
      let c : SendChannel := { SendChannel.reset with
        phase := .sending
        message := some { msg := { kind := 0x22, body := List.replicate 60 7, source := .forward }, unit := u, attempt := 1 } }
      c.phase = .sending ∧ (c.message.map Progress.unit = some u) ∧ ((2 = 0 + 2 ∧ 0 < 60) ∧ (61 = 59 + 2 ∧ 59 < 60))
        ∧ SendChannel.reset.phase ≠ .sending := by
  decide +kernel

/-- A record of a working station and of the digitizer of a deck in frame 0, one slot short of ALIVE; nothing for a slot one
short of SILENT. -/
theorem witness_UpstreamSlotCounted_working :
    (∀ n ∈ [(0 : StationId), 4, 8, 12],
        let s := State.updateSlot { yard with frameInHand := some 0 } n fun x => { x with awaited := true, goodRun := 2, alive := true, badRun := 5 };
        s.frameInHand = some 0 ∧ (s.slot n).awaited = true ∧ (s.station n).state = .enrolled
          ∧ judgeSlot n 0 (groupRecord.bytes n) = .good groupRecord ∧ judgeSlot n 0 [] = .missing)
      ∧ yard.deckOfDigitizer 0 = some 0 := by
  refine ⟨?_, ?_⟩ <;> decide +kernel

/-- A code that completes a pair, at each role and at an ENROLLED station with none; a value no kind defines. -/
def pairYard' (n : StationId) (c : Code) : State :=
  oneLeft (State.updateSlot yard n fun x => { x with lastCode := some c, taken := some 0 })

theorem witness_UpstreamSlotCounted_codes :
    (∀ x ∈ [((0 : StationId), StationKind.digitizer, some Role.digitizer), (4, .barrierDrive, some .barrier),
        (12, .identReader, some .reader), (8, .terminal, some (.terminal false))], ∀ c ∈ [(1 : Code), 15],
        let s := pairYard' x.1 c;
        (s.slot x.1).lastCode = some c ∧ (s.slot x.1).taken ≠ some c ∧ (s.station x.1).state = .enrolled
          ∧ (s.station x.1).kind = some x.2.1 ∧ s.role x.1 = x.2.2 ∧ codeDefined x.2.1 15 = false ∧ s.RoomForReport)
      ∧ (let s := (pairYard' 20 1).updateStation 20 fun x => { x with state := .enrolled, kind := some .terminal };
        (s.station 20).state = .enrolled ∧ (s.station 20).kind = some .terminal ∧ s.role 20 = none)
      ∧ ((pairYard' 20 1).station 20).state ≠ .enrolled
      ∧ (yard.slot 4).lastCode ≠ some 1 ∧ ((pairYard' 4 0).slot 4).taken = some 0 := by
  refine ⟨?_, ?_, ?_, ?_, ?_⟩ <;> decide +kernel

/-- A terminal and a reader before and after FAULT, and each presence edge in each kind of lane state. -/
theorem witness_UpstreamSlotCounted_edges :
    (oneLeft yard).laneOfTerminal 8 = some 0 ∧ (oneLeft yard).laneRecord 0 = some lane1 ∧ (oneLeft yard).laneOfReader 12 = some 0
      ∧ (oneLeft yard).RoomForReport ∧ terminalStatus 9 = .fault ∧ terminalStatus 0 = .shows .ready false
      ∧ terminalStatus 5 = .shows .out true
      ∧ (∀ st ∈ [LaneState.idle, .identify, .awaitDeck, .refused, .weighing], ∀ p,
        ((withLane 0 (fun c => { c with present := p }) (inState 0 st none yard)).lane 0).present = p)
      ∧ (let s := inState 0 .referred (some .noIdent) yard;
        (s.lane 0).state = .referred ∧ (s.lane 0).reason = some .noIdent ∧ ReferralReason.noIdent.beforeEntry = true)
      ∧ ((9 : Code) ≠ 0 ∧ (9 : Code) ≠ 1 ∧ (2 : Code) ≠ 0 ∧ (2 : Code) ≠ 1)
      ∧ (∀ span ∈ [0, 250], ((yard.setDeck 0 { activeDeck with record := some { deckRecord with transitSpan := span } }).deck 0).record
        = some { deckRecord with transitSpan := span }) := by
  refine ⟨?_, ?_, ?_, ?_, ?_, ?_, ?_, ?_, ?_, ?_, ?_⟩ <;> decide +kernel

/-- A receive channel whose unit completes its message, one whose length is refused, and one that goes on. -/
def unitYard (p : Partial) (u : UnitFields) : State :=
  oneLeft (State.updateStation { yard with frameInHand := some 0 } 8 fun x =>
    { x with receive := { phase := .receiving p, answer := .taken0, candidate := some { fields := u, frame := 7 },
                          lastTaken := some (.first, false), stale := 3 } })

theorem witness_UpstreamSlotCounted_units :
    (let u : UnitFields := { mark := .next, parity := true, unit := 0 };
      let s := unitYard { kind := .keyEntry, length := none, body := [] } u;
      (s.station 8).state = .enrolled ∧ ((s.station 8).receive.frame .enrolled 0 (some u)).2 = .complete { kind := .keyEntry, body := [] })
      ∧ (let u : UnitFields := { mark := .next, parity := true, unit := 61 };
        let s := unitYard { kind := .keyEntry, length := none, body := [] } u;
        ((s.station 8).receive.frame .enrolled 0 (some u)).2 = .badValue 61 ∧ s.RoomForReport)
      ∧ ((((unitYard { kind := .keyEntry, length := none, body := [] } { mark := .next, parity := true, unit := 1 }).station 8).receive.frame
          .enrolled 0 none).2 = .none)
      ∧ (yard.station 20).state = .silent := by
  refine ⟨?_, ?_, ?_, ?_⟩ <;> decide +kernel

/-- Terminal 9 with a forward and a queue, and the digitizer of an ACTIVE deck, about to be lost with two free places. -/
theorem witness_SlotPresenceChanges_roles :
    (let s : State := { (State.updateSlot (readyYard none (some "GO".toList) jobYard) 8 fun x => { x with alive := true, badRun := 6 }) with
        reports := List.replicate 30 { body := .degradeCleared 0, stamp := none } };
      (s.slot 8).alive = true ∧ (s.slot 8).badRun = 6 ∧ (s.station 8).state = .enrolled ∧ s.reports.length < 31
        ∧ (s.station 8).forward ≠ none ∧ s.laneOfTerminal 8 = some 0)
      ∧ yard.deckOfDigitizer 0 = some 0 ∧ (yard.deck 0).state ≠ .unconfigured ∧ (yard.deck 0).state ≠ .waiting := by
  refine ⟨?_, ?_, ?_, ?_⟩ <;> decide +kernel

/-- A group accepted in each state that weighs: a capture that passes, one group before its failure and at it, a window one
group from full, an occupied and an empty deck. -/
def groupDeck (st : DeckState) (count : Nat) (ring : List RingEntry) (stable : Nat) : State :=
  oneLeft (yard.setDeck 0 { activeDeck with state := st, captureCount := count, ring := ring, stable := stable })
/-- A group of the deck's own zero. -/
def zeroGroup : SampleGroup :=
  { sequence := 7, counts := ⟨200500, 198800, 205400, 190100⟩, saturated := ⟨false, false, false, false⟩ }

theorem witness_SampleGroupAccepted_states :
    (∀ st ∈ [DeckState.capturing, .active, .waking, .warmRest], let s := groupDeck st 1248 (List.replicate 31 ⟨46200, 0⟩) 0;
        (s.deck 0).record = some deckRecord ∧ s.excited 0 = false ∧ sequenceCheck (s.deck 0).last zeroGroup.sequence = some 0
          ∧ (s.deck 0).state = st ∧ (s.deck 0).zeros = activeDeck.zeros ∧ s.RoomForReport)
      ∧ (∀ k ∈ [1248, 1249], let s := groupDeck .capturing k (List.replicate 31 ⟨46200, 0⟩) 0;
        let a := (s.deck 0).accepted deckRecord zeroGroup 0;
        a.judged ≠ .stable ∧ a.captureCount = k ∧ a.profile = .nominal ∧ 32 ≤ a.ring.length)
      ∧ (let s := groupDeck .waking 0 (List.replicate 30 ⟨46200, 0⟩) 0;
        ((s.deck 0).accepted deckRecord zeroGroup 0).ring.length < 32)
      ∧ (((groupDeck .warmRest 0 (List.replicate 31 ⟨30076118, 0⟩) 0).deck 0).accepted deckRecord group15 0).occupancy = .occupied
      ∧ (((groupDeck .warmRest 0 (List.replicate 31 ⟨46200, 0⟩) 0).deck 0).accepted deckRecord zeroGroup 0).occupancy = .empty := by
  refine ⟨?_, ?_, ?_, ?_, ?_⟩ <;> decide +kernel

theorem witness_SampleGroupAccepted_capture :
    let s := yard.setDeck 0 { activeDeck with state := .capturing, ring := List.replicate 63 ⟨rawMass deckRecord zeroGroup.counts, 0⟩ }
    let a := (s.deck 0).accepted deckRecord zeroGroup 0
    a.judged = .stable ∧ (roundDiv ((a.ring.take 32).map RingEntry.mass).sum 32 - 46000).natAbs ≤ 100 * 60000 := by
  decide +kernel

theorem witness_SampleGroupAccepted_counts :
    (∀ k ∈ [0, 254], let s := oneLeft (yard.setDeck 0 { activeDeck with streamInterval := 255, streamCount := k });
        (s.deck 0).streamInterval ≠ 0 ∧ (s.deck 0).state = .active ∧ (k = 0 → k + 1 < 255) ∧ (k = 254 → 255 ≤ k + 1) ∧ s.RoomForReport)
      ∧ (yard.deck 0).streamInterval = 0
      ∧ (∀ k ∈ [123, 124], let s := yard.setDeck 0 { activeDeck with trackingCount := k };
        (s.deck 0).record = some deckRecord ∧ deckRecord.zeroTracking = true ∧ (s.deck 0).zeroLimit = false ∧ (s.deck 0).state = .active
          ∧ (s.deck 0).judged = .stable ∧ (s.deck 0).value = some 0 ∧ (s.arbiter 0).holder = none ∧ (s.deck 0).trackingCount = k)
      ∧ ((yard.setDeck 0 { activeDeck with judged := .motion }).deck 0).judged ≠ .stable := by
  refine ⟨?_, ?_, ?_, ?_⟩ <;> decide +kernel

/-- A lane waiting for its deck, and one that holds a reservation, its record still RESERVED and OPEN. -/
theorem witness_LaneStateEntered_frees :
    (let s := (withLane 0 (fun c => { c with claim := .waiting }) (inState 0 .awaitDeck none yard)).setArbiter 0 { holder := none, claims := [0, 1] };
      s.laneRecord 0 = some lane1 ∧ (s.lane 0).claim = .waiting)
      ∧ (∀ st ∈ [VisitState.reserved, .open_], let s : State := { onDeck .recover with visits := [{ newVisit 0 0 vehicle with state := st }] };
        s.laneRecord 0 = some lane1 ∧ (s.lane 0).claim ≠ .waiting ∧ (s.lane 0).reservation = some 0
          ∧ s.visit 0 = some { newVisit 0 0 vehicle with state := st } ∧ (newVisit 0 0 vehicle).entryLane = 0)
      ∧ (LaneState.fault ≠ .idle ∧ LaneState.fault ≠ .refused ∧ LaneState.fault ≠ .recover ∧ LaneState.fault ≠ .closed)
      ∧ (oneLeft (onDeck .weighing)).RoomForReport := by
  refine ⟨?_, ?_, ?_, ?_⟩ <;> decide +kernel

/-- Lane 1 in RECOVER: its barriers told DOWN, with no holder, holding an EMPTY and an OCCUPIED deck, the partner holding. -/
def recoverYard (holder : Option LaneId) (occ : Occupancy) : State :=
  (laneIn .recover holder).setDeck 0 { activeDeck with occupancy := occ }

theorem witness_LaneService_recover :
    (∀ h ∈ [none, some (0 : LaneId), some 1], ∀ occ ∈ [Occupancy.empty, .occupied], let s := recoverYard h occ;
        s.laneRecord 0 = some lane1 ∧ (s.lane 0).state = .recover ∧ s.stationsEnrolled lane1 = true
          ∧ s.barrier 4 = some barrierDown ∧ s.barrier 5 = some barrierDown ∧ barrierDown.told = .down
          ∧ barrierDown.state ≠ .fault ∧ barrierDown.state ≠ .manual ∧ (s.arbiter lane1.deck).holder = h
          ∧ (s.deck lane1.deck).occupancy = occ)
      ∧ (let s := (recoverYard none .empty).setBarrier 5 (some { barrierDown with state := .manual });
        s.barrier 5 = some { barrierDown with state := .manual } ∧ s.laneRecord 0 = some lane1)
      ∧ (yard.lane 0).state ≠ .recover
      ∧ Meets 7 yard (fun s => s.laneRecord 3 = none) ∧ Meets 8 yard (fun s => s.laneRecord 3 = none) := by
  refine ⟨?_, ?_, ?_, meets ?_, meets ?_⟩ <;> decide +kernel

theorem test_recover_goes_idle :
    shows (.next ((recoverYard (some 0) .empty).testRecover 0)) (fun t => ((t.lane 0).state, (t.arbiter 0).holder)) = some (.idle, none)
      ∧ shows (.next ((recoverYard (some 0) .occupied).testRecover 0)) (fun t => (t.lane 0).state) = some .recover := by decide +kernel

/-- A pending category at each line of the lookup. -/
theorem witness_AdmissionDecision_pending :
    (∀ st ∈ [VehicleStatus.bars, .refers, .admits], let s := oneLeft (withLane 0 (fun c => { c with pendingCategory := some 4 }) (decisionYard st .both .refer));
        s.laneRecord 0 = some { lane1 with direction := .both, cashCategory := some 2 } ∧ (s.lane 0).pendingCategory = some 4
          ∧ s.RoomForReport ∧ s.lookup "FL-208".toList = some { recordFL with status := st } ∧ s.outVisit "FL-208".toList = none
          ∧ s.permits recordFL.vehicle 4 = false ∧ s.lookup "X".toList = none)
      ∧ (let s := decisionYard .admits .inward .admitCash;
        s.permits { vehicle with permitted := [2] } 2 = true) := by
  refine ⟨?_, ?_⟩ <;> decide +kernel

/-- The deck of a capture at the threshold of 1,000 kg, and one gram below it. -/
theorem witness_ReleaseAndRetry_capture :
    (∀ w ∈ [(1000000 : Int), 14620000], let s := oneLeft ((onDeck .weighing).setDeck 0 { activeDeck with occupancy := .occupied, reading := { activeDeck.reading with value := some w } });
        s.laneRecord 0 = some lane1 ∧ (s.lane 0).state = .weighing ∧ (s.deck lane1.deck).state = .active
          ∧ (s.arbiter lane1.deck).holder = some 0 ∧ (s.deck lane1.deck).reading.state = .stable
          ∧ (s.deck lane1.deck).reading.value = some w ∧ (s.deck lane1.deck).record = some deckRecord
          ∧ ((1000 * deckRecord.occupancyThreshold * deckRecord.division : Nat) : Int) ≤ w
          ∧ s.barrier lane1.entryBarrier = some barrierDown ∧ s.barrier lane1.exitBarrier = some barrierDown
          ∧ barrierDown.told = .down ∧ s.RoomForReport)
      ∧ ¬ ((1000 * deckRecord.occupancyThreshold * deckRecord.division : Nat) : Int) ≤ 999999 := by
  refine ⟨?_, ?_⟩ <;> decide +kernel

/-- The passages of a capture: inbound by both policies, outbound against an OPEN, a TICKETED and a gone visit, and none. -/
def captureYard (p : Passage) (policy : TarePolicy) (target : Option Nat) (st : VisitState) : State :=
  oneLeft { onDeck .weighing with
    lanes := (onDeck .weighing).lanes.set 0 { (onDeck .weighing).lane 0 with
      passage := some p, target := target, vehicle := some { vehicle with tarePolicy := policy, storedTare := some 9460 } }
    visits := [{ visitFL with state := st }] }

theorem witness_ReleaseAndRetry_steps :
    (∀ policy ∈ [TarePolicy.weighEach, .stored, .storedAuto], let s := captureYard .inbound policy none .reserved;
        (s.lane 0).passage = some .inbound ∧ (s.lane 0).vehicle = some { vehicle with tarePolicy := policy, storedTare := some 9460 })
      ∧ (∀ st ∈ [VisitState.open_, .ticketed, .closed], let s := captureYard .outbound .stored (some 0) st;
        (s.lane 0).passage = some .outbound ∧ (s.lane 0).target = some 0 ∧ s.visit 0 = some { visitFL with state := st }
          ∧ visitFL.gross.isSome ∧ visitFL.storedTare = some 9460 ∧ (s.deck lane1.deck).record = some deckRecord
          ∧ s.RoomForReport ∧ s.findsGone 0 = (st == .closed))
      ∧ (let s := captureYard .outbound .stored none .open_; (s.lane 0).passage = some .outbound ∧ (s.lane 0).target = none)
      ∧ yard.counter = .valid 1000402 ∧ (∀ k, State.reset.counter ≠ .valid k) ∧ vehicle.category = some 2 := by
  refine ⟨?_, ?_, ?_, ?_, fun k => ?_, ?_⟩
  · decide +kernel
  · decide +kernel
  · decide +kernel
  · decide +kernel
  · simp [State.reset]
  · decide +kernel

/-- Position codes that move, reverse and return a barrier, at each arm loop. -/
theorem witness_BarrierRecordTakesCode_codes :
    (∀ x ∈ [((0 : Code), Position.down, ArmLoop.clear), (1, .down, .occupied), (2, .up, .clear), (3, .up, .occupied), (4, .rising, .clear),
        (5, .rising, .occupied), (6, .falling, .clear), (7, .falling, .occupied)], barrierStatus x.1 = .shows x.2.1 x.2.2)
      ∧ ((barrierYard stepC).barrier 4 = some stepC ∧ stepC.commanded = .lower ∧ stepC.returns .falling = false)
      ∧ (let b := stepC.stops .fault; (barrierYard b).barrier 4 = some b ∧ b.returns .down = true ∧ b.commanded ≠ .lower ∧ (barrierYard b).RoomForReport)
      ∧ (let b := { stepC with position := .falling, timer := some 6000 }.timedOut;
        b.returns .falling = false ∧ b.returns .down = true)
      ∧ stepC.lost.returns .unknown = true := by
  refine ⟨?_, ?_, ?_, ?_, ?_⟩ <;> decide +kernel

/-- The holder that names the barrier, a holder that does not, and no holder. -/
theorem witness_BarrierRecordTakesCode_edges :
    (∀ h ∈ [some (0 : LaneId), some 3, none], let s := oneLeft (laneIn .entering h);
        s.barrierDeck 4 = some 0 ∧ (s.arbiter 0).holder = h ∧ ((0 : LaneId), BarrierRole.entry) ∈ s.barrierLanes 4
          ∧ ((3 : LaneId), BarrierRole.entry) ∉ s.barrierLanes 4 ∧ ((3 : LaneId), BarrierRole.exit) ∉ s.barrierLanes 4
          ∧ s.barrier 4 = some barrierDown ∧ s.RoomForReport)
      ∧ (∀ closing, ∀ occ ∈ [Occupancy.occupied, .empty],
        let s := (withLane 0 (fun c => { c with closing := closing }) (laneIn .entering (some 0))).setDeck 0 { activeDeck with occupancy := occ };
        (s.lane 0).state = .entering ∧ (s.lane 0).closing = closing ∧ (s.deck lane1.deck).occupancy = occ)
      ∧ (let s := laneIn .releasing (some 0); (s.lane 0).state = .releasing ∧ s.laneRecord 0 = some lane1)
      ∧ (∀ x ∈ [(EdgeSelect.arrive, Edge.arrive), (.depart, .depart), (.both, .arrive), (.both, .depart)],
        let b : BarrierRecord := { barrierDown with mode := .stagedLoop, edge := x.1, staged := some .lower };
        (barrierYard b).barrier 4 = some b ∧ b.mode = .stagedLoop ∧ b.staged = some .lower)
      ∧ barrierDown.staged = none := by
  refine ⟨?_, ?_, ?_, ?_, ?_⟩ <;> decide +kernel

/-- A lane's request: from the holder, a recovery LOWER of an unheld deck, and neither; and the lane states that act when told. -/
theorem witness_BarrierRecordTakesCode_lanes :
    (∀ x ∈ [(LaneState.entering, some (0 : LaneId)), (.recover, none), (.recover, some 1), (.weighing, some 0), (.leaving, some 0), (.idle, none)],
        let s := laneIn x.1 x.2;
        s.laneRecord 0 = some lane1 ∧ s.barrier lane1.entryBarrier = some barrierDown ∧ s.barrier lane1.exitBarrier = some barrierDown
          ∧ (s.lane 0).state = x.1 ∧ (s.arbiter lane1.deck).holder = x.2)
      ∧ ((withLane 0 (fun c => { c with closing := true }) (laneIn .entering (some 0))).lane 0).closing = true
      ∧ (let b := { barrierDown with told := .up }; (barrierYard b).barrier 4 = some b ∧ b.told ≠ .down)
      ∧ { barrierDown with state := .manual }.outOfService = true := by
  refine ⟨?_, ?_, ?_, ?_⟩ <;> decide +kernel

/-- Step 7 of R105 comes last: a lane that acts on the edge in step 6 still finds the position last told, here UP, and the
telling of DOWN then ends its closing phase. -/
theorem test_told_last :
    let s := ((withLane 0 (fun c => { c with closing := true }) (onDeck .entering)).setBarrier 4
      (some { barrierDown with position := .falling, told := .up, loop := some .occupied, commanded := .raise })).setBarrier 5
        (some barrierDown)
    (s.closingTest 0).lane 0 = s.lane 0
      ∧ shows (.next (s.barrierCode 4 0)) (fun t => ((t.barrier 4).map BarrierRecord.told, (t.lane 0).state)) = some (some .down, .weighing) := by
  decide +kernel

/-- A LOWER under LOWER on a CLEAR loop in DIRECT mode. -/
theorem witness_BarrierOrders_lower :
    Meets 24 (barrierYard barrierDown) fun s => s.barrier 4 = some barrierDown ∧ s.lanesQuiet 4 = true ∧ barrierDown.mode = .direct
      ∧ barrierDown.commanded = .lower ∧ barrierDown.loop ≠ some .occupied ∧ s.RoomForReport := by
  refine meets ?_
  decide +kernel

/-- A base page with nothing to follow, in each state; pages that make the number complete; the fifth and sixth failure. -/
def soloPage : EnrolPage := .base .terminal { reducedRate := false, off := false, cardReader := true, keypad := true } 7 0 false

theorem witness_Enrolment_restart :
    (∀ st ∈ [StationState.rejected, .enrolled], Holds 20 .enrolPage (enrolYard st [] 0 0) fun s => (s.station 20).state = st ∧ s.RoomForReport)
      ∧ (∀ k ∈ [5, 6], Holds 20 .enrolPage (enrolYard .enrolling [basePage] k 0) fun s => (s.station 20).state = .enrolling
        ∧ (s.station 20).pages.getLast? = some basePage ∧ basePage.toggle ≠ soloPage.toggle ∧ (s.station 20).failed = k)
      ∧ Holds 20 .enrolPage (enrolYard .enrolling [basePage, .next 1 [] false] 0 0) (fun s =>
        (s.station 20).pages = basePage :: [.next 1 [] false] ∧ [EnrolPage.next 1 [] false].length + 1 = 2
          ∧ (basePage :: [EnrolPage.next 1 [] false]).getLast? = some (.next 1 [] false)
          ∧ (EnrolPage.next 1 [] false).toggle ≠ true ∧ 2 = (EnrolPage.next 1 [] false).number + 1)
      ∧ ((enrolYard .enrolling [soloPage] 0 0).station 20).pages = [soloPage] ∧ (enrolYard .enrolling [soloPage] 0 0).role 20 = none
      ∧ (let s := oneLeft (State.updateStation yard 4 fun x => { x with state := .enrolling, pages := [soloPage] });
        (s.station 4).pages = [soloPage] ∧ s.role 4 = some .barrier ∧ StationKind.terminal ≠ Role.barrier.kind ∧ s.RoomForReport) := by
  refine ⟨?_, ?_, holds ?_, ?_, ?_, ?_⟩ <;> decide +kernel

/-- The commits of a capture: on its RESERVED record, on one gone, on an OPEN and a TICKETED target, on none. -/
theorem witness_TicketStamped_commits :
    (let s := onDeck .weighing;
      (s.lane 0).passage = some .inbound ∧ (s.lane 0).vehicle = some vehicle ∧ (s.lane 0).reservation = some 0
        ∧ s.visit 0 = some (newVisit 0 0 vehicle) ∧ (newVisit 0 0 vehicle).state = .reserved ∧ (newVisit 0 0 vehicle).entryLane = 0)
      ∧ (let s : State := oneLeft { onDeck .weighing with visits := [] }; s.visit 0 = none ∧ s.RoomForReport ∧ (s.lane 0).reservation = some 0)
      ∧ (∀ st ∈ [VisitState.open_, .ticketed], let s := captureYard .outbound .storedAuto (some 0) st;
        (s.lane 0).passage = some .outbound ∧ (s.lane 0).target = some 0 ∧ s.visit 0 = some { visitFL with state := st })
      ∧ (let s := captureYard .outbound .stored none .open_; (s.lane 0).passage = some .outbound ∧ (s.lane 0).target = none)
      ∧ (∀ o ∈ [some PrintOutcome.pending, some .printed], let s : State := oneLeft { yard with visits := [{ visitFL with outcome := o }] };
        s.visit 0 = some { visitFL with outcome := o } ∧ s.RoomForReport ∧ visitFL.tarePolicy ≠ .weighEach)
      ∧ (newVisit 0 0 vehicle).tarePolicy = .weighEach
      ∧ ((oneLeft { yard with visits := [visitFL] }).visit 0 = some visitFL ∧ visitFL.anomalies = []
        ∧ (oneLeft { yard with visits := [visitFL] }).reports.length + ([Anomaly.degraded].filter fun a => decide (a ∉ visitFL.anomalies)).length ≤ 32) := by
  refine ⟨?_, ?_, ?_, ?_, ?_, ?_, ?_⟩ <;> decide +kernel

/-- The order of log entry 50, and the anomaly once only. -/
theorem test_anomalies_before_stamp :
    shows (.next (State.commitOutboundOpen { yard with visits := [{ visitTP with anomalies := [.degraded] }], nextVisitKey := 1 } 0
      { lane := 1, weight := { kg := 20000, deck := 0, sample := 6, stamp := none, degraded := true }, anomalies := [.negativeNet, .degraded] }))
      (fun t => (t.visits.map fun v => (v.net, v.anomalies), t.reports.length, t.reports.head?.map Report.body))
      = some ([(some (-1760), [.degraded, .negativeNet])], 2, some (.visitAnomaly .negativeNet "TP-3310".toList none 1 (some 1))) := by
  decide +kernel

/-- FORCE_CLOSE of an ident whose records are CLOSING or CLOSED, of a number no record bears, and with two free places. -/
theorem witness_VisitClears_force :
    Meets 23 (visitsYard .closing (some .pending)) (fun s => s.visits.Pairwise (fun a b => a.key ≠ b.key) ∧ validIdent visitFL.ident = true
        ∧ (∃ x ∈ s.visits, x.ident = visitFL.ident) ∧ (∀ x ∈ s.visits, x.ident = visitFL.ident → x.state = .closing ∨ x.state = .closed)
        ∧ (∀ x ∈ s.visits, x.ticketNo ≠ some 7) ∧ (∀ x ∈ s.visits, x.ident ≠ "X".toList) ∧ s.reports.length < 31) := by
  refine meets ?_
  decide +kernel

/-- A refusal goes out as kind REPLY with the tag of its request, a report as kind REPORT with tag 0 (R159, R184). -/
theorem test_frames_out :
    (OutFrame.refusal 14 (.number 24)).bytes.head? = some 0xC3 ∧ ((OutFrame.refusal 14 (.number 24)).bytes.drop 3).take 2 = [0x52, 14]
      ∧ ((OutFrame.report someReport false 0).bytes.drop 3).take 2 = [0x53, 0] := ⟨rfl, rfl, rfl⟩

/-- The TICKET message of a job does not show its terminal and its visit (R129, R169). -/
theorem test_ticket_fields : ticketMessage 1 (job 1000402) = ticketMessage 1 { job 1000402 with terminal := 3, visit := 40 } := rfl

/-! ## Witnesses of single clauses: judging a group, seeing a deck change, orders that fall due -/

/-- Groups that judge every branch of an accepted group: a saturated one, one with a gap, one short of the window, one that
moves, one that is still; and the ends of the transit span and of the hysteresis. -/
theorem witness_JudgedState_accepted :
    ({ group15 with saturated := ⟨false, false, false, true⟩ } : SampleGroup).isSaturated = true ∧ group15.isSaturated = false
      ∧ (let a := ({ case15 with span := 1 } : DeckEngine).accepted deckRecord group15 0;
        a.profile = .nominal ∧ a.span = 0 ∧ a.stable = 0)
      ∧ (let a := ({ case15 with occupancy := .empty } : DeckEngine).accepted deckRecord group15 0;
        a.occupancy = .occupied ∧ a.profile = .transit ∧ a.span = 250 ∧ a.stable = 0 ∧ a.restIdle = some 0)
      ∧ (let a := ({ case15 with ring := case15.ring.map fun x => { x with mass := x.mass + 20001 } } : DeckEngine).accepted deckRecord group15 0;
        a.stable = 0 ∧ a.judged = .motion)
      ∧ (case15.accepted deckRecord group15 1).stable = 0
      ∧ (({ case15 with ring := [] } : DeckEngine).accepted deckRecord group15 0).stable = 49
      ∧ (({ case15 with gapLatch := true } : DeckEngine).accepted deckRecord group15 0).gapLatch = false := by
  refine ⟨?_, ?_, ?_, ?_, ?_, ?_, ?_, ?_⟩ <;> decide +kernel

/-- The digitizer of deck A under a code, after one without and one with excitation fault. -/
def excitedYard (c : Code) : State := yard.updateSlot 0 fun x => { x with taken := some c }

theorem witness_DeckEvents_code :
    (∀ c ∈ [(0 : Code), 2, 3, 15], let s := excitedYard c;
        (s.deck 0).record = some deckRecord ∧ (s.station deckRecord.digitizer).state = .enrolled
          ∧ (s.slot deckRecord.digitizer).taken = some c)
      ∧ (3 : Code).toNat = 3 ∧ (2 : Code).toNat < 3
      ∧ (∃ b : Code, some (3 : Code) = some b ∧ 3 ≤ b.toNat) ∧ ¬ (∃ b : Code, some (2 : Code) = some b ∧ 3 ≤ b.toNat) := by
  refine ⟨?_, ?_, ?_, ⟨3, rfl, ?_⟩, ?_⟩
  · decide +kernel
  · decide
  · decide
  · decide
  · rintro ⟨b, hb, h⟩
    obtain rfl := Option.some.inj hb
    exact absurd h (by decide)

/-- A new digitizer of deck A, ENROLLED with a code taken, and one with no code taken. -/
theorem witness_LoadDeck_hand_on :
    (∀ c ∈ [some (3 : Code), none], let s := ((bareYard.setStation 0 (station .digitizer .enrolled)).updateSlot 0 fun x => { x with taken := c });
        Meets 13 s fun s => (s.arbiter 0).holder = none ∧ s.deckRolesPass 0 deckRecord = true
          ∧ s.role deckRecord.digitizer = none ∧ (s.station deckRecord.digitizer).state = .enrolled
          ∧ (s.slot deckRecord.digitizer).taken = c)
      ∧ yard.role deckRecord.digitizer = some .digitizer := by
  refine ⟨?_, ?_⟩
  · intro c hc
    fin_cases hc <;> refine meets ?_ <;> decide +kernel
  · decide +kernel

/-- The holder and the partner of a deck, as recoverFree tells them apart. -/
theorem witness_LaneService_free :
    (let s := laneIn .recover (some 0); s.laneRecord 0 = some lane1 ∧ (s.arbiter lane1.deck).holder = some 0)
      ∧ (let s := laneIn .recover (some 1); s.laneRecord 0 = some lane1 ∧ (s.arbiter lane1.deck).holder ≠ some 0)
      ∧ (laneIn .recover none).laneRecord 3 = none := by
  refine ⟨?_, ?_, ?_⟩ <;> decide +kernel

/-- A claim made at a deck in each state. -/
theorem witness_DeckGrant_claim :
    ∀ st ∈ [DeckState.fault, .warmRest, .coldRest, .active, .waking, .capturing],
      let s := (laneIn .identify none).setDeck 0 { activeDeck with state := st };
      s.laneRecord 0 = some lane1 ∧ (s.deck lane1.deck).state = st := by
  decide +kernel

/-- A lane that sees its deck change: waiting at a deck in FAULT and in ACTIVE, entering and releasing with and without the
DEPART edge over an OCCUPIED and an EMPTY deck, and in every other state. -/
theorem witness_DeckGrant_seen :
    (∀ st ∈ [DeckState.fault, .active], let s := (laneIn .awaitDeck none).setDeck 0 { activeDeck with state := st };
        s.laneRecord 0 = some lane1 ∧ (s.lane 0).state = .awaitDeck ∧ (s.deck lane1.deck).state = st)
      ∧ (∀ st ∈ [LaneState.entering, .releasing], ∀ closing seen, ∀ occ ∈ [Occupancy.occupied, .empty],
        let s := (withLane 0 (fun c => { c with closing := closing, departSeen := seen }) (laneIn st (some 0))).setDeck 0
          { activeDeck with occupancy := occ };
        s.laneRecord 0 = some lane1 ∧ (s.lane 0).state = st ∧ (s.lane 0).closing = closing ∧ (s.lane 0).departSeen = seen
          ∧ (s.deck lane1.deck).occupancy = occ)
      ∧ (∀ st ∈ [LaneState.weighing, .recover, .closed, .idle, .identify, .referred, .refused, .leaving, .fault],
        ((laneIn st none).lane 0).state = st)
      ∧ (∀ p, ((withLane 0 (fun c => { c with present := p }) yard).lane 0).present = p) := by
  refine ⟨?_, ?_, ?_, ?_⟩ <;> decide +kernel

/-- Two lanes that wait for a deck in FAULT are referred in lane order (log entry 56), and a lane that enters IDLE while
PRESENT goes on to IDENTIFY. -/
theorem test_lanes_in_order :
    let s := (((inState 1 .awaitDeck none (inState 0 .awaitDeck none yard)).setArbiter 0 { holder := none, claims := [1, 0] }).setDeck 0
      { activeDeck with state := .fault })
    shows (.next (s.deckTold 0)) (fun t => ((t.lane 0).reason, (t.lane 1).reason, t.reports.map fun x => match x.body with
        | .lane l _ _ _ _ => some l
        | _ => none))
      = some (some .deckFault, some .deckFault, [some 0, some 1])
      ∧ shows (.next ((withLane 0 (fun c => { c with present := true }) yard).enterIdle 0 (.event .exitDown))) (fun t => (t.lane 0).state)
        = some .identify := by
  refine ⟨?_, ?_⟩ <;> decide +kernel

/-- A lane referred with NO-STABLE whose reservation is held and one whose record is gone from its lane. -/
theorem witness_ReleaseAndRetry_reserved :
    (let s := oneLeft (withLane 0 (fun c => { c with reason := some .noStable }) (onDeck .referred));
      Meets 11 s fun s => s.laneRecord 0 = some lane1 ∧ (s.lane 0).state = .referred ∧ (s.lane 0).reason = some .noStable
        ∧ s.RoomForReport ∧ (s.lane 0).reservation = some 0 ∧ s.visit 0 = some (newVisit 0 0 vehicle)
        ∧ (newVisit 0 0 vehicle).state = .reserved ∧ (newVisit 0 0 vehicle).entryLane = 0)
      ∧ (let s : State := oneLeft { withLane 0 (fun c => { c with reason := some .noStable }) (onDeck .referred) with visits := [] };
        Meets 11 s fun s => (s.lane 0).reservation = some 0 ∧ s.visit 0 = none ∧ s.RoomForReport) := by
  refine ⟨meets ?_, meets ?_⟩ <;> decide +kernel

/-- Codes without an interlock: a barrier at its limit, one that leaves it, and one that moves on. -/
theorem witness_BarrierRecordTakesCode_timer :
    (∀ p ∈ [Position.unknown, .down, .up, .rising, .falling], stepC.returns p = false ∧ stepC.pendingLower = false)
      ∧ (let a := ({ stepC with position := .falling, timer := some 10 } : BarrierRecord).takes .down .clear; a.timer = none)
      ∧ (let a := ({ stepC with position := .down, timer := none } : BarrierRecord).takes .falling .clear; a.timer = some 0)
      ∧ (let a := ({ stepC with position := .falling, timer := some 10 } : BarrierRecord).takes .rising .clear; a.timer = some 10) := by
  refine ⟨?_, ?_, ?_, ?_⟩ <;> decide +kernel

/-- A staged order that falls due: on a quiet and on a busy barrier, stopped and not, under each order and each loop. -/
theorem witness_StagedOrders_due :
    (∀ st ∈ [BarrierState.fault, .manual, .down], ∀ m ∈ [BarrierCommand.raise, .lower, .hold, .none],
      ∀ loop ∈ [none, some ArmLoop.clear, some .occupied],
        let b : BarrierRecord := { barrierDown with mode := .stagedMsg, staged := some .raise, state := st, commanded := m, loop := loop }
        (barrierYard b).RoomForReport ∧ (barrierYard b).lanesQuiet 4 = true ∧ b.state = st ∧ b.commanded = m ∧ b.loop = loop)
      ∧ (oneLeft (laneIn .leaving (some 0))).lanesQuiet 4 = false ∧ (oneLeft (laneIn .leaving (some 0))).RoomForReport
      ∧ (∃ l r, yard.laneRecord l = some r ∧ (r.entryBarrier = 4 ∨ r.exitBarrier = 4)) := by
  refine ⟨?_, ?_, ?_, 0, lane1, ?_, ?_⟩
  · decide +kernel
  · decide +kernel
  · decide +kernel
  · decide +kernel
  · decide

/-- A kind unit and a length unit that a channel takes the second time it is shown. -/
def unitChannel (p : ReceivePhase) (u : UnitFields) : ReceiveChannel :=
  { ReceiveChannel.reset with phase := p, candidate := some { fields := u, frame := 7 } }

theorem witness_WholeMessageReceived_units :
    (∀ k ∈ [(0x00 : Byte), 0xFF], let u : UnitFields := { mark := .first, parity := false, unit := k }
        (unitChannel .idle u).candidate = some { fields := u, frame := 7 }
          ∧ (unitChannel .idle u).lastTaken ≠ some (u.mark, u.parity) ∧ upKindOf u.unit = none)
      ∧ (∀ k ∈ [UpKind.identRead, .enrolPage], upKindOf k.byte = some k)
      ∧ (let u : UnitFields := { mark := .next, parity := true, unit := 61 }
        let p : ReceivePhase := .receiving { kind := .identRead, length := none, body := [] }
        (unitChannel p u).candidate = some { fields := u, frame := 7 } ∧ (unitChannel p u).lastTaken ≠ some (u.mark, u.parity)
          ∧ (unitChannel p u).phase = p ∧ 60 < u.unit.toNat) := by
  refine ⟨?_, ?_, ?_⟩ <;> decide +kernel

/-- A kind unit of no kind: a REJECTED station is answered without a report, an ENROLLING one with it (log entry 58). -/
theorem test_kind_unit_two_cases :
    let u : UnitFields := { mark := .first, parity := false, unit := 0xFF }
    ((unitChannel .idle u).frame .rejected 0 (some u)).2 = .none
      ∧ ((unitChannel .idle u).frame .enrolling 0 (some u)).2 = .badValue 0xFF := by
  refine ⟨?_, ?_⟩ <;> decide +kernel

/-- READY, LOW and a code above them, at a terminal of a lane whose head job is HELD and one whose is not. -/
theorem witness_PrintOutcomes_code :
    yard.laneOfTerminal 20 = none ∧ (queueYard .held).laneOfTerminal 9 = some 1 ∧ ((queueYard .held).queue 1).phase = .held
      ∧ ((queueYard .sending).queue 1).phase ≠ .held ∧ (3 : Code).toNat ≤ 3 ∧ 3 < (4 : Code).toNat := by
  decide +kernel

/-! ## Witnesses of single clauses: ADMIT, group orders, one frame of a receive channel, hand-on and loss, frames in parts -/

/-- The fields of an ADMIT that serve for each reason raised before entry, and an ident that breaks the ident rule. -/
theorem witness_Admit_serves :
    (∀ why ∈ [ReferralReason.noIdent, .unknown, .status, .alreadyInYard, .category, .yardFull, .notInYard, .deckFault],
        Meets 9 (referredYard why) fun s => s.laneRecord 0 = some lane1 ∧ (s.lane 0).state = .referred ∧ (s.lane 0).reason = some why
          ∧ (s.category 2).enabled = true ∧ some 3 = (some (2 : CategoryNo)).map (fun c => c.val + 1) ∧ 1 ≤ 999999 ∧ 999999 ≤ 999999)
      ∧ (∀ t, some wideRead.ident = some t → 1 ≤ t.length ∧ t.length ≤ 16 ∧ ∀ c ∈ t, identChar c = true)
      ∧ (∃ t, some ['a'] = some t ∧ (t = [] ∨ 16 < t.length ∨ ∃ c ∈ t, identChar c = false)) := by
  refine ⟨?_, ?_, ['a'], rfl, .inr (.inr ⟨'a', by decide, by decide⟩)⟩
  · intro why h
    fin_cases h <;> refine meets ?_ <;> decide +kernel
  · intro t h
    obtain rfl := Option.some.inj h
    exact ⟨by decide, by decide, fun c h => by rw [List.eq_of_mem_replicate h]; decide⟩

/-- A decision with no category pending, with one the vehicle is permitted and with one it is not; a full table, one with the
ident in it and one with room. -/
theorem witness_Admit_decision :
    (∀ k ∈ [none, some (2 : CategoryNo), some 15],
        let s := oneLeft (withLane 0 (fun c => { c with pendingCategory := k }) yard);
        s.laneRecord 0 = some lane1 ∧ (s.lane 0).pendingCategory = k ∧ s.RoomForReport ∧ lane1.direction = .inward
          ∧ s.permits vehicle 2 = true ∧ s.permits vehicle 15 = false)
      ∧ ((yard.lookup "RC-4471".toList).map (fun v => (v.status, v.vehicle)) = some (.admits, vehicle) ∧ yard.lookup "X".toList = none)
      ∧ (64 ≤ ({ yard with visits := List.replicate 64 visitFL } : State).visits.length ∧ yard.visits.length < 64
        ∧ yard.inYard vehicle.ident = false ∧ ({ yard with visits := [newVisit 0 0 vehicle] } : State).inYard vehicle.ident = true) := by
  refine ⟨?_, ?_, ?_⟩ <;> decide +kernel

/-- An ADMIT with an ident that breaks the ident rule is BAD (log entry 13), and a BUSY one leaves the lane. -/
theorem test_admit_bad_and_busy :
    shows (exec (.admitLane (.fits { admitLoad with ident := some ['a'] })) (asked 9 (referredYard .status))) code = some (some .bad)
      ∧ shows (exec (.admitLane (.fits admitLoad)) (asked 9 { referredYard .alreadyInYard with visits := [newVisit 0 0 vehicle] }))
        (fun t => (code t, (t.lane 0).state)) = some (some .busy, .referred) := by
  refine ⟨?_, ?_⟩ <;> decide +kernel

/-- Members of a group with no record, stopped, with a busy lane, in DIRECT mode and in a staged mode, and room for all. -/
theorem witness_GroupOrders_outcomes :
    (Meets 27 ((laneIn .leaving (some 0)).setBarrier 5 (some { barrierDown with state := .fault })) fun s =>
        s.barrier 0 = none ∧ s.barrier 5 = some { barrierDown with state := .fault } ∧ s.lanesQuiet 4 = false
          ∧ s.reports.length + [(4 : StationId)].length ≤ 32)
      ∧ (Meets 27 (yard.setBarrier 5 (some { barrierDown with mode := .stagedLoop })) fun s =>
        s.lanesQuiet 4 = true ∧ s.lanesQuiet 5 = true ∧ barrierDown.mode = .direct
          ∧ s.barrier 5 = some { barrierDown with mode := .stagedLoop } ∧ s.reports.length + allStations.length ≤ 32) := by
  refine ⟨meets ?_, meets ?_⟩ <;> decide +kernel

/-- RAISE to a set sent out of order: outcomes and ORDER-APPLIED reports in slot order (R120, log entry 53). -/
theorem test_group_in_slot_order :
    shows (exec (.groupOrder (.fits { stations := [7, 6, 5], order := .raise })) (asked 27 yard))
      (fun t => ((t.slot 4).command, (t.slot 5).command, t.reports.map fun x => match x.body with
        | .barrier _ b => some b.station
        | _ => none, (t.buffer.head?.bind Request.reply).map Reply.data))
      = some (.raise, .raise, [some 4, some 5], some (.group [(4, .applied), (5, .applied), (6, .notABarrier)])) := by
  decide +kernel

/-- One frame of a working channel in each of its cases: with a pair in IDLE, ABORTING and RECEIVING, repeated and new, without. -/
theorem witness_WholeMessageReceived_frames :
    (∀ p ∈ [ReceivePhase.idle, .aborting, .receiving { kind := .keyEntry, length := none, body := [] },
          .receiving { kind := .keyEntry, length := some 2, body := [] }, .receiving { kind := .keyEntry, length := some 1, body := [] }],
        ∀ m ∈ [Mark.none, .next], let u : UnitFields := { mark := m, parity := true, unit := 60 };
        (unitChannel p u).phase = p ∧ (unitChannel p u).candidate = some { fields := u, frame := 7 }
          ∧ (unitChannel p u).lastTaken ≠ some (u.mark, u.parity)
          ∧ ({ unitChannel p u with lastTaken := some (m, true) } : ReceiveChannel).lastTaken = some (u.mark, u.parity)
          ∧ 1 ≤ u.unit.toNat ∧ u.unit.toNat ≤ 60)
      ∧ (StationState.alive ≠ .silent ∧ StationState.alive ≠ .lost ∧ ReceiveChannel.reset.candidate = none)
      ∧ ((1 : Nat) ≤ ([] ++ [(60 : Byte)]).length ∧ ([] ++ [(60 : Byte)]).length < 2) := by
  refine ⟨?_, ?_, ?_⟩ <;> decide +kernel

/-- A NONE taken in RECEIVING drops the partial message and the last taken unit (R161); a stale frame counts one more. -/
theorem test_none_ends_partial :
    let p : ReceivePhase := .receiving { kind := .keyEntry, length := some 2, body := [1] }
    let u : UnitFields := { mark := .none, parity := false, unit := 0 }
    let c := { unitChannel p u with lastTaken := some (.next, false), stale := 63 }
    ((c.frame .enrolled 0 (some u)).1.phase, (c.frame .enrolled 0 (some u)).1.lastTaken) = (.idle, none)
      ∧ (c.frame .enrolled 0 none).1.stale = 64 := by
  refine ⟨?_, ?_⟩ <;> decide +kernel

/-- The hand-on at enrolment: each role with a defined and an undefined code, a station with no role, and one with no code. -/
theorem witness_Enrolment_hand_on :
    (∀ x ∈ [((0 : StationId), StationKind.digitizer, some Role.digitizer), (4, .barrierDrive, some .barrier),
        (12, .identReader, some .reader), (8, .terminal, some (.terminal false))], ∀ c ∈ [(1 : Code), 15],
        let s := pairYard' x.1 c |>.updateSlot x.1 fun y => { y with taken := some c };
        (s.slot x.1).taken = some c ∧ (s.station x.1).kind = some x.2.1 ∧ s.role x.1 = x.2.2 ∧ s.RoomForReport)
      ∧ (codeDefined .digitizer 15 = false ∧ codeDefined .digitizer 1 = true)
      ∧ (yard.deckOfDigitizer 0 = some 0 ∧ (yard.slot 20).taken = none ∧ yard.role 20 = none) := by
  refine ⟨?_, ?_, ?_⟩ <;> decide +kernel

/-- A restarted station with two free places, with a forward and a ticket queue and without. -/
theorem witness_Enrolment_loss :
    (let s : State := { readyYard none (some "GO".toList) jobYard with reports := List.replicate 30 someReport };
      s.reports.length < 31 ∧ (s.station 8).forward ≠ none ∧ s.laneOfTerminal 8 = some 0)
      ∧ ((yard.station 20).forward = none ∧ yard.laneOfTerminal 20 = none) := by
  refine ⟨?_, ?_⟩ <;> decide +kernel

/-- BAD-CODE stands again when a restarted station is enrolled with the undefined code it held (log entry 62). -/
theorem test_bad_code_at_enrolment :
    shows (.next ((State.updateSlot yard 12 fun x => { x with taken := some 12 }).handOnEnrolled 12)) (fun t => t.reports.map Report.body)
      = some [.badCode 12 12, .laneStation 0 12 .readerFault] := by
  decide +kernel

/-- Entry into each state of a deck under excitation fault. -/
theorem witness_DeckStateEntered_excited :
    (excitedYard 3).excited 0 = true ∧ (excitedYard 2).excited 0 = false
      ∧ (((excitedYard 3).enterDeckState 0 .capturing).deck 0).judged = .invalid
      ∧ (((excitedYard 2).enterDeckState 0 .waking).deck 0).judged = .filling := by
  refine ⟨?_, ?_, ?_, ?_⟩ <;> decide +kernel

/-- Bytes of noise, the two lengths beside the range, and the parts of a frame. -/
theorem witness_OfficeFrameArrives_parts :
    (∀ b ∈ [(0x00 : Byte), 0xC2, 0xFF], b ≠ 0xC3)
      ∧ ((0 : Byte).toNat * 256 + (1 : Byte).toNat < 2 ∧ 1026 < (4 : Byte).toNat * 256 + (3 : Byte).toNat)
      ∧ (1 ≤ 1 ∧ 1 < (officeFrameBytes 0x51 0x0A []).length ∧ 6 < (officeFrameBytes 0x51 0x0A []).length) := by
  refine ⟨?_, ?_, ?_⟩ <;> decide +kernel

/-- Noise, a frame discarded for its length and a whole frame in one run of bytes: one request arrives (R180). -/
theorem test_frame_after_noise :
    shows (exec (.officeFrame ([0x00, 0xFF, 0xC3, 0x00, 0x01] ++ officeFrameBytes 0x51 0x0A [0x1F])) State.reset) (fun t => (t.buffer, t.receiver))
      = some ([{ kind := .request, tag := 0x0A, body := [0x1F], reply := none }], none) := by decide +kernel

/-! ## The role of a station with its deck and lanes; two values that count as FAULT -/

/-- The role of each kind of station of the yard (R51): barrier 5 in both lanes of the pair, in lane order. -/
theorem test_role_places :
    [(0 : StationId), 4, 12, 9, 20].map yard.rolePlaces
      = [[.digitizer 0], [.barrier 0 .entry, .barrier 1 .exit], [.reader 0], [.terminal 1], []] := by decide +kernel

/-- A lane terminal completes its attempt in the slot of barrier 5: the report names the kind received and both roles (R174). -/
theorem test_mismatch_names_role :
    shows (exec (.enrolPage 4 (.fits soloPage)) (sent 4 .enrolPage (State.updateStation yard 4 fun x => { x with state := .alive })))
      (fun t => ((t.station 4).state, t.reports.map Report.body))
      = some (.rejected, [.rejectedMismatch 4 .terminal (some .barrier) [.barrier 0 .entry, .barrier 1 .exit]]) := by decide +kernel

/-- A place for each kind of role. -/
theorem witness_Enrolment_places :
    (yard.role 0 = some .digitizer ∧ yard.deckOfDigitizer 0 = some 0) ∧ yard.role 4 = some .barrier
      ∧ (yard.role 12 = some .reader ∧ yard.laneOfReader 12 = some 0)
      ∧ (yard.role 9 = some (.terminal false) ∧ yard.laneOfTerminal 9 = some 1) ∧ yard.role 20 = none := by
  refine ⟨?_, ?_, ?_, ?_, ?_⟩ <;> decide +kernel

/-- FAULT and then an undefined value: a second report of FAULT (log entry 63). -/
theorem test_fault_again :
    shows (.next ((yard.barrierCode 4 9).barrierCode 4 12)) (fun t => t.reports.filterMap fun x => match x.body with
        | .barrier why b => some (why, b.station)
        | _ => none)
      = some [(.fault, 4), (.fault, 4)] := by decide +kernel

/-- Lane 2 comes to share the barriers of lane 1, barrier 5 ENROLLED under FAULT. -/
def sharingYard : State :=
  { State.updateSlot (yard.setBarrier 4 (some (barrierDown.stops .fault))) 4 (fun x => { x with taken := some 9 }) with
    laneTable := #v[some lane1, none, none, none], lanes := yard.lanes.set 1 LaneContext.reset }

/-- A barrier that gains a second barrier role is handed its code, and acts on FAULT anew (R105, R110, R145). -/
theorem test_second_barrier_role :
    shows (exec (.loadLane (.fits { lane := 2, record := { laneLoad with direction := some .outward, entryBarrier := 6, exitBarrier := 5, terminal := 10, reader := some 14 } }))
      (asked 5 sharingYard)) (fun t => (code t, t.rolePlaces 4, t.reports.filterMap fun x => match x.body with
        | .barrier why b => some (why, b.station)
        | _ => none))
      = some (some .ok, [.barrier 0 .entry, .barrier 1 .exit], [(.fault, 4)]) := by decide +kernel

/-- A station that gains a first role, a second role and none. -/
theorem witness_LoadLane_gains :
    (let t := sharingYard.setLaneRecord 1 (some lane2);
      (∃ p ∈ t.rolePlaces 4, p ∉ sharingYard.rolePlaces 4) ∧ (∃ p ∈ t.rolePlaces 9, p ∉ sharingYard.rolePlaces 9)
        ∧ ¬ (∃ p ∈ t.rolePlaces 8, p ∉ sharingYard.rolePlaces 8) ∧ (t.station 4).state = .enrolled)
      ∧ sharingYard.role 4 = some .barrier := by
  refine ⟨?_, ?_⟩ <;> decide +kernel

/-- A lane referred with STATUS whose ADMIT meets the category check is REFERRED anew, with its report (R69, log entry 65). -/
theorem test_referred_again :
    shows (exec (.admitLane (.fits admitLoad)) (asked 9 (withLane 0 (fun c => { c with vehicle := some { vehicle with category := none } })
      (referredYard .status)))) (fun t => (code t, (t.lane 0).state, (t.lane 0).reason, t.reports.length))
      = some (some .ok, .referred, some .category, 1) := by decide +kernel

end Sys2Proof.Tests
end

