-- ==== Sys2Proof/Proofs/WeighingArithmetic.lean ====
section
/-! PROOFS. Chapter 1, Deck Weighing Arithmetic: the rounded quotient, the corrected corner count and the raw mass. -/

namespace Sys2Proof.Machine

/-! ## The rounded quotient -/

/-- On a nonnegative dividend the sign drops out. -/
theorem roundDiv_natCast (a d : Nat) : roundDiv a d = ((2 * a + d) / (2 * d) : Nat) := by
  rw [roundDiv, Int.natAbs_natCast]
  rcases Nat.eq_zero_or_pos a with rfl | pos
  · have zero : (2 * 0 + d) / (2 * d) = 0 := by
      rcases Nat.eq_zero_or_pos d with rfl | dpos
      · rfl
      · exact Nat.div_eq_of_lt (by omega)
    rw [zero, Nat.cast_zero, mul_zero]
  · rw [Int.sign_natCast_of_ne_zero pos.ne', one_mul]

/-- Rounding half away from zero is symmetric about zero. -/
@[simp] theorem roundDiv_neg (n : Int) (d : Nat) : roundDiv (-n) d = -roundDiv n d := by
  simp [roundDiv]

theorem natAbs_roundDiv (n : Int) (d : Nat) : (roundDiv n d).natAbs = (2 * n.natAbs + d) / (2 * d) := by
  obtain ⟨a, rfl | rfl⟩ := n.eq_nat_or_neg
  · rw [roundDiv_natCast, Int.natAbs_natCast, Int.natAbs_natCast]
  · rw [roundDiv_neg, roundDiv_natCast, Int.natAbs_neg, Int.natAbs_neg, Int.natAbs_natCast, Int.natAbs_natCast]

theorem RoundsHalfAway.neg {n m : Int} {d : Nat} (h : RoundsHalfAway n d m) : RoundsHalfAway (-n) d (-m) := by
  have remainder : (-n - -m * d).natAbs = (n - m * d).natAbs := by
    rw [← Int.natAbs_neg]
    congr 1
    ring
  simpa only [RoundsHalfAway, remainder, Int.natAbs_neg] using h

/-- The quotient q of 2a + d by 2d lies within half a unit of a / d, and above it on a tie. -/
theorem roundsHalfAway_natCast (a : Nat) {d : Nat} (pos : 0 < d) :
    RoundsHalfAway a d ((2 * a + d) / (2 * d) : Nat) := by
  generalize hq : (2 * a + d) / (2 * d) = q
  have low : 2 * (q * d) ≤ 2 * a + d := by
    have := Nat.div_mul_le_self (2 * a + d) (2 * d)
    rw [hq] at this
    linarith
  have high : 2 * a + d < 2 * (q * d) + 2 * d := by
    have := Nat.lt_div_mul_add (a := 2 * a + d) (b := 2 * d) (by omega)
    rw [hq] at this
    linarith
  rw [RoundsHalfAway, Int.natAbs_natCast, Int.natAbs_natCast, ← Nat.cast_mul]
  omega

/-- `roundDiv` is the quotient rounded half away from zero (00_scope.md, section 6). -/
theorem roundsHalfAway_roundDiv (n : Int) {d : Nat} (pos : 0 < d) : RoundsHalfAway n d (roundDiv n d) := by
  obtain ⟨a, rfl | rfl⟩ := n.eq_nat_or_neg
  · rw [roundDiv_natCast]
    exact roundsHalfAway_natCast a pos
  · rw [roundDiv_neg, roundDiv_natCast]
    exact (roundsHalfAway_natCast a pos).neg

/-- Rounding does not pass a whole bound of the exact quotient. -/
theorem natAbs_roundDiv_le {n : Int} {d b : Nat} (pos : 0 < d) (h : n.natAbs ≤ b * d) :
    (roundDiv n d).natAbs ≤ b := by
  rw [natAbs_roundDiv, ← Nat.lt_succ_iff, Nat.div_lt_iff_lt_mul (by omega)]
  calc 2 * n.natAbs + d ≤ 2 * (b * d) + d := by omega
    _ < 2 * (b * d) + 2 * d := by omega
    _ = b.succ * (2 * d) := by rw [Nat.succ_eq_add_one]; ring

/-- An exact quotient is not moved. -/
theorem roundDiv_mul_cancel (n : Int) {d : Nat} (pos : 0 < d) : roundDiv (n * d) d = n := by
  have half : (2 * (n.natAbs * d) + d) / (2 * d) = n.natAbs := by
    rw [show 2 * (n.natAbs * d) + d = d + n.natAbs * (2 * d) by ring, Nat.add_mul_div_right _ _ (by omega),
      Nat.div_eq_of_lt (by omega), Nat.zero_add]
  rw [roundDiv, Int.natAbs_mul, Int.natAbs_natCast, half, Int.sign_mul, Int.sign_natCast_of_ne_zero pos.ne', mul_one,
    Int.sign_mul_natAbs]

/-! ## Corners (R5) -/

theorem validCount_iff (z : Int) : validCount z = true ↔ -8388608 ≤ z ∧ z ≤ 8388607 := by
  simp [validCount]

theorem inRange_iff (low high n : Nat) : inRange low high n = true ↔ low ≤ n ∧ n ≤ high := by
  simp [inRange]

theorem Corners.all_iff {α : Type} (c : Corners α) (p : α → Bool) :
    c.all p = true ↔ p c.c1 = true ∧ p c.c2 = true ∧ p c.c3 = true ∧ p c.c4 = true := by
  simp [Corners.all, and_assoc]

/-- The corner net count of two signed 24-bit counts. -/
theorem natAbs_netCount_le {c z : Int} (hc : validCount c = true) (hz : validCount z = true) :
    (c - z).natAbs ≤ 16777215 := by
  rw [validCount_iff] at hc hz
  omega

/-- The corrected corner count is at most twice the largest corner net count: a factor is at most 2.0. -/
theorem natAbs_cornerCount_le {c z : Int} {k : Nat} (hc : validCount c = true) (hz : validCount z = true)
    (hk : k ≤ 131072) : (cornerCount c z k).natAbs ≤ 33554430 := by
  refine natAbs_roundDiv_le (by omega) ?_
  calc ((c - z) * k).natAbs = (c - z).natAbs * k := by rw [Int.natAbs_mul, Int.natAbs_natCast]
    _ ≤ 16777215 * 131072 := Nat.mul_le_mul (natAbs_netCount_le hc hz) hk
    _ = 33554430 * 65536 := by norm_num

end Sys2Proof.Machine

namespace Sys2Proof.Settled
open Machine

/-- Settles O11: each rounding is `roundDiv`, and the deck sum is bounded by four times the bound of a corner. -/
theorem rawMass : Obligations.RawMass := by
  refine ⟨fun c z k hc hz _ hk => ⟨natAbs_netCount_le hc hz, roundsHalfAway_roundDiv _ (by omega),
    natAbs_cornerCount_le hc hz hk, ?_⟩, fun r c hc hz hk => ⟨?_, roundsHalfAway_roundDiv _ (by omega)⟩⟩
  · rintro rfl
    exact roundDiv_mul_cancel (c - z) (by omega)
  · simp only [Corners.all_iff, inRange_iff] at hc hz hk
    obtain ⟨hc1, hc2, hc3, hc4⟩ := hc
    obtain ⟨hz1, hz2, hz3, hz4⟩ := hz
    obtain ⟨⟨_, hk1⟩, ⟨_, hk2⟩, ⟨_, hk3⟩, ⟨_, hk4⟩⟩ := hk
    have corner1 := natAbs_cornerCount_le hc1 hz1 hk1
    have corner2 := natAbs_cornerCount_le hc2 hz2 hk2
    have corner3 := natAbs_cornerCount_le hc3 hz3 hk3
    have corner4 := natAbs_cornerCount_le hc4 hz4 hk4
    omega

end Sys2Proof.Settled
end

/-! PROOFS. Chapter 2, the request ZERO_DECK: each line of its table as a case of `zeroDeck`, and the reply it gives. -/

namespace Sys2Proof.Machine

/-! ## A request served with a known outcome -/

/-- A request whose handling is known is answered on the state it leaves, when that keeps the buffer. -/
theorem State.serve_outcome {s t : State} {k : Nat} {h : Request} {rest : List Request} {f : State → State × Reply}
    {code : ReplyCode} {data : ReplyData} (hd : s.HasHead k h rest) (outcome : f s = (t, { code := code, data := data }))
    (kept : t.buffer = s.buffer) : s.serve k f = t.replied h rest code data := by
  rw [State.serve_head hd, outcome, State.giveReply_kept hd.1 kept]

/-- The hold of a deck is its holder. -/
theorem State.deckHeld_iff (s : State) (d : DeckId) : s.deckHeld d = true ↔ (s.arbiter d).holder ≠ none := by
  rw [State.deckHeld, Option.isSome_iff_ne_none]

theorem within_iff (bound : Nat) (x y : Int) : within bound x y = true ↔ (x - y).natAbs ≤ bound := by
  simp [within]

/-! ## The lines of the table (R30) -/

/-- The engine an accepted ZERO_DECK leaves (R30). -/
def DeckEngine.zeroedAt (e : DeckEngine) (z : Zeros) (average : Int) : DeckEngine :=
  { e with zeros := some { z with tracked := average }, zeroLimit := false, trackingCount := 0 }

section
variable {s : State} {d : DeckId}

theorem zeroDeck_bad {m : Nat} (outside : m = 0 ∨ 4 < m) : zeroDeck m s = refuse s .bad := by
  simp only [zeroDeck, deckOf_none outside]

/-- Line 1 does not look at the record: an engine with none answers BUSY too. -/
theorem zeroDeck_busy (line1 : (s.deck d).state ≠ .active ∨ s.deckHeld d = true) :
    zeroDeck (d.val + 1) s = refuse s .busy := by
  simp only [zeroDeck, deckOf_succ]
  split
  next => rw [if_pos line1]
  next => rfl

/-- The lines after the first, for an ACTIVE deck that is not held. -/
theorem zeroDeck_active {r : DeckRecord} {z : Zeros} (active : (s.deck d).state = .active) (free : s.deckHeld d = false)
    (record : (s.deck d).record = some r) (zeros : (s.deck d).zeros = some z) :
    zeroDeck (d.val + 1) s =
      if (s.deck d).reading.state ≠ .stable then refuse s .motion
      else if !within (20 * r.capacity) ((s.deck d).average (activeWindow r (s.deck d).profile)) z.captured then
        refuse s .range
      else accept (s.setDeck d ((s.deck d).zeroedAt z ((s.deck d).average (activeWindow r (s.deck d).profile))))
        (.newZero ((s.deck d).average (activeWindow r (s.deck d).profile))) := by
  simp only [zeroDeck, deckOf_succ, record, zeros]
  rw [if_neg (by simp [active, free]), DeckEngine.zeroedAt, record]

end

/-- What ZERO_DECK answers, from the outcome of its handling. -/
theorem exec_zeroDeck {s t : State} {m : Nat} {h : Request} {rest : List Request} {code : ReplyCode} {data : ReplyData}
    (hd : s.HasHead 14 h rest) (outcome : zeroDeck m s = (t, { code := code, data := data }))
    (kept : t.buffer = s.buffer) : exec (.zeroDeck (.fits m)) s = .next (t.replied h rest code data) :=
  congrArg Host.Outcome.next (State.serve_outcome hd outcome kept)

end Sys2Proof.Machine

namespace Sys2Proof.Settled
open Machine

/-- Settles O20: the first line of the table that applies decides the outcome, and no outcome touches the request buffer. -/
theorem zeroDeck : Obligations.ZeroDeck := by
  intro s h rest d hd
  refine ⟨fun line1 => ?busy, fun r z active unheld record zeros => ?active, fun m outside => ?bad⟩
  case busy => exact exec_zeroDeck hd (zeroDeck_busy (by rwa [State.deckHeld_iff])) rfl
  case bad => exact exec_zeroDeck hd (zeroDeck_bad outside) rfl
  case active =>
    have free : s.deckHeld d = false := by simp [State.deckHeld, unheld]
    have lines := zeroDeck_active active free record zeros
    refine ⟨fun unstable => ?motion, fun stable far => ?range, fun stable near => ?ok⟩
    case motion =>
      rw [if_pos unstable] at lines
      exact exec_zeroDeck hd lines rfl
    case range =>
      rw [if_neg (not_not.2 stable), if_pos ?_] at lines
      · exact exec_zeroDeck hd lines rfl
      · rw [Bool.not_eq_true', ← Bool.not_eq_true, within_iff]
        exact Nat.not_le.2 far
    case ok =>
      have inside : within (20 * r.capacity) ((s.deck d).average (activeWindow r (s.deck d).profile)) z.captured = true :=
        (within_iff ..).2 near
      rw [if_neg (not_not.2 stable), inside] at lines
      exact exec_zeroDeck hd lines rfl

end Sys2Proof.Settled

/-! PROOFS. Chapter 3, the request LOAD_CATEGORY: the load that replaces a category record, and every load that is BAD. -/

namespace Sys2Proof.Machine

/-! ## The category records and their codes (R47) -/

theorem reset_category (c : CategoryNo) :
    State.reset.category c = { code := none, enabled := false, inspect := false } := by
  simp [State.category, State.reset]

theorem validCode_iff (t : Text) :
    validCode t = true ↔ 1 ≤ t.length ∧ t.length ≤ 8 ∧ ∀ x ∈ t, identChar x = true := by
  simp [validCode, and_assoc]

/-! ## The two outcomes of a load (R47) -/

section
variable {s : State} {v : CategoryLoad}

theorem loadCategory_ok {c : CategoryNo} {enabled inspect : Bool} (number : v.number = c.val + 1)
    (code : validCode v.code = true) (he : v.enabled = some enabled) (hi : v.inspect = some inspect) :
    loadCategory v s =
      accept (s.setCategory c { code := some v.code, enabled := enabled, inspect := inspect }) .none := by
  simp only [loadCategory, number, categoryOf_succ, he, hi, code, if_true]

/-- A load whose number and settings are all there is refused for its code alone. -/
theorem loadCategory_bad (h : categoryOf v.number = none ∨ validCode v.code = false ∨ v.enabled = none ∨ v.inspect = none) :
    loadCategory v s = refuse s .bad := by
  rw [loadCategory]
  split
  next number enabled inspect =>
    have code : validCode v.code = false := by simpa [number, enabled, inspect] using h
    rw [code, if_neg Bool.false_ne_true]
  next => rfl

end

/-- What LOAD_CATEGORY answers, from the outcome of its handling. -/
theorem exec_loadCategory {s t : State} {v : CategoryLoad} {h : Request} {rest : List Request} {code : ReplyCode}
    {data : ReplyData} (hd : s.HasHead 4 h rest) (outcome : loadCategory v s = (t, { code := code, data := data }))
    (kept : t.buffer = s.buffer) : exec (.loadCategory (.fits v)) s = .next (t.replied h rest code data) :=
  congrArg Host.Outcome.next (State.serve_outcome hd outcome kept)

end Sys2Proof.Machine

namespace Sys2Proof.Settled
open Machine

/-- Settles O24: what the statement lists as BAD is a number that names no category, a code that is not valid or a setting that
is missing, and neither outcome touches the request buffer. -/
theorem loadCategory : Obligations.LoadCategory := by
  refine ⟨reset_category, fun s h rest v hd => ⟨?ok, fun broken => ?bad⟩⟩
  case ok =>
    intro c enabled inspect number nonempty short chars he hi
    exact exec_loadCategory hd (loadCategory_ok number ((validCode_iff _).2 ⟨nonempty, short, chars⟩) he hi) rfl
  case bad =>
    refine exec_loadCategory hd (loadCategory_bad ?_) rfl
    have outside (h : v.number = 0 ∨ 16 < v.number) : categoryOf v.number = none := categoryOf_none h
    have invalid (h : ¬ (1 ≤ v.code.length ∧ v.code.length ≤ 8 ∧ ∀ x ∈ v.code, identChar x = true)) :
        validCode v.code = false := by rwa [← validCode_iff, Bool.not_eq_true] at h
    rcases broken with zero | large | empty | long | ⟨x, mem, other⟩ | noEnabled | noInspect
    · exact .inl (outside (.inl zero))
    · exact .inl (outside (.inr large))
    · exact .inr (.inl (invalid fun ⟨nonempty, _⟩ => by simp [empty] at nonempty))
    · exact .inr (.inl (invalid fun ⟨_, short, _⟩ => absurd short (Nat.not_le.2 long)))
    · exact .inr (.inl (invalid fun ⟨_, _, chars⟩ => by simp [chars x mem] at other))
    · exact .inr (.inr (.inl noEnabled))
    · exact .inr (.inr (.inr noInspect))

end Sys2Proof.Settled

/-! PROOFS. Chapter 5, the requests READ_VISIT and NEXT_CLOSED: the record each selector finds, its position, and the reply. -/

namespace Sys2Proof.Machine

/-! ## The place of a record in the table (R85) -/

section
variable {s : State} {before after : List Visit} {v : Visit}

/-- With records of different keys, a key is found where its record stands. -/
theorem State.visitPosition_of_split (keys : s.visits.Pairwise (fun a b => a.key ≠ b.key))
    (split : s.visits = before ++ v :: after) : s.visitPosition v.key = before.length + 1 := by
  rw [split, List.pairwise_append] at keys
  obtain ⟨_, _, apart⟩ := keys
  have absent : v.key ∉ before.map Visit.key := by
    intro mem
    obtain ⟨x, hx, same⟩ := List.mem_map.1 mem
    exact apart x hx v List.mem_cons_self same
  rw [State.visitPosition, split, List.map_append, List.map_cons, List.idxOf_append_of_notMem absent,
    List.idxOf_cons_self, List.length_map, Nat.add_zero]

/-! ## The record a selector finds (R98) -/

/-- The record READ_VISIT looks for, the selector's own form aside: at a position, the oldest of a ticket number, the newest
of an ident. -/
def State.visitFor (s : State) : Selector → Option Visit
  | .position n => s.visits[n - 1]?
  | .ticket n => s.visitByTicket n
  | .ident t => s.newestVisit t

theorem State.visitFor_position (split : s.visits = before ++ v :: after) :
    s.visitFor (.position (before.length + 1)) = some v := by
  rw [State.visitFor, split, Nat.add_sub_cancel, List.getElem?_append_right (Nat.le_refl _), Nat.sub_self,
    List.getElem?_cons_zero]

theorem State.visitFor_ticket {k : Nat} (split : s.visits = before ++ v :: after) (number : v.ticketNo = some k)
    (oldest : ∀ x ∈ before, x.ticketNo ≠ some k) : s.visitFor (.ticket k) = some v :=
  List.find?_eq_some_iff_append.2 ⟨by simpa using number, before, after, split, by simpa using oldest⟩

/-- The newest record of an ident is the first one met from the end of the table. -/
theorem State.visitFor_ident (split : s.visits = before ++ v :: after) (newest : ∀ x ∈ after, x.ident ≠ v.ident) :
    s.visitFor (.ident v.ident) = some v :=
  List.find?_eq_some_iff_append.2 ⟨by simp, after.reverse, before.reverse, by simp [split], by simpa using newest⟩

end

/-! ## What READ_VISIT answers (R98) -/

section
variable {s : State} {sel : Selector}

theorem readVisit_eq (sel : Selector) (s : State) :
    readVisit sel s =
      if sel.wellFormed then
        (s.visitFor sel).elim (refuse s .bad) fun v => accept s (.visit v (s.visitPosition v.key) s.visits.length)
      else refuse s .bad := by
  cases form : sel.wellFormed with
  | false => simp only [readVisit, form, Bool.not_false, if_true, Bool.false_eq_true, if_false]
  | true =>
    have search : readVisit sel s =
        match s.visitFor sel with
        | none => refuse s .bad
        | some v => accept s (.visit v (s.visitPosition v.key) s.visits.length) := by
      cases sel <;> exact if_neg (by simp [form])
    rw [search, if_pos rfl]
    cases s.visitFor sel <;> rfl

/-- A well-formed selector that finds a record is answered with it, its position and the number held. -/
theorem readVisit_ok {before after : List Visit} {v : Visit} (keys : s.visits.Pairwise (fun a b => a.key ≠ b.key))
    (split : s.visits = before ++ v :: after) (form : sel.wellFormed = true) (found : s.visitFor sel = some v) :
    readVisit sel s = accept s (.visit v (before.length + 1) s.visits.length) := by
  rw [readVisit_eq, if_pos form, found, Option.elim_some, State.visitPosition_of_split keys split]

theorem readVisit_bad (h : sel.wellFormed = false ∨ s.visitFor sel = none) : readVisit sel s = refuse s .bad := by
  rw [readVisit_eq]
  rcases h with form | missing
  · rw [form, if_neg Bool.false_ne_true]
  · rw [missing, Option.elim_none, ite_self]

/-- What READ_VISIT answers, from the outcome of its handling. -/
theorem exec_readVisit {h : Request} {rest : List Request} {code : ReplyCode} {data : ReplyData}
    (hd : s.HasHead 20 h rest) (outcome : readVisit sel s = (s, { code := code, data := data })) :
    exec (.readVisit (.fits sel)) s = .next (s.replied h rest code data) :=
  congrArg Host.Outcome.next (State.serve_outcome hd outcome rfl)

end

/-! ## What NEXT_CLOSED answers (R99) -/

section
variable {s : State} {h : Request} {rest : List Request}

theorem State.headBodyBare_iff (buffer : s.buffer = h :: rest) : s.headBodyBare = true ↔ h.body.length = 1 := by
  rw [State.headBodyBare, buffer, beq_iff_eq]

theorem nextClosed_bad (bare : s.headBodyBare = false) : nextClosed s = refuse s .bad := by
  simp only [nextClosed, bare, Bool.not_false, if_true]

theorem nextClosed_none (bare : s.headBodyBare = true) (noneClosed : ∀ x ∈ s.visits, x.state ≠ .closed) :
    nextClosed s = accept s (.nextClosed none s.visits.length) := by
  have missing : s.visits.find? (fun v => v.state == .closed) = none := List.find?_eq_none.2 (by simpa using noneClosed)
  simp only [nextClosed, bare, Bool.not_true, Bool.false_eq_true, if_false, missing]

theorem nextClosed_some {before after : List Visit} {v : Visit} (keys : s.visits.Pairwise (fun a b => a.key ≠ b.key))
    (split : s.visits = before ++ v :: after) (bare : s.headBodyBare = true) (closed : v.state = .closed)
    (oldest : ∀ x ∈ before, x.state ≠ .closed) :
    nextClosed s = accept s (.nextClosed (some (v, before.length + 1)) s.visits.length) := by
  have found : s.visits.find? (fun v => v.state == .closed) = some v :=
    List.find?_eq_some_iff_append.2 ⟨by simpa using closed, before, after, split, by simpa using oldest⟩
  simp only [nextClosed, bare, Bool.not_true, Bool.false_eq_true, if_false, found,
    State.visitPosition_of_split keys split]

/-- What NEXT_CLOSED answers, from the outcome of its handling. -/
theorem exec_nextClosed {code : ReplyCode} {data : ReplyData} (hd : s.HasHead 21 h rest)
    (outcome : nextClosed s = (s, { code := code, data := data })) :
    exec .nextClosed s = .next (s.replied h rest code data) :=
  congrArg Host.Outcome.next (State.serve_outcome hd outcome rfl)

end

end Sys2Proof.Machine

namespace Sys2Proof.Settled
open Machine

/-- Settles O49: every record in the table splits it in an older and a newer part, and the length of the older part gives its
position; where no record is found, the selector is out of range or its search comes back empty. -/
theorem visitReads : Obligations.VisitReads := by
  intro s h rest keys
  refine ⟨fun hd before after v split short => ⟨?position, fun k number low high oldest => ?ticket,
      fun form newest => ?ident⟩,
    fun hd => ⟨fun p outside => ?noPosition, fun k missing => ?noTicket, fun ident missing => ?noIdent⟩,
    fun hd => ⟨fun long => ?tooLong, fun bare => ?closed⟩⟩
  case position =>
    have form : (Selector.position (before.length + 1)).wellFormed = true :=
      (inRange_iff ..).2 ⟨Nat.le_add_left .., short⟩
    exact exec_readVisit hd (readVisit_ok keys split form (State.visitFor_position split))
  case ticket =>
    have form : (Selector.ticket k).wellFormed = true := (inRange_iff ..).2 ⟨low, high⟩
    exact exec_readVisit hd (readVisit_ok keys split form (State.visitFor_ticket split number oldest))
  case ident => exact exec_readVisit hd (readVisit_ok keys split form (State.visitFor_ident split newest))
  case noPosition =>
    refine exec_readVisit hd (readVisit_bad ?_)
    rcases outside with rfl | past
    · exact .inl rfl
    · exact .inr (List.getElem?_eq_none (Nat.le_sub_one_of_lt past))
  case noTicket => exact exec_readVisit hd (readVisit_bad (.inr (List.find?_eq_none.2 (by simpa using missing))))
  case noIdent => exact exec_readVisit hd (readVisit_bad (.inr (List.find?_eq_none.2 (by simpa using missing))))
  case tooLong =>
    have extra : s.headBodyBare = false := by rwa [← Bool.not_eq_true, State.headBodyBare_iff hd.1]
    exact exec_nextClosed hd (nextClosed_bad extra)
  case closed =>
    have alone : s.headBodyBare = true := (State.headBodyBare_iff hd.1).2 bare
    exact ⟨fun noneClosed => exec_nextClosed hd (nextClosed_none alone noneClosed), fun before after v split closed oldest =>
      exec_nextClosed hd (nextClosed_some keys split alone closed oldest)⟩

end Sys2Proof.Settled

/-! PROOFS. Chapter 7, the request SET_TICKET_BASE: the base the counter takes, and every base that is BAD. -/

namespace Sys2Proof.Machine

/-! ## The two outcomes of a base (R124) -/

section
variable {s : State} {base : Nat}

theorem setTicketBase_ok (low : 1 ≤ base) (high : base ≤ 99999999) :
    setTicketBase base s = accept { s with counter := .valid base } (.ticketBase s.counter base) :=
  if_pos ((inRange_iff ..).2 ⟨low, high⟩)

theorem setTicketBase_bad (outside : base = 0 ∨ 99999999 < base) : setTicketBase base s = refuse s .bad := by
  refine if_neg fun inside => ?_
  obtain ⟨low, high⟩ : 1 ≤ base ∧ base ≤ 99999999 := (inRange_iff ..).1 inside
  omega

/-- What SET_TICKET_BASE answers, from the outcome of its handling. -/
theorem exec_setTicketBase {t : State} {h : Request} {rest : List Request} {code : ReplyCode} {data : ReplyData}
    (hd : s.HasHead 19 h rest) (outcome : setTicketBase base s = (t, { code := code, data := data }))
    (kept : t.buffer = s.buffer) : exec (.setTicketBase (.fits base)) s = .next (t.replied h rest code data) :=
  congrArg Host.Outcome.next (State.serve_outcome hd outcome kept)

end

end Sys2Proof.Machine

namespace Sys2Proof.Settled
open Machine

/-- Settles O46: the base alone decides the outcome, and neither outcome touches the request buffer. -/
theorem setTicketBase : Obligations.SetTicketBase := by
  intro s h rest base hd
  refine ⟨fun low high => ?ok, fun outside => ?bad⟩
  case ok => exact exec_setTicketBase hd (setTicketBase_ok low high) rfl
  case bad => exact exec_setTicketBase hd (setTicketBase_bad outside) rfl

end Sys2Proof.Settled

/-! PROOFS. Chapter 8, the judging of an upstream slot: each line of the table of R139 as a case of `judgeSlot`. -/

namespace Sys2Proof.Machine

/-! ## The fields a record is judged by (R156–R158) -/

/-- The value 11 is the only one that names no mark (R158). -/
theorem markOf_eq_none_iff (v : BitVec 2) : markOf v = none ↔ v = 3#2 := by
  revert v
  decide

theorem eq_slotNumber_iff (v : BitVec 5) (n : StationId) : v = slotNumber n ↔ v.toNat = n.val + 1 := by
  have fits : n.val + 1 < 2 ^ 5 := by omega
  rw [← BitVec.toNat_inj, slotNumber, BitVec.toNat_ofNat, Nat.mod_eq_of_lt fits]

theorem four_le_recordLength (b2 : Byte) : 4 ≤ recordLength b2 := by
  unfold recordLength
  split <;> decide

theorem recordLength_of_group {b2 : Byte} (group : b2.getLsbD 5 = true) : recordLength b2 = 18 := if_pos group

/-- 14 bytes make a sample group (R157). -/
theorem sampleGroupOf_isSome {b : List Byte} (fourteen : b.length = 14) : (sampleGroupOf b).isSome = true := by
  match b, fourteen with
  | [_, _, _, _, _, _, _, _, _, _, _, _, _, _], _ => rfl

/-! ## The lines of the table (R139) -/

theorem judgeSlot_no_preamble {n : StationId} {frame : Nat} {arrived : List Byte} (absent : arrived.head? ≠ some preamble) :
    judgeSlot n frame arrived = .missing := by
  match arrived with
  | [] | [_] | [_, _] | [_, _, _] => rfl
  | p :: _ :: _ :: _ :: _ =>
    have other : p ≠ preamble := fun same => absent (congrArg some same)
    simp only [judgeSlot, bne_iff_ne.2 other, if_true]

section
variable {n : StationId} {frame : Nat} {b0 b1 b2 : Byte} {rest : List Byte}

/-- A record cut short before its slot check. -/
theorem judgeSlot_cut (short : (b0 :: b1 :: b2 :: rest).length < recordLength b2) :
    judgeSlot n frame (preamble :: b0 :: b1 :: b2 :: rest) = .missing := by
  have noCheck : (b0 :: b1 :: b2 :: rest)[recordLength b2 - 1]? = none :=
    List.getElem?_eq_none (Nat.le_sub_one_of_lt short)
  simp only [judgeSlot, bne_self_eq_false, Bool.false_eq_true, if_false, noCheck]

/-- A record that holds its slot check is judged by that check, then by its slot number, its mark and its group flag. -/
theorem judgeSlot_whole (whole : recordLength b2 ≤ (b0 :: b1 :: b2 :: rest).length) :
    judgeSlot n frame (preamble :: b0 :: b1 :: b2 :: rest) =
      let body := (b0 :: b1 :: b2 :: rest).take (recordLength b2 - 1)
      if (b0 :: b1 :: b2 :: rest)[recordLength b2 - 1]? ≠ some (slotCheck body) then .bad
      else if (b2.extractLsb' 0 5).toNat ≠ n.val + 1 then .bad
      else (markOf (b0.extractLsb' 1 2)).elim .bad fun mark =>
        if b2.getLsbD 5 = true ∧ frame ≠ 0 then .bad
        else .good { code := b0.extractLsb' 4 4, echo := b0.getLsbD 3, unit := unitFields mark (b0.getLsbD 0) b1,
                     answer := answerOf (b2.extractLsb' 6 2),
                     group := if b2.getLsbD 5 then sampleGroupOf (body.drop 3) else none } := by
  have inside : recordLength b2 - 1 < (b0 :: b1 :: b2 :: rest).length := by
    have := four_le_recordLength b2
    omega
  obtain ⟨check, held⟩ : ∃ check, (b0 :: b1 :: b2 :: rest)[recordLength b2 - 1]? = some check :=
    ⟨_, List.getElem?_eq_getElem inside⟩
  simp only [judgeSlot, bne_self_eq_false, Bool.false_eq_true, if_false, held, bne_iff_ne, ne_eq, Option.some.injEq,
    eq_slotNumber_iff, Bool.and_eq_true]
  cases markOf (b0.extractLsb' 1 2) <;> rfl

/-- Fewer than 5 bytes hold no whole record. -/
theorem judgeSlot_short {arrived : List Byte} (short : arrived.length < 5) : judgeSlot n frame arrived = .missing := by
  by_cases start : arrived.head? = some preamble
  · match arrived, start, short with
    | [_], _, _ | [_, _], _, _ | [_, _, _], _, _ => rfl
    | [_, _, _, b2], rfl, _ => exact judgeSlot_cut (four_le_recordLength b2)
  · exact judgeSlot_no_preamble start

/-- A whole record has a sample group exactly when its group-present flag is set: the 17 bytes before the check hold 14 of it. -/
theorem judgedGroup_isSome (whole : recordLength b2 ≤ (b0 :: b1 :: b2 :: rest).length) :
    (if b2.getLsbD 5 then sampleGroupOf (((b0 :: b1 :: b2 :: rest).take (recordLength b2 - 1)).drop 3) else none).isSome =
      b2.getLsbD 5 := by
  cases group : b2.getLsbD 5 with
  | false => rfl
  | true =>
    rw [if_pos rfl]
    refine sampleGroupOf_isSome ?_
    rw [recordLength_of_group group] at whole ⊢
    rw [List.length_drop, List.length_take]
    omega

end

end Sys2Proof.Machine

namespace Sys2Proof.Settled
open Machine

/-- Settles O6: a record that holds its check meets the lines of the table one after another, and the handling of a judged slot
does not tell a bad one from a missing one. -/
theorem slotJudged : Obligations.SlotJudged := by
  refine ⟨fun n frame arrived => ?missing, fun n frame b0 b1 b2 rest => ?record, fun s n => rfl⟩
  case missing =>
    rintro (absent | short)
    · exact judgeSlot_no_preamble absent
    · exact judgeSlot_short short
  case record =>
    intro bytes len
    refine ⟨judgeSlot_cut, fun whole => ?_⟩
    have judged := judgeSlot_whole (n := n) (frame := frame) whole
    split
    next wrongCheck => exact judged.trans (if_pos wrongCheck)
    next rightCheck =>
    replace judged := judged.trans (if_neg rightCheck)
    split
    next wrongNumber => exact judged.trans (if_pos wrongNumber)
    next ownNumber =>
    replace judged := judged.trans (if_neg ownNumber)
    split
    next noMark => rwa [(markOf_eq_none_iff _).2 noMark] at judged
    next someMark =>
    obtain ⟨mark, named⟩ := Option.ne_none_iff_exists'.1 (mt (markOf_eq_none_iff _).1 someMark)
    rw [named, Option.elim_some] at judged
    split
    next strayGroup => exact judged.trans (if_pos strayGroup)
    next inPlace => exact ⟨_, judged.trans (if_neg inPlace), rfl, rfl, judgedGroup_isSome whole⟩

end Sys2Proof.Settled

/-! PROOFS. The laws that every step keeps: what it means to keep them, and the changes of single tables that do. -/

namespace Sys2Proof.Machine

/-! ## Keeping the laws -/

/-- A later state meets every law but that of the deck hold that an earlier one met. -/
structure KeepsRecords (s t : State) : Prop where
  interlock : s.InterlockLaw → t.InterlockLaw
  zero : s.ZeroLaw → t.ZeroLaw
  visit : s.VisitLaw → t.VisitLaw
  frame : s.FrameLaw → t.FrameLaw
  counter : s.CounterLaw → t.CounterLaw
  office : s.OfficeLaw → t.OfficeLaw
  table : s.TableLaw → t.TableLaw

/-- A later state meets every law of the device that an earlier one met. -/
structure KeepsLaws (s t : State) : Prop extends KeepsRecords s t where
  hold : s.HoldLaw → t.HoldLaw

theorem KeepsRecords.refl (s : State) : KeepsRecords s s := ⟨id, id, id, id, id, id, id⟩

theorem KeepsRecords.trans {s t u : State} (h : KeepsRecords s t) (k : KeepsRecords t u) : KeepsRecords s u :=
  ⟨k.interlock ∘ h.interlock, k.zero ∘ h.zero, k.visit ∘ h.visit, k.frame ∘ h.frame, k.counter ∘ h.counter,
    k.office ∘ h.office, k.table ∘ h.table⟩

theorem KeepsLaws.refl (s : State) : KeepsLaws s s := ⟨.refl s, id⟩

theorem KeepsLaws.trans {s t u : State} (h : KeepsLaws s t) (k : KeepsLaws t u) : KeepsLaws s u :=
  ⟨h.toKeepsRecords.trans k.toKeepsRecords, k.hold ∘ h.hold⟩

/-- The law of the deck hold speaks of the arbiters, the lanes and the lane table alone. -/
theorem State.HoldLaw.congr {s t : State} (h : s.HoldLaw) (arbiters : t.arbiters = s.arbiters) (lanes : t.lanes = s.lanes)
    (laneTable : t.laneTable = s.laneTable) : t.HoldLaw := by
  simpa only [State.HoldLaw, State.arbiter, State.lane, State.laneRecord, arbiters, lanes, laneTable] using h

/-- A change that leaves the arbiters, the lanes and the lane table alone keeps the law of the deck hold. -/
theorem KeepsLaws.ofRecords {s₀ s t : State} (h : KeepsLaws s₀ s) (k : KeepsRecords s t) (arbiters : t.arbiters = s.arbiters)
    (lanes : t.lanes = s.lanes) (laneTable : t.laneTable = s.laneTable) : KeepsLaws s₀ t :=
  h.trans ⟨k, fun law => law.congr arbiters lanes laneTable⟩

/-! ## The visit law (R86) -/

/-- The visit law is kept by a change of records that keeps their idents and keys and makes none stand that did not. -/
theorem State.VisitLaw.map {s t : State} (h : s.VisitLaw) (g : Visit → Visit) (visits : t.visits = s.visits.map g)
    (next : t.nextVisitKey = s.nextVisitKey)
    (same : ∀ v ∈ s.visits, (g v).ident = v.ident ∧ (g v).key = v.key ∧
      ((g v).state.standing = true → v.state.standing = true)) : t.VisitLaw := by
  obtain ⟨idents, keys, below⟩ := h
  rw [List.pairwise_filter] at idents
  refine ⟨?_, ?_, ?_⟩
  · rw [visits, List.pairwise_filter, List.pairwise_map]
    refine idents.imp_of_mem fun ha hb apart sa sb => ?_
    rw [(same _ ha).1, (same _ hb).1]
    exact apart ((same _ ha).2.2 sa) ((same _ hb).2.2 sb)
  · rw [visits, List.pairwise_map]
    exact keys.imp_of_mem fun ha hb apart => by rwa [(same _ ha).2.1, (same _ hb).2.1]
  · rw [visits, next]
    intro v hv
    obtain ⟨x, hx, rfl⟩ := List.mem_map.1 hv
    rw [(same x hx).2.1]
    exact below x hx

/-- The visit law is kept when records leave the table. -/
theorem State.VisitLaw.sublist {s t : State} (h : s.VisitLaw) (visits : t.visits.Sublist s.visits)
    (next : t.nextVisitKey = s.nextVisitKey) : t.VisitLaw := by
  obtain ⟨idents, keys, below⟩ := h
  exact ⟨idents.sublist (visits.filter _), keys.sublist visits, fun v hv => next ▸ below v (visits.subset hv)⟩

/-- A new record of an ident that has none standing keeps the visit law (R86). -/
theorem State.VisitLaw.append {s t : State} (h : s.VisitLaw) {v : Visit} (visits : t.visits = s.visits ++ [v])
    (key : v.key = s.nextVisitKey) (next : t.nextVisitKey = s.nextVisitKey + 1) (absent : s.inYard v.ident = false) :
    t.VisitLaw := by
  obtain ⟨idents, keys, below⟩ := h
  simp only [State.inYard, List.any_eq_false, Bool.and_eq_true, beq_iff_eq, not_and] at absent
  refine ⟨?_, ?_, ?_⟩
  · rw [visits]
    rw [List.pairwise_filter] at idents ⊢
    refine List.pairwise_append.2 ⟨idents, List.pairwise_singleton _ _, fun a ha b hb sa _ => ?_⟩
    obtain rfl := List.mem_singleton.1 hb
    exact fun same => absent a ha same sa
  · rw [visits]
    refine List.pairwise_append.2 ⟨keys, List.pairwise_singleton _ _, fun a ha b hb => ?_⟩
    obtain rfl := List.mem_singleton.1 hb
    exact key ▸ (below a ha).ne
  · rw [visits, next]
    intro x hx
    rcases List.mem_append.1 hx with old | new
    · exact Nat.lt_succ_of_lt (below x old)
    · obtain rfl := List.mem_singleton.1 new
      omega

/-! ## Changes of one table -/

section
variable {s₀ s : State}

theorem KeepsRecords.setArbiter (h : KeepsRecords s₀ s) (d : DeckId) (x : Arbiter) : KeepsRecords s₀ (s.setArbiter d x) :=
  h.trans ⟨id, id, id, id, id, id, id⟩

theorem KeepsRecords.setLane (h : KeepsRecords s₀ s) (l : LaneId) (x : LaneContext) : KeepsRecords s₀ (s.setLane l x) :=
  h.trans ⟨id, id, id, id, id, id, id⟩

theorem KeepsRecords.updateLane (h : KeepsRecords s₀ s) (l : LaneId) (f : LaneContext → LaneContext) :
    KeepsRecords s₀ (s.updateLane l f) := h.setLane l _

theorem KeepsRecords.setLaneRecord (h : KeepsRecords s₀ s) (l : LaneId) (x : Option LaneRecord) :
    KeepsRecords s₀ (s.setLaneRecord l x) :=
  h.trans ⟨id, id, id, id, id, id, id⟩

theorem KeepsRecords.setSlot (h : KeepsRecords s₀ s) (n : StationId) (x : LoopSlot)
    (near : (s.slot n).near ≤ 255 → x.near ≤ 255) (far : (s.slot n).far ≤ 255 → x.far ≤ 255) :
    KeepsRecords s₀ (s.setSlot n x) := by
  refine h.trans ⟨id, id, id, id, ?_, id, id⟩
  rintro ⟨slots, barriers⟩
  refine ⟨fun m => ?_, barriers⟩
  rw [State.slot_setSlot]
  split
  · exact ⟨near (slots n).1, far (slots n).2⟩
  · exact slots m

theorem KeepsRecords.setCommand (h : KeepsRecords s₀ s) (n : StationId) (c : Command) : KeepsRecords s₀ (s.setCommand n c) :=
  h.setSlot n _ id id

theorem KeepsRecords.setStation (h : KeepsRecords s₀ s) (n : StationId) (x : Station) : KeepsRecords s₀ (s.setStation n x) :=
  h.trans ⟨id, id, id, id, id, id, id⟩

/-- A barrier record that is within the interlock law and the top of its obstruction count may be written. -/
theorem KeepsRecords.setBarrier (h : KeepsRecords s₀ s) (n : StationId) (x : Option BarrierRecord)
    (lawful : ∀ b, x = some b → s.InterlockLaw → b.lawful)
    (counted : ∀ b, x = some b → s.CounterLaw → b.obstructions ≤ 255) : KeepsRecords s₀ (s.setBarrier n x) := by
  refine h.trans ⟨fun law m b hb => ?_, id, id, id, fun law => ⟨law.1, fun m b hb => ?_⟩, id, id⟩
  all_goals
    rw [State.barrier_setBarrier] at hb
    split at hb
  · exact lawful b hb law
  · exact law m b hb
  · exact counted b hb law
  · exact law.2 m b hb

theorem KeepsRecords.setDeck (h : KeepsRecords s₀ s) (d : DeckId) (x : DeckEngine) (lawful : s.ZeroLaw → x.zeroLawful) :
    KeepsRecords s₀ (s.setDeck d x) := by
  refine h.trans ⟨id, fun law m => ?_, id, id, id, id, id⟩
  rw [State.deck_setDeck]
  split
  · exact lawful law
  · exact law m

theorem KeepsRecords.setQueue (h : KeepsRecords s₀ s) (l : LaneId) (x : TicketQueue)
    (short : (s.queue l).jobs.length ≤ 8 → x.jobs.length ≤ 8) : KeepsRecords s₀ (s.setQueue l x) := by
  refine h.trans ⟨id, id, id, id, id, id, ?_⟩
  rintro ⟨visits, vehicles, queues⟩
  refine ⟨visits, vehicles, fun m => ?_⟩
  rw [State.queue_setQueue]
  split
  · exact short (queues l)
  · exact queues m

theorem KeepsRecords.post (h : KeepsRecords s₀ s) (b : ReportBody) : KeepsRecords s₀ (s.post b) := by
  rcases s.post_cases b with ⟨room, same⟩ | ⟨_, same⟩ <;> rw [same]
  · refine h.trans ⟨id, id, id, id, id, fun law => ⟨?_, law.2⟩, id⟩
    simpa [State.reported] using room
  · refine h.trans ⟨id, id, id, id, id, ?_, id⟩
    rintro ⟨reports, buffer, refusals, _⟩
    exact ⟨reports, buffer, refusals, Nat.min_le_left _ _⟩

theorem KeepsRecords.giveReply (h : KeepsRecords s₀ s) (y : Reply) : KeepsRecords s₀ (s.giveReply y) := by
  unfold State.giveReply
  split
  · exact h
  next head rest buffer =>
    refine h.trans ⟨id, id, id, id, id, ?_, id⟩
    rintro ⟨reports, short, others⟩
    exact ⟨reports, by simpa [buffer] using short, others⟩

theorem KeepsRecords.updateVisit (h : KeepsRecords s₀ s) (k : Nat) (f : Visit → Visit)
    (same : s₀.VisitLaw → ∀ v ∈ s.visits, v.key = k →
      (f v).ident = v.ident ∧ (f v).key = v.key ∧ ((f v).state.standing = true → v.state.standing = true)) :
    KeepsRecords s₀ (s.updateVisit k f) := by
  refine ⟨h.interlock, h.zero, fun law => (h.visit law).map _ rfl rfl fun v hv => ?_, h.frame, h.counter, h.office,
    fun law => ?_⟩
  · split
    next key => exact same law v hv key
    next => exact ⟨rfl, rfl, id⟩
  · obtain ⟨visits, others⟩ := h.table law
    exact ⟨by simpa [State.updateVisit] using visits, others⟩

/-- Records may leave the visit table. -/
theorem KeepsRecords.filterVisits (h : KeepsRecords s₀ s) (p : Visit → Bool) :
    KeepsRecords s₀ { s with visits := s.visits.filter p } :=
  h.trans ⟨id, id, fun law => law.sublist List.filter_sublist rfl, id, id, id,
    fun ⟨visits, others⟩ => ⟨(List.length_filter_le _ _).trans visits, others⟩⟩

theorem KeepsRecords.freeVisit (h : KeepsRecords s₀ s) (l : LaneId) (k : Nat) : KeepsRecords s₀ (s.freeVisit l k) := by
  unfold State.freeVisit
  split
  · exact h
  · split
    · exact h.filterVisits _
    · exact h

end

/-! ## The same changes with the law of the deck hold -/

section
variable {s₀ s : State}

theorem KeepsLaws.setSlot (h : KeepsLaws s₀ s) (n : StationId) (x : LoopSlot) (near : (s.slot n).near ≤ 255 → x.near ≤ 255)
    (far : (s.slot n).far ≤ 255 → x.far ≤ 255) : KeepsLaws s₀ (s.setSlot n x) :=
  h.ofRecords ((KeepsRecords.refl s).setSlot n x near far) rfl rfl rfl

theorem KeepsLaws.updateSlot (h : KeepsLaws s₀ s) (n : StationId) (f : LoopSlot → LoopSlot)
    (near : (s.slot n).near ≤ 255 → (f (s.slot n)).near ≤ 255 := by exact id)
    (far : (s.slot n).far ≤ 255 → (f (s.slot n)).far ≤ 255 := by exact id) :
    KeepsLaws s₀ (s.updateSlot n f) := h.setSlot n _ near far

theorem KeepsLaws.setCommand (h : KeepsLaws s₀ s) (n : StationId) (c : Command) : KeepsLaws s₀ (s.setCommand n c) :=
  h.updateSlot n _

theorem KeepsLaws.setStation (h : KeepsLaws s₀ s) (n : StationId) (x : Station) : KeepsLaws s₀ (s.setStation n x) :=
  h.ofRecords ((KeepsRecords.refl s).setStation n x) rfl rfl rfl

theorem KeepsLaws.updateStation (h : KeepsLaws s₀ s) (n : StationId) (f : Station → Station) :
    KeepsLaws s₀ (s.updateStation n f) := h.setStation n _

theorem KeepsLaws.setBarrier (h : KeepsLaws s₀ s) (n : StationId) (x : Option BarrierRecord)
    (lawful : ∀ b, x = some b → s.InterlockLaw → b.lawful)
    (counted : ∀ b, x = some b → s.CounterLaw → b.obstructions ≤ 255) : KeepsLaws s₀ (s.setBarrier n x) :=
  h.ofRecords ((KeepsRecords.refl s).setBarrier n x lawful counted) rfl rfl rfl

theorem KeepsLaws.setDeck (h : KeepsLaws s₀ s) (d : DeckId) (x : DeckEngine) (lawful : s.ZeroLaw → x.zeroLawful) :
    KeepsLaws s₀ (s.setDeck d x) :=
  h.ofRecords ((KeepsRecords.refl s).setDeck d x lawful) rfl rfl rfl

theorem KeepsLaws.setQueue (h : KeepsLaws s₀ s) (l : LaneId) (x : TicketQueue)
    (short : (s.queue l).jobs.length ≤ 8 → x.jobs.length ≤ 8) : KeepsLaws s₀ (s.setQueue l x) :=
  h.ofRecords ((KeepsRecords.refl s).setQueue l x short) rfl rfl rfl

theorem KeepsLaws.post (h : KeepsLaws s₀ s) (b : ReportBody) : KeepsLaws s₀ (s.post b) :=
  h.ofRecords ((KeepsRecords.refl s).post b) (s.post_arbiters b) (s.post_lanes b) (s.post_laneTable b)

theorem KeepsLaws.giveReply (h : KeepsLaws s₀ s) (y : Reply) : KeepsLaws s₀ (s.giveReply y) :=
  h.ofRecords ((KeepsRecords.refl s).giveReply y) (s.giveReply_arbiters y) (s.giveReply_lanes y) (s.giveReply_laneTable y)

theorem KeepsLaws.updateVisit (h : KeepsLaws s₀ s) (k : Nat) (f : Visit → Visit)
    (same : s₀.VisitLaw → ∀ v ∈ s.visits, v.key = k →
      (f v).ident = v.ident ∧ (f v).key = v.key ∧ ((f v).state.standing = true → v.state.standing = true)) :
    KeepsLaws s₀ (s.updateVisit k f) :=
  ⟨h.toKeepsRecords.updateVisit k f same, fun law => (h.hold law).congr rfl rfl rfl⟩

theorem KeepsLaws.filterVisits (h : KeepsLaws s₀ s) (p : Visit → Bool) :
    KeepsLaws s₀ { s with visits := s.visits.filter p } :=
  h.ofRecords ((KeepsRecords.refl s).filterVisits p) rfl rfl rfl

/-- Fields no law speaks of may take any value. -/
theorem KeepsLaws.setTareUpdates (h : KeepsLaws s₀ s) (xs : List TareUpdate) : KeepsLaws s₀ { s with tareUpdates := xs } :=
  h.trans ⟨⟨id, id, id, id, id, id, id⟩, id⟩

theorem KeepsLaws.setCounter (h : KeepsLaws s₀ s) (c : TicketCounter) : KeepsLaws s₀ { s with counter := c } :=
  h.trans ⟨⟨id, id, id, id, id, id, id⟩, id⟩

theorem KeepsLaws.setResetsDue (h : KeepsLaws s₀ s) (r : ResetsDue) : KeepsLaws s₀ { s with resetsDue := r } :=
  h.trans ⟨⟨id, id, id, id, id, id, id⟩, id⟩

theorem KeepsLaws.forEach {α : Type} (h : KeepsLaws s₀ s) (xs : List α) (f : α → State → State)
    (each : ∀ x ∈ xs, ∀ t, KeepsLaws s₀ t → KeepsLaws s₀ (f x t)) : KeepsLaws s₀ (forEach xs f s) :=
  forEach_keeps (KeepsLaws s₀) xs f each s h

end

end Sys2Proof.Machine

/-! PROOFS. The law of the deck hold: what a change of lane state does to the lane, the claims and the holders, and the four
changes of a claim that keep the law. -/

namespace Sys2Proof.Machine

/-! ## The law in two parts (R72) -/

/-- The claims and the holder of a deck are those of the lanes of that deck that wait and hold. -/
def State.ClaimsLaw (s : State) : Prop :=
  (∀ d, (s.arbiter d).claims.Nodup)
    ∧ (∀ d l, l ∈ (s.arbiter d).claims ↔ (s.lane l).claim = .waiting ∧ (s.laneRecord l).map LaneRecord.deck = some d)
    ∧ ∀ d l, (s.arbiter d).holder = some l ↔ (s.lane l).claim = .held ∧ (s.laneRecord l).map LaneRecord.deck = some d

/-- A lane waits, holds and times in the states that go with it. -/
def LaneContext.HoldLawful (c : LaneContext) : Prop :=
  (c.claim = .waiting → c.state = .awaitDeck) ∧ (c.claim = .held → c.mayHold = true) ∧ (c.onDeck = true → c.claim = .held)
    ∧ c.timerLawful = true

theorem State.holdLaw_iff (s : State) : s.HoldLaw ↔ s.ClaimsLaw ∧ ∀ l, (s.lane l).HoldLawful := by
  unfold State.HoldLaw State.ClaimsLaw LaneContext.HoldLawful
  tauto

theorem State.HoldLaw.claims {s : State} (h : s.HoldLaw) : s.ClaimsLaw := (s.holdLaw_iff.1 h).1
theorem State.HoldLaw.lanes {s : State} (h : s.HoldLaw) (l : LaneId) : (s.lane l).HoldLawful := (s.holdLaw_iff.1 h).2 l

theorem LaneContext.HoldLawful.not_held {c : LaneContext} (h : c.HoldLawful) (off : c.mayHold = false) : c.claim ≠ .held := by
  intro held
  rw [h.2.1 held] at off
  cases off

theorem LaneContext.HoldLawful.held {c : LaneContext} (h : c.HoldLawful) (on : c.onDeck = true) : c.claim = .held := h.2.2.1 on

theorem LaneContext.HoldLawful.not_waiting {c : LaneContext} (h : c.HoldLawful) (other : c.state ≠ .awaitDeck) :
    c.claim ≠ .waiting := fun waiting => other (h.1 waiting)

/-- A change of one lane's claim and of its deck's arbiter keeps the claims law when the two go together and the arbiter
keeps the claims and the hold of the other lanes. -/
theorem State.ClaimsLaw.change {s t : State} (h : s.ClaimsLaw) {l : LaneId} {d : DeckId} {a : Arbiter} {c : Claim}
    (record : (s.laneRecord l).map LaneRecord.deck = some d)
    (arbiter : ∀ e, t.arbiter e = if d = e then a else s.arbiter e)
    (claim : ∀ m, (t.lane m).claim = if l = m then c else (s.lane m).claim)
    (records : ∀ m, t.laneRecord m = s.laneRecord m) (nodup : a.claims.Nodup)
    (waits : l ∈ a.claims ↔ c = .waiting) (holds : a.holder = some l ↔ c = .held)
    (otherClaims : ∀ m, l ≠ m → (m ∈ a.claims ↔ m ∈ (s.arbiter d).claims))
    (otherHolds : ∀ m, l ≠ m → (a.holder = some m ↔ (s.arbiter d).holder = some m)) : t.ClaimsLaw := by
  obtain ⟨nodups, claims, holders⟩ := h
  refine ⟨fun e => ?_, fun e m => ?_, fun e m => ?_⟩
  · rw [arbiter]
    split
    · exact nodup
    · exact nodups e
  · rw [arbiter, claim, records]
    by_cases deck : d = e <;> by_cases lane : l = m
    · subst deck lane
      simp [record, waits]
    · subst deck
      rw [if_pos rfl, if_neg lane, otherClaims m lane, claims]
    · subst lane
      rw [if_neg deck, if_pos rfl, claims, record]
      simp [deck]
    · rw [if_neg deck, if_neg lane, claims]
  · rw [arbiter, claim, records]
    by_cases deck : d = e <;> by_cases lane : l = m
    · subst deck lane
      simp [record, holds]
    · subst deck
      rw [if_pos rfl, if_neg lane, otherHolds m lane, holders]
    · subst lane
      rw [if_neg deck, if_pos rfl, holders, record]
      simp [deck]
    · rw [if_neg deck, if_neg lane, holders]

theorem State.ClaimsLaw.congr {s t : State} (h : s.ClaimsLaw) (arbiter : ∀ e, t.arbiter e = s.arbiter e)
    (claim : ∀ m, (t.lane m).claim = (s.lane m).claim) (records : ∀ m, t.laneRecord m = s.laneRecord m) : t.ClaimsLaw := by
  simpa only [State.ClaimsLaw, arbiter, claim, records] using h

/-! ## What a change of lane state does to the lanes and the arbiters (R59, R60, R72) -/

@[simp] theorem State.lane_updateLane (s : State) (l m : LaneId) (f : LaneContext → LaneContext) :
    (s.updateLane l f).lane m = if l = m then f (s.lane l) else s.lane m := by
  rw [State.updateLane, State.lane_setLane]

@[simp] theorem State.updateLane_arbiter (s : State) (l : LaneId) (f : LaneContext → LaneContext) (d : DeckId) :
    (s.updateLane l f).arbiter d = s.arbiter d := rfl
@[simp] theorem State.updateLane_laneRecord (s : State) (l m : LaneId) (f : LaneContext → LaneContext) :
    (s.updateLane l f).laneRecord m = s.laneRecord m := rfl

/-- The context with a waiting claim withdrawn (R72). -/
def LaneContext.withdrawn (c : LaneContext) : LaneContext := if c.claim = .waiting then { c with claim := .none } else c

theorem LaneContext.withdrawn_claim (c : LaneContext) : c.withdrawn.claim = if c.claim = .waiting then .none else c.claim := by
  unfold LaneContext.withdrawn
  split <;> simp_all

theorem State.withdrawClaim_lane (s : State) (l m : LaneId) (d : DeckId) :
    (s.withdrawClaim l d).lane m = if l = m then (s.lane l).withdrawn else s.lane m := by
  unfold State.withdrawClaim LaneContext.withdrawn
  split
  · simp
  · split
    next same => rw [same]
    next => rfl

@[simp] theorem State.withdrawClaim_laneRecord (s : State) (l m : LaneId) (d : DeckId) :
    (s.withdrawClaim l d).laneRecord m = s.laneRecord m := by
  unfold State.withdrawClaim
  split <;> rfl

theorem State.ClaimsLaw.withdrawClaim {s : State} (h : s.ClaimsLaw) {l : LaneId} {r : LaneRecord}
    (record : s.laneRecord l = some r) : (s.withdrawClaim l r.deck).ClaimsLaw := by
  by_cases waits : (s.lane l).claim = .waiting
  · have unheld : (s.arbiter r.deck).holder ≠ some l := fun held => by
      have := ((h.2.2 r.deck l).1 held).1
      rw [waits] at this
      cases this
    refine h.change (d := r.deck) (l := l) (c := .none)
      (a := { s.arbiter r.deck with claims := (s.arbiter r.deck).claims.filter (· != l) }) (by rw [record]; rfl)
      (fun e => ?_) (fun m => ?_) (fun m => by simp) ((h.1 _).filter _) (by simp) (by simp [unheld])
      (fun m other => by simp [other.symm]) fun m _ => Iff.rfl
    · simp [State.withdrawClaim, waits, State.arbiter_setArbiter]
    · rw [State.withdrawClaim_lane]
      split <;> simp [LaneContext.withdrawn_claim, waits]
  · simpa [State.withdrawClaim, waits] using h

@[simp] theorem State.freeVisit_lane (s : State) (l m : LaneId) (k : Nat) : (s.freeVisit l k).lane m = s.lane m := by
  unfold State.freeVisit
  repeat' split
  all_goals rfl

@[simp] theorem State.freeVisit_arbiter (s : State) (l : LaneId) (k : Nat) (d : DeckId) :
    (s.freeVisit l k).arbiter d = s.arbiter d := by
  unfold State.freeVisit
  repeat' split
  all_goals rfl

theorem State.freeReservation_lane (s : State) (l m : LaneId) :
    (s.freeReservation l).lane m = if l = m then { s.lane l with reservation := none } else s.lane m := by
  unfold State.freeReservation
  split
  next none =>
    split
    next same => rw [← same, ← none]
    next => rfl
  next => simp

@[simp] theorem State.freeReservation_arbiter (s : State) (l : LaneId) (d : DeckId) :
    (s.freeReservation l).arbiter d = s.arbiter d := by
  unfold State.freeReservation
  split <;> simp

@[simp] theorem State.setLaneCodes_lane (s : State) (l m : LaneId) (r : LaneRecord) : (s.setLaneCodes l r).lane m = s.lane m := by
  unfold State.setLaneCodes
  dsimp only
  split <;> simp

@[simp] theorem State.setLaneCodes_arbiter (s : State) (l : LaneId) (r : LaneRecord) (d : DeckId) :
    (s.setLaneCodes l r).arbiter d = s.arbiter d := by
  unfold State.setLaneCodes
  dsimp only
  split <;> simp

/-- The context of a lane as it enters a state, its claim withdrawn and its reservation freed first (R59, R60, R72). -/
def LaneContext.entered (c : LaneContext) (st : LaneState) (r : LaneRecord) (reason : Option ReferralReason) : LaneContext :=
  (if st.frees then { c.withdrawn with reservation := none } else c.withdrawn).enters st r reason

theorem State.enterLane_no_record {s : State} {l : LaneId} (record : s.laneRecord l = none) (st : LaneState) (why : LaneReason)
    (read : Option IdentRead) : s.enterLane l st why read = s := by
  simp only [State.enterLane, record]

theorem State.enterLane_lane {s : State} {l : LaneId} {r : LaneRecord} (record : s.laneRecord l = some r) (st : LaneState)
    (why : LaneReason) (read : Option IdentRead) (m : LaneId) :
    (s.enterLane l st why read).lane m = if l = m then (s.lane l).entered st r why.referral? else s.lane m := by
  simp only [State.enterLane, record, State.post_lane, State.setLaneCodes_lane, State.lane_updateLane, LaneContext.entered]
  by_cases same : l = m
  · subst same
    cases st.frees <;> simp [State.freeReservation_lane, State.withdrawClaim_lane]
  · cases st.frees <;> simp [State.freeReservation_lane, State.withdrawClaim_lane, same]

theorem State.enterLane_arbiter {s : State} {l : LaneId} {r : LaneRecord} (record : s.laneRecord l = some r) (st : LaneState)
    (why : LaneReason) (read : Option IdentRead) (d : DeckId) :
    (s.enterLane l st why read).arbiter d = (s.withdrawClaim l r.deck).arbiter d := by
  simp only [State.enterLane, record, State.post_arbiter, State.setLaneCodes_arbiter, State.updateLane_arbiter]
  cases st.frees <;> simp

@[simp] theorem State.enterLane_laneRecord (s : State) (l m : LaneId) (st : LaneState) (why : LaneReason)
    (read : Option IdentRead) : (s.enterLane l st why read).laneRecord m = s.laneRecord m := by
  rw [State.laneRecord, State.laneTable_of_fixed (s.enterLane_fixed l st why read), State.laneRecord]

theorem State.enterLane_lane_other (s : State) {l m : LaneId} (other : l ≠ m) (st : LaneState) (why : LaneReason)
    (read : Option IdentRead) : (s.enterLane l st why read).lane m = s.lane m := by
  cases record : s.laneRecord l with
  | none => rw [State.enterLane_no_record record]
  | some r => rw [State.enterLane_lane record, if_neg other]

/-! ## The context a lane enters a state with -/

/-- A lane state whose vehicle is on the deck, by the referral reason it is entered with (R72). -/
def LaneState.drives (st : LaneState) (reason : Option ReferralReason) : Bool :=
  match st with
  | .entering | .weighing | .releasing | .leaving => true
  | .referred => reason.any fun x => !x.beforeEntry
  | .closed | .recover | .idle | .identify | .refused | .awaitDeck | .fault => false

section
variable (c : LaneContext) (st : LaneState) (r : LaneRecord) (reason : Option ReferralReason)

@[simp] theorem LaneContext.enters_state : (c.enters st r reason).state = st := rfl
@[simp] theorem LaneContext.enters_reason : (c.enters st r reason).reason = if st = .referred then reason else none := rfl
@[simp] theorem LaneContext.enters_timer : (c.enters st r reason).timer = laneTimerOf st r reason := rfl
@[simp] theorem LaneContext.enters_claim : (c.enters st r reason).claim = c.claim := by
  unfold LaneContext.enters
  cases st.clears <;> rfl
@[simp] theorem LaneContext.entered_claim : (c.entered st r reason).claim = c.withdrawn.claim := by
  unfold LaneContext.entered
  rw [LaneContext.enters_claim]
  cases st.frees <;> rfl
@[simp] theorem LaneContext.entered_state : (c.entered st r reason).state = st := rfl

theorem LaneContext.enters_onDeck : (c.enters st r reason).onDeck = st.drives reason := by
  cases st <;> rfl

/-- The timer of the state entered is the one the law allows it (R60, R68). -/
theorem LaneContext.enters_timerLawful : (c.enters st r reason).timerLawful = true := by
  unfold LaneContext.timerLawful
  rw [LaneContext.enters_timer, LaneContext.enters_state, LaneContext.enters_reason]
  cases st with
  | referred =>
    simp only [laneTimerOf, if_true]
    split
    next before => simpa using before
    next => rfl
  | _ => rfl

end

/-- A lane may enter a state that goes with the hold it has (R72). -/
def LaneContext.MayEnter (c : LaneContext) (st : LaneState) (reason : Option ReferralReason) : Prop :=
  (c.claim = .held → st.drives reason = true ∨ st = .fault ∨ st = .recover) ∧ (st.drives reason = true → c.claim = .held)

section
variable {c : LaneContext} {st : LaneState} {reason : Option ReferralReason}

/-- A lane without a hold may enter a state off the deck. -/
theorem LaneContext.mayEnter_off (off : st.drives reason = false) (free : c.claim ≠ .held) : c.MayEnter st reason :=
  ⟨fun held => absurd held free, fun on => by rw [off] at on; cases on⟩

/-- A lane that holds its deck may enter a state on it. -/
theorem LaneContext.mayEnter_on (on : st.drives reason = true) (held : c.claim = .held) : c.MayEnter st reason :=
  ⟨fun _ => .inl on, fun _ => held⟩

/-- Any lane may enter FAULT and RECOVER. -/
theorem LaneContext.mayEnter_stop (stop : st = .fault ∨ st = .recover) : c.MayEnter st reason :=
  ⟨fun _ => .inr stop, fun on => by rcases stop with rfl | rfl <;> cases on⟩

theorem LaneContext.HoldLawful.entered (may : c.MayEnter st reason) (r : LaneRecord) :
    (c.entered st r reason).HoldLawful := by
  obtain ⟨held, drives⟩ := may
  have claim := c.entered_claim st r reason
  rw [LaneContext.withdrawn_claim] at claim
  have onDeck : (c.entered st r reason).onDeck = st.drives reason := LaneContext.enters_onDeck ..
  refine ⟨fun waits => ?_, fun holds => ?_, fun on => ?_, LaneContext.enters_timerLawful ..⟩
  · rw [claim] at waits
    split at waits
    · cases waits
    · contradiction
  · rw [claim] at holds
    split at holds
    · cases holds
    · rw [LaneContext.mayHold, onDeck, LaneContext.entered_state]
      rcases held holds with on | rfl | rfl <;> simp_all
  · rw [onDeck] at on
    rw [claim, if_neg (by rw [drives on]; exact Claim.noConfusion), drives on]

end

theorem State.ClaimsLaw.enterLane {s : State} (h : s.ClaimsLaw) (l : LaneId) (st : LaneState) (why : LaneReason)
    (read : Option IdentRead) : (s.enterLane l st why read).ClaimsLaw := by
  cases record : s.laneRecord l with
  | none => rwa [State.enterLane_no_record record]
  | some r =>
    refine (h.withdrawClaim record).congr (fun e => State.enterLane_arbiter record ..) (fun m => ?_) fun m => by simp
    rw [State.enterLane_lane record, State.withdrawClaim_lane]
    split
    · exact LaneContext.entered_claim ..
    · rfl

/-! ## Keeping the laws through a change of lane state -/

section
variable {s₀ s : State}

theorem KeepsRecords.withdrawClaim (h : KeepsRecords s₀ s) (l : LaneId) (d : DeckId) :
    KeepsRecords s₀ (s.withdrawClaim l d) := by
  unfold State.withdrawClaim
  split
  · exact (h.setArbiter d _).updateLane l _
  · exact h

theorem KeepsRecords.freeReservation (h : KeepsRecords s₀ s) (l : LaneId) : KeepsRecords s₀ (s.freeReservation l) := by
  unfold State.freeReservation
  split
  · exact h
  next k _ => exact (h.freeVisit l k).updateLane l _

theorem KeepsRecords.setLaneCodes (h : KeepsRecords s₀ s) (l : LaneId) (r : LaneRecord) :
    KeepsRecords s₀ (s.setLaneCodes l r) := by
  unfold State.setLaneCodes
  dsimp only
  split
  · exact h.setCommand _ _
  · exact (h.setCommand _ _).setCommand _ _

theorem KeepsRecords.enterLane (h : KeepsRecords s₀ s) (l : LaneId) (st : LaneState) (why : LaneReason)
    (read : Option IdentRead) : KeepsRecords s₀ (s.enterLane l st why read) := by
  unfold State.enterLane
  split
  · exact h
  next r _ =>
    have claimless := h.withdrawClaim l r.deck
    dsimp only
    split
    · exact (((claimless.freeReservation l).updateLane l _).setLaneCodes l r).post _
    · exact ((claimless.updateLane l _).setLaneCodes l r).post _

/-- A change of lane state keeps the laws when the lane may enter the state. -/
theorem KeepsLaws.enterLane (h : KeepsLaws s₀ s) (l : LaneId) (st : LaneState) (why : LaneReason) (read : Option IdentRead)
    (may : s₀.HoldLaw → (s.lane l).MayEnter st why.referral?) : KeepsLaws s₀ (s.enterLane l st why read) := by
  refine ⟨h.toKeepsRecords.enterLane l st why read, fun law₀ => ?_⟩
  have law := h.hold law₀
  refine (State.holdLaw_iff _).2 ⟨law.claims.enterLane l st why read, fun m => ?_⟩
  cases record : s.laneRecord l with
  | none =>
    rw [State.enterLane_no_record record]
    exact law.lanes m
  | some r =>
    rw [State.enterLane_lane record]
    split
    · exact LaneContext.HoldLawful.entered (may law₀) r
    · exact law.lanes m

/-- A lane's own fields that go with neither its state nor its claim may take any value, and its timer may stop. -/
theorem KeepsLaws.updateLane (h : KeepsLaws s₀ s) (l : LaneId) (f : LaneContext → LaneContext)
    (same : (f (s.lane l)).state = (s.lane l).state ∧ (f (s.lane l)).reason = (s.lane l).reason ∧
      (f (s.lane l)).claim = (s.lane l).claim := by exact ⟨rfl, rfl, rfl⟩)
    (timer : (f (s.lane l)).timer = (s.lane l).timer ∨ (f (s.lane l)).timer = none := by exact .inl rfl) : KeepsLaws s₀ (s.updateLane l f) := by
  obtain ⟨state, reason, claim⟩ := same
  refine h.trans ⟨(KeepsRecords.refl s).updateLane l f, fun law => ?_⟩
  refine (State.holdLaw_iff _).2 ⟨law.claims.congr (fun _ => rfl) (fun m => ?_) fun _ => rfl, fun m => ?_⟩
  · rw [State.lane_updateLane]
    split
    next lane => rw [claim, lane]
    next => rfl
  · rw [State.lane_updateLane]
    split
    · obtain ⟨waits, holds, drives, times⟩ := law.lanes l
      unfold LaneContext.HoldLawful LaneContext.mayHold LaneContext.onDeck LaneContext.timerLawful at *
      rw [state, reason, claim]
      refine ⟨waits, holds, drives, ?_⟩
      rcases timer with same | stopped
      · rwa [same]
      · rw [stopped]
        rfl
    · exact law.lanes m

/-! ## Claims made, granted and given up (R72, R73) -/

theorem KeepsRecords.clearHold (h : KeepsRecords s₀ s) (l : LaneId) (d : DeckId) : KeepsRecords s₀ (s.clearHold l d) := by
  unfold State.clearHold
  split
  · exact (h.setArbiter d _).updateLane l _
  · exact h

@[simp] theorem State.clearHold_laneRecord (s : State) (l m : LaneId) (d : DeckId) :
    (s.clearHold l d).laneRecord m = s.laneRecord m := by
  unfold State.clearHold
  split <;> rfl

theorem State.holds_iff (s : State) (l : LaneId) (d : DeckId) : s.holds l d = true ↔ (s.arbiter d).holder = some l := by
  rw [State.holds, beq_iff_eq]

/-- A lane holds the deck its record names exactly when its claim is HELD. -/
theorem State.ClaimsLaw.holds_iff {s : State} (h : s.ClaimsLaw) {l : LaneId} {r : LaneRecord}
    (record : s.laneRecord l = some r) : s.holds l r.deck = true ↔ (s.lane l).claim = .held := by
  rw [State.holds_iff, h.2.2, record]
  simp

theorem State.clearHold_lane_other (s : State) {l m : LaneId} (other : l ≠ m) (d : DeckId) :
    (s.clearHold l d).lane m = s.lane m := by
  unfold State.clearHold
  split
  · simp [other]
  · rfl

theorem State.ClaimsLaw.clearHold {s : State} (h : s.ClaimsLaw) {l : LaneId} {r : LaneRecord}
    (record : s.laneRecord l = some r) :
    (s.clearHold l r.deck).ClaimsLaw ∧ ((s.clearHold l r.deck).lane l).claim ≠ .held := by
  by_cases holds : s.holds l r.deck = true
  · have held := (h.holds_iff record).1 holds
    have unclaimed : l ∉ (s.arbiter r.deck).claims := fun waits => by
      have := ((h.2.1 r.deck l).1 waits).1
      rw [held] at this
      cases this
    have holder := (s.holds_iff l r.deck).1 holds
    refine ⟨h.change (d := r.deck) (l := l) (c := .none) (a := { s.arbiter r.deck with holder := none })
      (by rw [record]; rfl) (fun e => ?_) (fun m => ?_) (fun m => by simp) (h.1 _) (by simp [unclaimed]) (by simp)
      (fun m _ => Iff.rfl) (fun m other => by simp [holder, other]), ?_⟩
    · simp [State.clearHold, holds, State.arbiter_setArbiter]
    · simp only [State.clearHold, holds, if_true, State.lane_updateLane, State.setArbiter_lane]
      split <;> rfl
    · simp [State.clearHold, holds]
  · have unheld : (s.lane l).claim ≠ .held := fun held => holds ((h.holds_iff record).2 held)
    simpa [State.clearHold, holds] using And.intro h unheld

/-- A lane that gives up its hold and enters a state off the deck keeps the laws. -/
theorem KeepsLaws.clearHold_enterLane (h : KeepsLaws s₀ s) {l : LaneId} {r : LaneRecord} (record : s.laneRecord l = some r)
    (st : LaneState) (why : LaneReason) (read : Option IdentRead) (off : st.drives why.referral? = false) :
    KeepsLaws s₀ ((s.clearHold l r.deck).enterLane l st why read) := by
  refine h.trans ⟨((KeepsRecords.refl s).clearHold l r.deck).enterLane l st why read, fun law => ?_⟩
  obtain ⟨claims, free⟩ := law.claims.clearHold record
  refine (State.holdLaw_iff _).2 ⟨claims.enterLane l st why read, fun m => ?_⟩
  rw [State.enterLane_lane (by simpa using record)]
  split
  · exact LaneContext.HoldLawful.entered (LaneContext.mayEnter_off off free) r
  next other =>
    rw [State.clearHold_lane_other s other]
    exact law.lanes m

/-- The claim that is granted is the first of its deck's list. -/
theorem State.grantable_some {s : State} {d : DeckId} {l : LaneId} (h : s.grantable d = some l) :
    (s.deck d).state = .active ∧ (s.arbiter d).holder = none ∧ ∃ rest, (s.arbiter d).claims = l :: rest := by
  unfold State.grantable at h
  split at h
  next ready => exact ⟨ready.1, ready.2, List.head?_eq_some_iff.1 h⟩
  next => cases h

/-- A claim that is granted: its lane holds the deck and enters ENTERING (R72, R73). -/
theorem KeepsLaws.granted (h : KeepsLaws s₀ s) {l : LaneId} {d : DeckId} (grant : s.grantable d = some l) (why : LaneReason) :
    KeepsLaws s₀ (((s.setArbiter d { holder := some l, claims := (s.arbiter d).claims.tail }).updateLane l
      fun c => { c with claim := .held }).enterLane l .entering why) := by
  refine h.trans ⟨(((KeepsRecords.refl s).setArbiter d _).updateLane l _).enterLane l _ _ _, fun law => ?_⟩
  obtain ⟨_, unheld, rest, claims⟩ := State.grantable_some grant
  have head : l ∈ (s.arbiter d).claims := by rw [claims]; exact List.mem_cons_self
  obtain ⟨_, named⟩ := (law.claims.2.1 d l).1 head
  have nodup := law.claims.1 d
  rw [claims, List.nodup_cons] at nodup
  obtain ⟨r, record, deck⟩ := Option.map_eq_some_iff.1 named
  have held := law.claims.change (t := (s.setArbiter d { holder := some l, claims := (s.arbiter d).claims.tail }).updateLane l
      fun c => { c with claim := .held }) (d := d) (l := l) (c := .held)
    (a := { holder := some l, claims := (s.arbiter d).claims.tail }) named
    (fun e => by rw [State.updateLane_arbiter, State.arbiter_setArbiter])
    (fun m => by rw [State.lane_updateLane]; split <;> rfl) (fun m => rfl) (by rw [claims]; exact nodup.2)
    (by simpa [claims] using nodup.1) (by simp) (fun m other => by simp [claims, other.symm])
    (fun m other => by simp [unheld, other])
  refine (State.holdLaw_iff _).2 ⟨held.enterLane l _ _ _, fun m => ?_⟩
  rw [State.enterLane_lane (r := r) (by simpa using record)]
  split
  · exact LaneContext.HoldLawful.entered (LaneContext.mayEnter_on rfl (by simp)) r
  next other => simpa [other] using law.lanes m

/-- A lane off the deck that enters AWAIT-DECK and makes its claim (R72, R73). -/
theorem KeepsLaws.claimed (h : KeepsLaws s₀ s) {l : LaneId} {r : LaneRecord} (record : s.laneRecord l = some r)
    (why : LaneReason) (read : Option IdentRead) (free : s₀.HoldLaw → (s.lane l).claim ≠ .held) :
    KeepsLaws s₀ (((s.enterLane l .awaitDeck why read).setArbiter r.deck
      { (s.enterLane l .awaitDeck why read).arbiter r.deck with
        claims := ((s.enterLane l .awaitDeck why read).arbiter r.deck).claims ++ [l] }).updateLane l
      fun c => { c with claim := .waiting }) := by
  have entered := h.enterLane l .awaitDeck why read fun law => LaneContext.mayEnter_off rfl (free law)
  have self : (s.enterLane l .awaitDeck why read).lane l = (s.lane l).entered .awaitDeck r why.referral? := by
    rw [State.enterLane_lane record, if_pos rfl]
  have named : ((s.enterLane l .awaitDeck why read).laneRecord l).map LaneRecord.deck = some r.deck := by simp [record]
  generalize s.enterLane l .awaitDeck why read = t at entered self named ⊢
  refine ⟨(entered.toKeepsRecords.setArbiter _ _).updateLane _ _, fun law => ?_⟩
  have law' := entered.hold law
  have claimless : (t.lane l).claim = .none := by
    rw [self, LaneContext.entered_claim, LaneContext.withdrawn_claim]
    have := free law
    cases claim : (s.lane l).claim <;> simp_all
  have unclaimed : l ∉ (t.arbiter r.deck).claims := fun mem => by simp [law'.claims.2.1, claimless] at mem
  have unheld : (t.arbiter r.deck).holder ≠ some l := fun holds => by simp [law'.claims.2.2, claimless] at holds
  refine (State.holdLaw_iff _).2 ⟨law'.claims.change (l := l) (c := .waiting)
    (a := { t.arbiter r.deck with claims := (t.arbiter r.deck).claims ++ [l] }) named
    (fun e => by rw [State.updateLane_arbiter, State.arbiter_setArbiter])
    (fun m => by rw [State.lane_updateLane]; split <;> rfl) (fun m => rfl)
    (List.nodup_append.2 ⟨law'.claims.1 _, List.nodup_singleton l, fun a ha b hb => ?_⟩) (by simp) (by simp [unheld])
    (fun m other => by simp [other.symm]) (fun m _ => Iff.rfl), fun m => ?_⟩
  · rw [List.mem_singleton.1 hb]
    exact fun same => unclaimed (same ▸ ha)
  · rw [State.lane_updateLane]
    split
    · have lawful := law'.lanes l
      rw [State.setArbiter_lane, self] at *
      exact ⟨fun _ => rfl, fun held => Claim.noConfusion held, fun on => Bool.noConfusion on, lawful.2.2.2⟩
    · exact law'.lanes m

end

end Sys2Proof.Machine

/-! PROOFS. Every operation of the decks, the visits, the tickets and the barriers keeps the laws of the device. -/

namespace Sys2Proof.Machine

/-! ## What the operations on visits and tickets leave alone -/

/-- The parts of the state that stand outside the visit table and the ticket stamper. -/
structure Plant where
  slots : Vector LoopSlot 24
  stations : Vector Station 24
  barriers : Vector (Option BarrierRecord) 24
  decks : Vector DeckEngine 4
  arbiters : Vector Arbiter 4
  lanes : Vector LaneContext 4

/-- Those parts of a state. -/
def State.plant (s : State) : Plant :=
  { slots := s.slots, stations := s.stations, barriers := s.barriers, decks := s.decks, arbiters := s.arbiters,
    lanes := s.lanes }

theorem State.slot_of_plant {s t : State} (h : s.plant = t.plant) (n : StationId) : s.slot n = t.slot n := by
  rw [State.slot, State.slot, show s.slots = t.slots from congrArg Plant.slots h]
theorem State.station_of_plant {s t : State} (h : s.plant = t.plant) (n : StationId) : s.station n = t.station n := by
  rw [State.station, State.station, show s.stations = t.stations from congrArg Plant.stations h]
theorem State.barrier_of_plant {s t : State} (h : s.plant = t.plant) (n : StationId) : s.barrier n = t.barrier n := by
  rw [State.barrier, State.barrier, show s.barriers = t.barriers from congrArg Plant.barriers h]
theorem State.deck_of_plant {s t : State} (h : s.plant = t.plant) (d : DeckId) : s.deck d = t.deck d := by
  rw [State.deck, State.deck, show s.decks = t.decks from congrArg Plant.decks h]
theorem State.arbiter_of_plant {s t : State} (h : s.plant = t.plant) (d : DeckId) : s.arbiter d = t.arbiter d := by
  rw [State.arbiter, State.arbiter, show s.arbiters = t.arbiters from congrArg Plant.arbiters h]
theorem State.lane_of_plant {s t : State} (h : s.plant = t.plant) (l : LaneId) : s.lane l = t.lane l := by
  rw [State.lane, State.lane, show s.lanes = t.lanes from congrArg Plant.lanes h]

theorem plant_forEach {α : Type} (xs : List α) (f : α → State → State) (h : ∀ x t, (f x t).plant = t.plant) (s : State) :
    (forEach xs f s).plant = s.plant :=
  forEach_keeps (fun t => t.plant = s.plant) xs f (fun x _ t ht => (h x t).trans ht) s rfl

@[simp] theorem State.post_plant (s : State) (b : ReportBody) : (s.post b).plant = s.plant := by
  unfold State.post
  split <;> rfl
@[simp] theorem State.setQueue_plant (s : State) (l : LaneId) (q : TicketQueue) : (s.setQueue l q).plant = s.plant := rfl
@[simp] theorem State.updateVisit_plant (s : State) (k : Nat) (f : Visit → Visit) : (s.updateVisit k f).plant = s.plant := rfl
@[simp] theorem State.closeVisit_plant (s : State) (k : Nat) : (s.closeVisit k).plant = s.plant := by
  unfold State.closeVisit
  dsimp only
  split <;> simp
@[simp] theorem State.writeOutcome_plant (s : State) (k : Nat) (o : PrintOutcome) : (s.writeOutcome k o).plant = s.plant := by
  unfold State.writeOutcome
  dsimp only
  repeat' split
  all_goals simp
@[simp] theorem State.finishVisit_plant (s : State) (k : Nat) : (s.finishVisit k).plant = s.plant := by
  unfold State.finishVisit
  repeat' split
  all_goals simp
@[simp] theorem State.addAnomalies_plant (s : State) (k : Nat) (xs : List Anomaly) (l : Option LaneId) :
    (s.addAnomalies k xs l).plant = s.plant := by
  unfold State.addAnomalies
  dsimp only
  split <;> simp [plant_forEach]
@[simp] theorem State.forceVisit_plant (s : State) (v : Visit) : (s.forceVisit v).plant = s.plant := by
  unfold State.forceVisit
  dsimp only
  split <;> simp
@[simp] theorem State.stampTicket_plant (s : State) (k : Nat) (l : LaneId) : (s.stampTicket k l).plant = s.plant := by
  unfold State.stampTicket
  dsimp only
  repeat' split
  · rw [State.post_plant]
    rfl
  · rw [State.post_plant]
    rfl
  all_goals rfl
@[simp] theorem State.postOpened_plant (s : State) (k : Nat) : (s.postOpened k).plant = s.plant := by
  unfold State.postOpened
  split <;> simp
@[simp] theorem State.commitInbound_plant (s : State) (k : Nat) (c : Commit) (account : Nat) (category : Option CategoryNo) :
    (s.commitInbound k c account category).plant = s.plant := by
  unfold State.commitInbound
  dsimp only
  repeat' split
  all_goals simp
@[simp] theorem State.commitOutboundOpen_plant (s : State) (k : Nat) (c : Commit) :
    (s.commitOutboundOpen k c).plant = s.plant := by
  simp [State.commitOutboundOpen]
@[simp] theorem State.commitOutboundTicketed_plant (s : State) (k : Nat) (c : Commit) (pass : Bool) :
    (s.commitOutboundTicketed k c pass).plant = s.plant := by
  have set (xs : List TareUpdate) (t : State) : ({ t with tareUpdates := xs } : State).plant = t.plant := rfl
  unfold State.commitOutboundTicketed
  dsimp only
  repeat' split
  all_goals simp [set]
@[simp] theorem State.commitOut_plant (s : State) (l : LaneId) (w : Weight) (pass : Bool) (v : Visit) :
    (s.commitOut l w pass v).plant = s.plant := by
  unfold State.commitOut
  dsimp only
  split <;> simp

/-! ## Decks -/

/-- The zero law of a deck speaks of its record and its zero quantities alone. -/
theorem DeckEngine.zeroLawful_congr {e f : DeckEngine} (h : e.zeroLawful) (record : f.record = e.record)
    (zeros : f.zeros = e.zeros) : f.zeroLawful := by
  unfold DeckEngine.zeroLawful at *
  rwa [record, zeros]

section
variable (e : DeckEngine) (r : DeckRecord) (excited : Bool)

@[simp] theorem DeckEngine.windowCleared_record : (e.windowCleared excited).record = e.record := rfl
@[simp] theorem DeckEngine.windowCleared_zeros : (e.windowCleared excited).zeros = e.zeros := rfl
@[simp] theorem DeckEngine.enters_record (st : DeckState) : (e.enters st excited).record = e.record := by
  cases st <;> rfl
@[simp] theorem DeckEngine.enters_zeros (st : DeckState) : (e.enters st excited).zeros = e.zeros := by
  cases st <;> rfl
@[simp] theorem DeckEngine.settled_record : (e.settled r).record = e.record := rfl
@[simp] theorem DeckEngine.settled_zeros : (e.settled r).zeros = e.zeros := rfl
@[simp] theorem DeckEngine.rejudged_record : (e.rejudged r excited).record = e.record := by
  unfold DeckEngine.rejudged
  split <;> rfl
@[simp] theorem DeckEngine.rejudged_zeros : (e.rejudged r excited).zeros = e.zeros := by
  unfold DeckEngine.rejudged
  split <;> rfl
@[simp] theorem DeckEngine.returned_record : (e.returned r excited).record = e.record := by
  simp [DeckEngine.returned]
@[simp] theorem DeckEngine.returned_zeros : (e.returned r excited).zeros = e.zeros := by
  simp [DeckEngine.returned]
@[simp] theorem DeckEngine.switched_record : (e.switched r excited).record = e.record := by
  unfold DeckEngine.switched
  split <;> simp
@[simp] theorem DeckEngine.switched_zeros : (e.switched r excited).zeros = e.zeros := by
  unfold DeckEngine.switched
  split <;> simp
theorem DeckEngine.spanCounted_record_zeros :
    (e.spanCounted r).record = e.record ∧ (e.spanCounted r).zeros = e.zeros := by
  unfold DeckEngine.spanCounted
  dsimp only
  repeat' split
  all_goals simp
theorem DeckEngine.occupancyTold_record_zeros (before : Occupancy) :
    (e.occupancyTold r before).record = e.record ∧ (e.occupancyTold r before).zeros = e.zeros := by
  unfold DeckEngine.occupancyTold
  dsimp only
  split <;> simp
theorem DeckEngine.weighed_record_zeros (saturated : Bool) (mass : Int) (missing : Nat) :
    (if saturated then e.saturatedGroup else e.weighedGroup r mass missing).record = e.record
      ∧ (if saturated then e.saturatedGroup else e.weighedGroup r mass missing).zeros = e.zeros := by
  cases saturated <;> exact ⟨rfl, rfl⟩

/-- The weighing of a group leaves the deck record and the zero quantities alone. -/
theorem DeckEngine.accepted_record_zeros (g : SampleGroup) (missing : Nat) :
    (e.accepted r g missing).record = e.record ∧ (e.accepted r g missing).zeros = e.zeros := by
  unfold DeckEngine.accepted
  dsimp only
  rw [(DeckEngine.occupancyTold_record_zeros ..).1, (DeckEngine.occupancyTold_record_zeros ..).2,
    (DeckEngine.spanCounted_record_zeros ..).1, (DeckEngine.spanCounted_record_zeros ..).2]
  exact DeckEngine.weighed_record_zeros ..

end

section
variable {s₀ s : State}

/-- An engine with the record and the zero quantities of the one it replaces keeps the laws. -/
theorem KeepsLaws.setDeckSame (h : KeepsLaws s₀ s) (d : DeckId) (x : DeckEngine)
    (record : x.record = (s.deck d).record := by rfl) (zeros : x.zeros = (s.deck d).zeros := by rfl) :
    KeepsLaws s₀ (s.setDeck d x) :=
  h.setDeck d x fun law => DeckEngine.zeroLawful_congr (law d) record zeros

theorem KeepsLaws.replaceReading (h : KeepsLaws s₀ s) (d : DeckId) : KeepsLaws s₀ (s.replaceReading d) :=
  h.setDeckSame d _

theorem KeepsLaws.postStream (h : KeepsLaws s₀ s) (d : DeckId) : KeepsLaws s₀ (s.postStream d) := by
  unfold State.postStream
  split
  · exact (h.setDeckSame d _).post _
  · exact h

theorem KeepsLaws.streamGroup (h : KeepsLaws s₀ s) (d : DeckId) : KeepsLaws s₀ (s.streamGroup d) := by
  unfold State.streamGroup
  split
  · exact h
  · exact (h.setDeckSame d _).postStream d

theorem KeepsLaws.commandDigitizer (h : KeepsLaws s₀ s) (d : DeckId) : KeepsLaws s₀ (s.commandDigitizer d) := by
  unfold State.commandDigitizer
  split
  · exact h
  · exact h.setCommand _ _

/-- A deck engine that keeps the zero law may be put in place and enter a state. -/
theorem KeepsLaws.setDeck_enterDeckState (h : KeepsLaws s₀ s) (d : DeckId) (x : DeckEngine) (st : DeckState)
    (lawful : s.ZeroLaw → x.zeroLawful) : KeepsLaws s₀ ((s.setDeck d x).enterDeckState d st) :=
  ((((h.setDeck d x lawful).setDeckSame d _ (by simp) (by simp)).commandDigitizer d).replaceReading d)

theorem KeepsLaws.enterDeckState (h : KeepsLaws s₀ s) (d : DeckId) (st : DeckState) :
    KeepsLaws s₀ (s.enterDeckState d st) :=
  ((h.setDeckSame d _ (by simp) (by simp)).commandDigitizer d).replaceReading d

theorem KeepsLaws.clearDeckWindow (h : KeepsLaws s₀ s) (d : DeckId) : KeepsLaws s₀ (s.clearDeckWindow d) :=
  (h.setDeckSame d _).replaceReading d

/-- A capture takes a candidate within the bound of Z0, and T with it (R26). -/
theorem KeepsLaws.captureZero (h : KeepsLaws s₀ s) (d : DeckId) (r : DeckRecord) (record : (s.deck d).record = some r)
    (test : (s.deck d).captureTest r = true) : KeepsLaws s₀ (s.captureZero d r) := by
  refine h.setDeck_enterDeckState d _ .active fun _ r' z hr hz => ?_
  simp only [DeckEngine.windowCleared_record, DeckEngine.windowCleared_zeros] at hr hz
  obtain ⟨z, zeros, rfl⟩ := Option.map_eq_some_iff.1 hz
  rw [DeckEngine.captureTest, Bool.and_eq_true, within_iff, zeros] at test
  rw [record] at hr
  cases hr
  simpa [Zeros.atCapture] using test.2

theorem KeepsLaws.failZero (h : KeepsLaws s₀ s) (d : DeckId) : KeepsLaws s₀ (s.failZero d) := by
  unfold State.failZero
  split
  · exact (h.enterDeckState d .fault).post _
  · exact h

theorem KeepsLaws.capturingGroup (h : KeepsLaws s₀ s) (d : DeckId) (r : DeckRecord) (record : (s.deck d).record = some r) :
    KeepsLaws s₀ (s.capturingGroup d r) := by
  unfold State.capturingGroup
  have counted := h.setDeckSame d { s.deck d with captureCount := (s.deck d).captureCount + 1, trackingCount := 0 }
  dsimp only
  split
  next test => exact counted.captureZero d r (by simpa using record) test
  next =>
    split
    · exact counted.failZero d
    · exact counted.replaceReading d

/-- T clamped to a bound of Zc lies within it. -/
theorem natAbs_clampSigned_le (bound : Nat) (x : Int) : (clampSigned bound x).natAbs ≤ bound := by
  unfold clampSigned
  omega

theorem KeepsLaws.trackZero (h : KeepsLaws s₀ s) (d : DeckId) (r : DeckRecord) (record : (s.deck d).record = some r) :
    KeepsLaws s₀ (s.trackZero d r) := by
  unfold State.trackZero
  dsimp only
  split
  · exact h
  next z zeros =>
    split
    next near =>
      refine h.setDeck d _ fun law r' z' hr hz => ?_
      obtain rfl : r = r' := Option.some.inj (record.symm.trans hr)
      cases hz
      exact ⟨(within_iff ..).1 near, (law d r z record zeros).2⟩
    next =>
      refine (h.setDeck d _ fun law r' z' hr hz => ?_).post _
      obtain rfl : r = r' := Option.some.inj (record.symm.trans hr)
      cases hz
      refine ⟨?_, (law d r z record zeros).2⟩
      have := natAbs_clampSigned_le (20 * r.capacity)
        (z.tracked + clampSigned (250 * r.division) ((s.deck d).filtered r) - z.captured)
      push_cast at this
      simpa using this

theorem KeepsLaws.trackGroup (h : KeepsLaws s₀ s) (d : DeckId) (r : DeckRecord) (record : (s.deck d).record = some r) :
    KeepsLaws s₀ (s.trackGroup d r) := by
  unfold State.trackGroup
  dsimp only
  split
  · have counted := h.setDeckSame d { s.deck d with trackingCount := (s.deck d).trackingCount + 1 }
    split
    · exact counted.trackZero d r (by simpa using record)
    · exact counted
  · exact h.setDeckSame d _

theorem KeepsLaws.completeWaking (h : KeepsLaws s₀ s) (d : DeckId) : KeepsLaws s₀ (s.completeWaking d) := by
  unfold State.completeWaking
  split
  · exact h.enterDeckState d .active
  · exact h

theorem KeepsLaws.wakeDeckEvent (h : KeepsLaws s₀ s) (d : DeckId) : KeepsLaws s₀ (s.wakeDeckEvent d) := by
  unfold State.wakeDeckEvent
  split
  · exact h.enterDeckState d _
  · exact h.enterDeckState d _
  · exact h

theorem KeepsLaws.restartIdle (h : KeepsLaws s₀ s) (d : DeckId) : KeepsLaws s₀ (s.restartIdle d) := by
  unfold State.restartIdle
  split
  · exact h.setDeckSame d _
  · exact h

theorem KeepsLaws.deckArrive (h : KeepsLaws s₀ s) (d : DeckId) : KeepsLaws s₀ (s.deckArrive d) := by
  unfold State.deckArrive
  split
  · exact h
  · dsimp only
    split
    · exact (h.restartIdle d).wakeDeckEvent d
    · exact (((h.setDeckSame d _ (by simp) (by simp)).replaceReading d).restartIdle d).wakeDeckEvent d

theorem KeepsLaws.deckRead (h : KeepsLaws s₀ s) (d : DeckId) : KeepsLaws s₀ (s.deckRead d) :=
  (h.restartIdle d).wakeDeckEvent d

@[simp] theorem State.replaceReading_record (s : State) (d : DeckId) :
    ((s.replaceReading d).deck d).record = (s.deck d).record := by
  simp [State.replaceReading]

@[simp] theorem State.streamGroup_record (s : State) (d : DeckId) :
    ((s.streamGroup d).deck d).record = (s.deck d).record := by
  unfold State.streamGroup State.postStream
  repeat' split
  all_goals simp

theorem KeepsLaws.afterGroup (h : KeepsLaws s₀ s) (d : DeckId) (r : DeckRecord) (record : (s.deck d).record = some r) :
    KeepsLaws s₀ (s.afterGroup d r) := by
  unfold State.afterGroup
  split
  · exact h.capturingGroup d r record
  · exact ((h.replaceReading d).streamGroup d).trackGroup d r (by simpa using record)
  · have counted := h.setDeckSame d { s.deck d with trackingCount := 0 }
    dsimp only
    split
    · exact counted.completeWaking d
    · exact counted.replaceReading d
  · have tracked := (h.replaceReading d).trackGroup d r (by simpa using record)
    dsimp only
    split
    · exact tracked.wakeDeckEvent d
    · exact tracked
  · exact h

theorem KeepsLaws.deckGroup (h : KeepsLaws s₀ s) (d : DeckId) (g : SampleGroup) : KeepsLaws s₀ (s.deckGroup d g) := by
  unfold State.deckGroup
  split
  · exact h
  next r record =>
    split
    · exact h
    · split
      · exact h
      next missing _ =>
        obtain ⟨same, zeros⟩ := (s.deck d).accepted_record_zeros r g missing
        exact (h.setDeckSame d _ same zeros).afterGroup d r (by simpa [same] using record)

theorem KeepsLaws.endSpan (h : KeepsLaws s₀ s) (d : DeckId) : KeepsLaws s₀ (s.endSpan d) := by
  unfold State.endSpan
  split
  · exact h
  · exact (h.setDeckSame d _ (by simp) (by simp)).replaceReading d

theorem KeepsLaws.deckCode (h : KeepsLaws s₀ s) (d : DeckId) (before : Option Code) (c : Code) :
    KeepsLaws s₀ (s.deckCode d before c) := by
  unfold State.deckCode
  split
  · exact h.clearDeckWindow d
  · split
    · exact (h.setDeckSame d _).replaceReading d
    · exact h

theorem KeepsLaws.digitizerEnrolled (h : KeepsLaws s₀ s) (n : StationId) : KeepsLaws s₀ (s.digitizerEnrolled n) := by
  unfold State.digitizerEnrolled
  split
  · exact h
  · split
    · exact h.enterDeckState _ _
    · exact h

theorem KeepsLaws.digitizerLost (h : KeepsLaws s₀ s) (n : StationId) : KeepsLaws s₀ (s.digitizerLost n) := by
  unfold State.digitizerLost
  split
  · exact h
  next d _ =>
    split
    · exact h
    · exact (h.setDeckSame d _).enterDeckState d _

theorem KeepsLaws.attemptRest (h : KeepsLaws s₀ s) (d : DeckId) : KeepsLaws s₀ (s.attemptRest d) := by
  unfold State.attemptRest
  split
  · exact h.enterDeckState d _
  · exact h.restartIdle d

theorem KeepsLaws.resetDeckYard (h : KeepsLaws s₀ s) (d : DeckId) : KeepsLaws s₀ (s.resetDeckYard d) :=
  (h.setDeckSame d _).replaceReading d

/-- Every zero quantity of a loaded deck is its Z0 (R24). -/
theorem DeckEngine.loaded_zeroLawful (e : DeckEngine) (r : DeckRecord) (excited : Bool) :
    (e.loaded r excited).zeroLawful := by
  intro r' z hr hz
  cases hr
  cases hz
  simp

/-! ## Visits -/

theorem KeepsLaws.closeVisit (h : KeepsLaws s₀ s) (k : Nat) : KeepsLaws s₀ (s.closeVisit k) := by
  unfold State.closeVisit
  have closed := h.updateVisit k (fun v => { v with state := .closed, closeTime := s.now })
    fun _ v _ _ => ⟨rfl, rfl, fun standing => Bool.noConfusion standing⟩
  dsimp only
  split
  · exact closed
  · exact closed.post _

/-- A change of a visit's own fields other than its ident, its key and its state keeps the laws. -/
theorem KeepsLaws.updateVisitFields (h : KeepsLaws s₀ s) (k : Nat) (f : Visit → Visit)
    (same : ∀ v, (f v).ident = v.ident ∧ (f v).key = v.key ∧ (f v).state = v.state := by exact fun _ => ⟨rfl, rfl, rfl⟩) :
    KeepsLaws s₀ (s.updateVisit k f) :=
  h.updateVisit k f fun _ v _ _ => ⟨(same v).1, (same v).2.1, fun standing => (same v).2.2 ▸ standing⟩

theorem KeepsLaws.writeOutcome (h : KeepsLaws s₀ s) (k : Nat) (o : PrintOutcome) : KeepsLaws s₀ (s.writeOutcome k o) := by
  unfold State.writeOutcome
  have written := h.updateVisitFields k (fun v => { v with outcome := some o })
  dsimp only
  split
  · exact written
  · split
    · exact written.closeVisit k
    · exact written

theorem KeepsLaws.finishVisit (h : KeepsLaws s₀ s) (k : Nat) : KeepsLaws s₀ (s.finishVisit k) := by
  unfold State.finishVisit
  split
  · exact h
  · split
    · exact h.updateVisit k _ fun _ v _ _ => ⟨rfl, rfl, fun standing => Bool.noConfusion standing⟩
    · exact h.closeVisit k

theorem KeepsLaws.addAnomalies (h : KeepsLaws s₀ s) (k : Nat) (xs : List Anomaly) (l : Option LaneId) :
    KeepsLaws s₀ (s.addAnomalies k xs l) := by
  unfold State.addAnomalies
  split
  · exact h
  · exact (h.updateVisitFields k _).forEach _ _ fun _ _ _ ht => ht.post _

theorem Visit.withNet_same (v : Visit) : v.withNet.ident = v.ident ∧ v.withNet.key = v.key ∧ v.withNet.state = v.state := by
  unfold Visit.withNet
  split <;> exact ⟨rfl, rfl, rfl⟩

theorem KeepsLaws.forceVisit (h : KeepsLaws s₀ s) (v : Visit) : KeepsLaws s₀ (s.forceVisit v) := by
  unfold State.forceVisit
  have forced := h.addAnomalies v.key [.forced] none
  dsimp only
  split
  · exact (forced.updateVisitFields v.key _).finishVisit v.key
  · exact forced.finishVisit v.key

/-! ## Tickets -/

/-- A stamp joins its job to a queue that has room (R127, R128). -/
theorem KeepsLaws.stampTicket (h : KeepsLaws s₀ s) (k : Nat) (l : LaneId) : KeepsLaws s₀ (s.stampTicket k l) := by
  unfold State.stampTicket
  split
  next n counter v r _ _ _ =>
    split
    next g t net _ _ _ =>
      dsimp only
      have counted := h.setCounter counter
      split
      next placed =>
        have room : (s.queue l).jobs.length < 8 := by
          unfold State.placement at placed
          split at placed
          · cases placed
          · split at placed
            · cases placed
            next room => exact Nat.lt_of_not_le room
        have joined (j : TicketJob) : ((s.queue l).joined j).jobs.length ≤ 8 := by simpa [TicketQueue.joined] using room
        exact ((counted.setQueue l _ (by exact fun _ => joined _)).updateVisitFields k _).post _
      next => exact (counted.updateVisitFields k _).post _
    next => exact h
  next => exact h

theorem KeepsLaws.postOpened (h : KeepsLaws s₀ s) (k : Nat) : KeepsLaws s₀ (s.postOpened k) := by
  unfold State.postOpened
  split
  · exact h
  · exact h.post _

/-- Every record of a key stands in the yard. -/
def State.KeyStands (s : State) (k : Nat) : Prop := ∀ v ∈ s.visits, v.key = k → v.state.standing = true

theorem State.KeyStands.updateVisit {s : State} {k : Nat} (h : s.KeyStands k) (f : Visit → Visit)
    (same : ∀ v, (f v).key = v.key ∧ (f v).state = v.state) : (s.updateVisit k f).KeyStands k := by
  intro v hv key
  obtain ⟨x, hx, rfl⟩ := List.mem_map.1 hv
  by_cases named : x.key = k
  · rw [if_pos named, (same x).2]
    exact h x hx named
  · rw [if_neg named] at key
    exact absurd key named

theorem State.addAnomalies_keyStands {s : State} {k : Nat} (h : s.KeyStands k) (xs : List Anomaly) (l : Option LaneId) :
    (s.addAnomalies k xs l).KeyStands k := by
  unfold State.addAnomalies
  split
  · exact h
  · exact forEach_keeps (fun t => t.KeyStands k) _ _ (fun _ _ t ht => by simpa [State.KeyStands] using ht) _
      (h.updateVisit _ fun _ => ⟨rfl, rfl⟩)

theorem State.stampTicket_keyStands {s : State} {k : Nat} (h : s.KeyStands k) (l : LaneId) :
    (s.stampTicket k l).KeyStands k := by
  unfold State.stampTicket
  split
  next n counter v r _ _ _ =>
    split
    next g t net _ _ _ =>
      dsimp only
      unfold State.KeyStands
      rw [State.post_visits]
      split
      all_goals exact State.KeyStands.updateVisit (by exact h) _ fun _ => ⟨rfl, rfl⟩
    next => exact h
  next => exact h

/-- An inbound commit is made on a record that stands already (R89, R90). -/
theorem KeepsLaws.commitInbound (h : KeepsLaws s₀ s) (k : Nat) (c : Commit) (account : Nat) (category : Option CategoryNo)
    (stands : s₀.VisitLaw → s.KeyStands k) : KeepsLaws s₀ (s.commitInbound k c account category) := by
  unfold State.commitInbound
  split
  · exact h
  next =>
    dsimp only
    split
    · exact ((h.updateVisit k _ (by exact fun law v hv key =>
        ⟨rfl, rfl, fun _ => stands law v hv key⟩)).addAnomalies k _ _).postOpened k
    · refine KeepsLaws.postOpened (KeepsLaws.updateVisit (((h.updateVisitFields k _
        (by exact fun _ => Visit.withNet_same _)).addAnomalies k _ _).stampTicket k _) k _ ?_) k
      refine fun law w hw key => ⟨rfl, rfl, fun _ => ?_⟩
      refine State.stampTicket_keyStands (State.addAnomalies_keyStands ((stands law).updateVisit _ ?_) _ _) _ w hw key
      exact fun _ => (Visit.withNet_same _).2

theorem KeepsLaws.commitOutboundOpen (h : KeepsLaws s₀ s) (k : Nat) (c : Commit) :
    KeepsLaws s₀ (s.commitOutboundOpen k c) :=
  (((h.updateVisitFields k _ (by exact fun v => Visit.withNet_same _)).addAnomalies k _ _).stampTicket k _).finishVisit k

theorem KeepsLaws.commitOutboundTicketed (h : KeepsLaws s₀ s) (k : Nat) (c : Commit) (pass : Bool) :
    KeepsLaws s₀ (s.commitOutboundTicketed k c pass) := by
  unfold State.commitOutboundTicketed
  have finished := ((h.updateVisitFields k (fun v =>
    { v with exitWeight := some c.weight, exitLane := some c.lane, tareCheck := some pass })).addAnomalies k c.anomalies (some c.lane)).finishVisit k
  dsimp only
  split
  · exact finished
  · split
    · exact finished.setTareUpdates _
    · exact finished

theorem KeepsLaws.commitOut (h : KeepsLaws s₀ s) (l : LaneId) (w : Weight) (pass : Bool) (v : Visit) :
    KeepsLaws s₀ (s.commitOut l w pass v) := by
  unfold State.commitOut
  dsimp only
  split
  · exact h.commitOutboundOpen _ _
  · exact h.commitOutboundTicketed _ _ _

theorem KeepsLaws.jobLeaves (h : KeepsLaws s₀ s) (l : LaneId) (o : PrintOutcome) : KeepsLaws s₀ (s.jobLeaves l o) := by
  unfold State.jobLeaves
  split
  · exact h
  next j rest jobs =>
    refine ((h.setQueue l { jobs := rest, phase := .waiting } fun short => ?_).post _).writeOutcome _ _
    rw [jobs, List.length_cons] at short
    exact Nat.le_of_succ_le short

theorem KeepsLaws.flushQueue (h : KeepsLaws s₀ s) (l : LaneId) (why : NotPrinted) : KeepsLaws s₀ (s.flushQueue l why) := by
  unfold State.flushQueue
  dsimp only
  split
  · exact h.forEach _ _ fun _ _ _ ht => ht.jobLeaves l _
  · exact (h.updateStation _ _).forEach _ _ fun _ _ _ ht => ht.jobLeaves l _

theorem KeepsLaws.terminalLost (h : KeepsLaws s₀ s) (n : StationId) : KeepsLaws s₀ (s.terminalLost n) := by
  unfold State.terminalLost
  split
  · exact h
  · exact h.flushQueue _ _

/-- A change of the delivery phase alone leaves the queue as long as it was. -/
theorem KeepsLaws.setPhase (h : KeepsLaws s₀ s) (l : LaneId) (p : DeliveryPhase) :
    KeepsLaws s₀ (s.setQueue l { s.queue l with phase := p }) := h.setQueue l _ id

theorem KeepsLaws.holdJob (h : KeepsLaws s₀ s) (l : LaneId) : KeepsLaws s₀ (s.holdJob l) := by
  unfold State.holdJob
  split
  · exact h
  · exact (h.setPhase l _).post _

theorem KeepsLaws.printReported (h : KeepsLaws s₀ s) (n : StationId) (m : PrintMessage) :
    KeepsLaws s₀ (s.printReported n m) := by
  unfold State.printReported
  split
  · exact h.post _
  · split
    · exact h.jobLeaves _ _
    · exact h.jobLeaves _ _
    · exact h.jobLeaves _ _
    · exact h.holdJob _

theorem KeepsLaws.ticketCode (h : KeepsLaws s₀ s) (n : StationId) (c : Code) : KeepsLaws s₀ (s.ticketCode n c) := by
  unfold State.ticketCode
  split
  · split
    · exact h.setPhase _ _
    · exact h
  · split
    · exact h.setPhase _ _
    · exact h
  · exact h

theorem KeepsLaws.endOutcomeWait (h : KeepsLaws s₀ s) (l : LaneId) : KeepsLaws s₀ (s.endOutcomeWait l) := by
  unfold State.endOutcomeWait
  split
  · exact h.jobLeaves l _
  · exact h

/-! ## Barriers -/

/-- A barrier record that is lawful and counted as far as another is. -/
structure BarrierRecord.Follows (b c : BarrierRecord) : Prop where
  lawful : b.lawful → c.lawful
  counted : b.obstructions ≤ 255 → c.obstructions ≤ 255

theorem BarrierRecord.Follows.refl (b : BarrierRecord) : b.Follows b := ⟨id, id⟩

theorem KeepsLaws.setBarrierOf (h : KeepsLaws s₀ s) {n : StationId} {b c : BarrierRecord} (record : s.barrier n = some b)
    (follows : b.Follows c) : KeepsLaws s₀ (s.setBarrier n (some c)) :=
  h.setBarrier n _ (fun _ hc law => Option.some.inj hc ▸ follows.lawful (law n b record))
    fun _ hc law => Option.some.inj hc ▸ follows.counted (law.2 n b record)

theorem KeepsLaws.putBarrier (h : KeepsLaws s₀ s) {n : StationId} {b c : BarrierRecord} (record : s.barrier n = some b)
    (follows : b.Follows c) : KeepsLaws s₀ (s.putBarrier n c) :=
  (h.setBarrierOf record follows).setCommand n _

theorem KeepsLaws.postBarrier (h : KeepsLaws s₀ s) (n : StationId) (why : BarrierReason) :
    KeepsLaws s₀ (s.postBarrier n why) := by
  unfold State.postBarrier
  split
  · exact h
  · exact h.post _

section
variable (b : BarrierRecord)

theorem BarrierRecord.settled_same :
    b.settled.loop = b.loop ∧ b.settled.commanded = b.commanded ∧ b.settled.obstructions = b.obstructions := by
  unfold BarrierRecord.settled
  split <;> exact ⟨rfl, rfl, rfl⟩

/-- Settling the state afresh changes nothing the laws speak of. -/
theorem BarrierRecord.follows_settled : b.Follows b.settled := by
  obtain ⟨loop, commanded, obstructions⟩ := b.settled_same
  exact ⟨by simpa only [BarrierRecord.lawful, loop, commanded] using id, by simp [obstructions]⟩

/-- A record that is not commanded LOWER is lawful. -/
theorem BarrierRecord.lawful_of_commanded {b : BarrierRecord} (other : b.commanded ≠ .lower) : b.lawful := fun _ => other

theorem BarrierRecord.lawful_of_loop {b : BarrierRecord} (other : b.loop ≠ some .occupied) : b.lawful :=
  fun occupied => absurd occupied other

theorem BarrierRecord.sendRaise_same (limit : Nat) :
    (b.sendRaise limit).commanded = .raise ∧ (b.sendRaise limit).obstructions = b.obstructions :=
  (BarrierRecord.settled_same _).2

theorem BarrierRecord.sendLower_same (limit : Nat) :
    (b.sendLower limit).loop = b.loop ∧ (b.sendLower limit).obstructions = b.obstructions :=
  ⟨(BarrierRecord.settled_same _).1, (BarrierRecord.settled_same _).2.2⟩

theorem BarrierRecord.follows_applyRaise (limit : Nat) : b.Follows (b.applyRaise limit) := by
  unfold BarrierRecord.applyRaise
  dsimp only
  split
  next raised => split <;> exact ⟨fun _ => lawful_of_commanded (by simp [raised]), id⟩
  next =>
    obtain ⟨commanded, obstructions⟩ := BarrierRecord.sendRaise_same { b with pendingLower := false } limit
    exact ⟨fun _ => lawful_of_commanded (by simp [commanded]), by rw [obstructions]; exact id⟩

theorem BarrierRecord.follows_applyLower (limit : Nat) : b.Follows (b.applyLower limit) := by
  unfold BarrierRecord.applyLower
  dsimp only
  split
  · exact ⟨id, id⟩
  next clear =>
    split
    · split <;> exact ⟨fun _ => lawful_of_loop clear, id⟩
    · obtain ⟨loop, obstructions⟩ := BarrierRecord.sendLower_same { b with pendingLower := false } limit
      exact ⟨fun _ => lawful_of_loop (by rw [loop]; exact clear), by rw [obstructions]; exact id⟩

theorem BarrierRecord.follows_applyHold : b.Follows b.applyHold := by
  unfold BarrierRecord.applyHold
  split
  · exact .refl b
  · obtain ⟨_, commanded, obstructions⟩ :=
      BarrierRecord.settled_same { b with commanded := .hold, pendingLower := false, timer := none }
    exact ⟨fun _ => lawful_of_commanded (by simp [commanded]), by rw [obstructions]; exact id⟩

theorem BarrierRecord.follows_applyMotion (m : Motion) (limit : Nat) : b.Follows (b.applyMotion m limit) := by
  unfold BarrierRecord.applyMotion
  split
  · exact .refl b
  · cases m
    · exact b.follows_applyRaise limit
    · exact b.follows_applyLower limit

theorem BarrierRecord.follows_stops (st : BarrierState) : b.Follows (b.stops st) :=
  ⟨fun _ => lawful_of_commanded BarrierCommand.noConfusion, id⟩

theorem BarrierRecord.follows_lost : b.Follows b.lost := ⟨fun _ => lawful_of_commanded BarrierCommand.noConfusion, id⟩

theorem BarrierRecord.follows_timedOut : b.Follows b.timedOut := ⟨fun _ => lawful_of_commanded BarrierCommand.noConfusion, id⟩

/-- Under a new arm loop the interlock leaves a lawful record, whatever the record was; an obstruction it finds is counted up
to the top (R107, R108). -/
theorem BarrierRecord.interlocked_laws (p : Position) (loop : ArmLoop) :
    ({ b with position := p, loop := some loop }.interlocked loop).lawful
      ∧ (b.obstructions ≤ 255 ∨ b.obstructedBy loop = true →
        ({ b with position := p, loop := some loop }.interlocked loop).obstructions ≤ 255) := by
  unfold BarrierRecord.interlocked
  split
  next =>
    obtain ⟨commanded, _⟩ := BarrierRecord.sendRaise_same { b with position := p, loop := some loop } b.limit
    exact ⟨lawful_of_commanded (by simp [commanded]), fun _ => countUp_le _ _⟩
  next free =>
    have counted (h : b.obstructions ≤ 255 ∨ b.obstructedBy loop = true) : b.obstructions ≤ 255 :=
      h.resolve_right free
    split
    next clear =>
      obtain ⟨same, obstructions⟩ := BarrierRecord.sendLower_same { b with position := p, loop := some loop } b.limit
      exact ⟨lawful_of_loop (by rw [same, clear.1]; simp), fun h => by simpa [obstructions] using counted h⟩
    next =>
      refine ⟨fun occupied lower => free ?_, counted⟩
      simp_all [BarrierRecord.obstructedBy]

theorem BarrierRecord.timed_same (before : Position) :
    (b.timed before).loop = b.loop ∧ (b.timed before).commanded = b.commanded
      ∧ (b.timed before).obstructions = b.obstructions := by
  unfold BarrierRecord.timed
  repeat' split
  all_goals exact ⟨rfl, rfl, rfl⟩

theorem BarrierRecord.takes_laws (p : Position) (loop : ArmLoop) :
    (b.takes p loop).lawful
      ∧ (b.obstructions ≤ 255 ∨ b.obstructedBy loop = true → (b.takes p loop).obstructions ≤ 255) := by
  unfold BarrierRecord.takes
  obtain ⟨lawful, counted⟩ := b.interlocked_laws p loop
  obtain ⟨same, commanded, obstructions⟩ :=
    BarrierRecord.timed_same ({ b with position := p, loop := some loop }.interlocked loop) b.position
  dsimp only
  split
  · refine ⟨lawful_of_commanded BarrierCommand.noConfusion, fun h => ?_⟩
    simpa [BarrierRecord.returned, obstructions] using counted h
  · have timed : (({ b with position := p, loop := some loop }.interlocked loop).timed b.position).lawful := by
      simpa only [BarrierRecord.lawful, same, commanded] using lawful
    refine ⟨(BarrierRecord.follows_settled _).lawful timed, fun h => (BarrierRecord.follows_settled _).counted ?_⟩
    rw [obstructions]
    exact counted h

end

@[simp] theorem State.postBarrier_barrier (s : State) (n m : StationId) (why : BarrierReason) :
    (s.postBarrier n why).barrier m = s.barrier m := by
  unfold State.postBarrier
  split <;> simp

theorem State.putBarrier_barrier (s : State) (n m : StationId) (b : BarrierRecord) :
    (s.putBarrier n b).barrier m = if n = m then some b else s.barrier m := by
  rw [State.putBarrier, State.setCommand_barrier, State.barrier_setBarrier]

theorem KeepsLaws.askBarrier (h : KeepsLaws s₀ s) (l : LaneId) (role : BarrierRole) (m : Motion) :
    KeepsLaws s₀ (s.askBarrier l role m) := by
  unfold State.askBarrier
  split
  · exact h
  · split
    · exact h
    next record =>
      split
      · exact h.putBarrier record (BarrierRecord.follows_applyMotion _ _ _)
      · exact h

theorem KeepsLaws.applyOrder (h : KeepsLaws s₀ s) {n : StationId} {b : BarrierRecord} (record : s.barrier n = some b)
    (o : BarrierOrder) : KeepsLaws s₀ (s.applyOrder n b o) := by
  unfold State.applyOrder
  cases o with
  | raise => exact (h.putBarrier record (b.follows_applyRaise _)).postBarrier n _
  | lower => exact (h.putBarrier record (b.follows_applyLower _)).postBarrier n _
  | hold =>
    dsimp only
    split
    · exact h
    · exact (h.putBarrier record b.follows_applyHold).postBarrier n _

theorem KeepsLaws.dealOrder (h : KeepsLaws s₀ s) {n : StationId} {b : BarrierRecord} (record : s.barrier n = some b)
    (o : BarrierOrder) : KeepsLaws s₀ (s.dealOrder n b o) := by
  unfold State.dealOrder
  split
  · exact h.applyOrder record o
  · exact h.setBarrierOf record ⟨id, id⟩
  · exact h

theorem KeepsLaws.orderDue (h : KeepsLaws s₀ s) {n : StationId} {b : BarrierRecord} (record : s.barrier n = some b)
    (o : BarrierOrder) : KeepsLaws s₀ (s.orderDue n b o) := by
  unfold State.orderDue
  have cleared := h.setBarrierOf (c := { b with staged := none }) record ⟨id, id⟩
  dsimp only
  split
  · exact cleared.applyOrder (by simp) o
  · exact cleared.postBarrier n _

theorem KeepsLaws.edgeDue (h : KeepsLaws s₀ s) (n : StationId) (edge : Edge) : KeepsLaws s₀ (s.edgeDue n edge) := by
  unfold State.edgeDue
  split
  · exact h
  next record =>
    split
    · exact h
    · split
      · exact h.orderDue record _
      · exact h

theorem KeepsLaws.groupStep (h : KeepsLaws s₀ s) (n : StationId) (o : BarrierOrder) : KeepsLaws s₀ (s.groupStep n o) := by
  unfold State.groupStep
  split
  · exact h
  next record =>
    split
    · exact h
    · exact h.dealOrder record o

/-- Changing every barrier record as far as the laws allow keeps them. -/
theorem KeepsLaws.mapBarriers (h : KeepsLaws s₀ s) (f : BarrierRecord → BarrierRecord) (follows : ∀ b : BarrierRecord, b.Follows (f b)) :
    KeepsLaws s₀ { s with barriers := s.barriers.map fun x => x.map f } := by
  have read (n : StationId) : ({ s with barriers := s.barriers.map fun x => x.map f } : State).barrier n = (s.barrier n).map f := by
    simp [State.barrier]
  refine h.trans ⟨⟨fun law n c hc => ?_, id, id, id, fun law => ⟨law.1, fun n c hc => ?_⟩, id, id⟩, id⟩
  all_goals
    rw [read] at hc
    obtain ⟨b, hb, rfl⟩ := Option.map_eq_some_iff.1 hc
  · exact (follows b).lawful (law n b hb)
  · exact (follows b).counted (law.2 n b hb)

theorem KeepsLaws.resetBarriersYard (h : KeepsLaws s₀ s) : KeepsLaws s₀ s.resetBarriersYard :=
  h.mapBarriers _ fun _ => ⟨id, id⟩

end

end Sys2Proof.Machine

/-! PROOFS. Every operation of the lanes keeps the laws of the device. -/

namespace Sys2Proof.Machine

/-! ## What the steps of a capture leave of the lane's hold -/

@[simp] theorem State.askBarrier_plantLanes (s : State) (l m : LaneId) (role : BarrierRole) (x : Motion) :
    (s.askBarrier l role x).lane m = s.lane m := by
  unfold State.askBarrier State.putBarrier
  repeat' split
  all_goals rfl

theorem State.commitIn_lane (s : State) (l m : LaneId) (w : Weight) (pass : Bool) :
    (s.commitIn l w pass).lane m = if l = m then { s.lane l with reservation := none } else s.lane m := by
  unfold State.commitIn
  dsimp only
  split
  · rw [State.lane_of_plant (State.commitInbound_plant ..), State.lane_updateLane]
  · rw [State.post_lane, State.lane_updateLane]

theorem State.commitCapture_claim (s : State) (l m : LaneId) (w : Weight) (pass : Bool) :
    ((s.commitCapture l w pass).lane m).claim = (s.lane m).claim := by
  unfold State.commitCapture
  split
  · rw [State.commitIn_lane]
    split
    next same => rw [same]
    next => rfl
  · split
    · rw [State.lane_of_plant (State.commitOut_plant ..)]
    · rfl
  · rfl

theorem State.targetGone_claim (s : State) (l m : LaneId) : ((s.targetGone l).lane m).claim = (s.lane m).claim := by
  rw [State.targetGone, State.post_lane, State.lane_updateLane]
  split
  next same => rw [same]
  next => rfl

section
variable {s₀ s : State}

/-! ## Changes of lane state -/

theorem KeepsLaws.enterOff (h : KeepsLaws s₀ s) (l : LaneId) (st : LaneState) (why : LaneReason) (read : Option IdentRead)
    (off : st.drives why.referral? = false) (free : s₀.HoldLaw → (s.lane l).claim ≠ .held) :
    KeepsLaws s₀ (s.enterLane l st why read) :=
  h.enterLane l st why read fun law => LaneContext.mayEnter_off off (free law)

theorem KeepsLaws.enterOn (h : KeepsLaws s₀ s) (l : LaneId) (st : LaneState) (why : LaneReason) (read : Option IdentRead)
    (on : st.drives why.referral? = true) (held : s₀.HoldLaw → (s.lane l).claim = .held) :
    KeepsLaws s₀ (s.enterLane l st why read) :=
  h.enterLane l st why read fun law => LaneContext.mayEnter_on on (held law)

theorem KeepsLaws.enterStop (h : KeepsLaws s₀ s) (l : LaneId) (st : LaneState) (why : LaneReason) (read : Option IdentRead)
    (stop : st = .fault ∨ st = .recover) : KeepsLaws s₀ (s.enterLane l st why read) :=
  h.enterLane l st why read fun _ => LaneContext.mayEnter_stop stop

/-- A lane whose state may not hold has no hold. -/
theorem KeepsLaws.not_held (h : KeepsLaws s₀ s) {l : LaneId} (off : (s.lane l).mayHold = false) (law : s₀.HoldLaw) :
    (s.lane l).claim ≠ .held := ((h.hold law).lanes l).not_held off

/-- A lane whose state drives over the deck holds it. -/
theorem KeepsLaws.held (h : KeepsLaws s₀ s) {l : LaneId} (on : (s.lane l).onDeck = true) (law : s₀.HoldLaw) :
    (s.lane l).claim = .held := ((h.hold law).lanes l).held on

theorem LaneContext.mayHold_of_state {c : LaneContext} {st : LaneState} (state : c.state = st)
    (off : (st == .entering || st == .weighing || st == .releasing || st == .leaving || st == .referred || st == .fault
      || st == .recover) = false) : c.mayHold = false := by
  unfold LaneContext.mayHold LaneContext.onDeck
  rw [state]
  cases st <;> simp_all

theorem LaneContext.onDeck_of_state {c : LaneContext} {st : LaneState} (state : c.state = st)
    (on : (st == .entering || st == .weighing || st == .releasing || st == .leaving) = true) : c.onDeck = true := by
  unfold LaneContext.onDeck
  rw [state]
  cases st <;> simp_all

theorem LaneContext.mayHold_of_before {c : LaneContext} (state : c.state = .referred)
    (before : c.reason.any ReferralReason.beforeEntry = true) : c.mayHold = false := by
  obtain ⟨x, reason, before⟩ := (Option.any_eq_true _ _).1 before
  simp [LaneContext.mayHold, LaneContext.onDeck, state, reason, before]

theorem LaneContext.onDeck_of_after {c : LaneContext} {x : ReferralReason} (state : c.state = .referred)
    (reason : c.reason = some x) (after : x.beforeEntry = false) : c.onDeck = true := by
  simp [LaneContext.onDeck, state, reason, after]

/-- A lane that enters IDLE may go straight on to IDENTIFY. -/
theorem KeepsLaws.idleGoesOn (h : KeepsLaws s₀ s) (l : LaneId) (idle : (s.lane l).state = .idle) :
    KeepsLaws s₀ (if (s.lane l).present then s.enterLane l .identify (.event .presenceArrive) else s) := by
  split
  · exact h.enterOff l _ _ _ rfl (h.not_held (LaneContext.mayHold_of_state idle rfl))
  · exact h

theorem KeepsLaws.enterIdle (h : KeepsLaws s₀ s) (l : LaneId) (why : LaneReason)
    (free : s₀.HoldLaw → (s.lane l).claim ≠ .held) : KeepsLaws s₀ (s.enterIdle l why) := by
  unfold State.enterIdle
  cases record : s.laneRecord l with
  | none =>
    rw [State.enterLane_no_record record]
    simpa [State.enterLane_no_record record] using h
  | some r =>
    refine (h.enterOff l .idle why none (by rfl) free).idleGoesOn l ?_
    rw [State.enterLane_lane record, if_pos rfl, LaneContext.entered_state]

theorem KeepsLaws.clearHold_enterIdle (h : KeepsLaws s₀ s) {l : LaneId} {r : LaneRecord} (record : s.laneRecord l = some r)
    (why : LaneReason) : KeepsLaws s₀ ((s.clearHold l r.deck).enterIdle l why) := by
  refine (h.clearHold_enterLane record .idle why none rfl).idleGoesOn l ?_
  rw [State.enterLane_lane (by simpa using record), if_pos rfl, LaneContext.entered_state]

theorem KeepsLaws.referBefore (h : KeepsLaws s₀ s) (l : LaneId) (why : ReferralReason) (read : Option IdentRead)
    (before : why.beforeEntry = true) (free : s₀.HoldLaw → (s.lane l).claim ≠ .held) : KeepsLaws s₀ (s.refer l why read) :=
  h.enterOff l _ _ _ (by simp [LaneState.drives, LaneReason.referral?, before]) free

theorem KeepsLaws.referAfter (h : KeepsLaws s₀ s) (l : LaneId) (why : ReferralReason) (read : Option IdentRead)
    (after : why.beforeEntry = false) (held : s₀.HoldLaw → (s.lane l).claim = .held) : KeepsLaws s₀ (s.refer l why read) :=
  h.enterOn l _ _ _ (by simp [LaneState.drives, LaneReason.referral?, after]) held

/-! ## The arbiter and recovery -/

theorem KeepsLaws.grantDeck (h : KeepsLaws s₀ s) (d : DeckId) : KeepsLaws s₀ (s.grantDeck d) := by
  unfold State.grantDeck
  split
  · exact h
  next l grant => exact (h.granted grant _).askBarrier l _ _

theorem KeepsLaws.askRecovery (h : KeepsLaws s₀ s) (l : LaneId) : KeepsLaws s₀ (s.askRecovery l) := by
  unfold State.askRecovery
  split
  · exact h
  · split
    · exact (h.askBarrier l _ _).askBarrier l _ _
    · exact h

theorem KeepsLaws.recoverFree (h : KeepsLaws s₀ s) (l : LaneId) : KeepsLaws s₀ (s.recoverFree l) := by
  unfold State.recoverFree
  split
  · exact h
  next r record =>
    split
    next ready =>
      exact h.enterIdle l _ fun law held => ready.2 (((h.hold law).claims.holds_iff record).2 held)
    next => exact h

theorem KeepsLaws.afterRelease (h : KeepsLaws s₀ s) (d : DeckId) : KeepsLaws s₀ (s.afterRelease d) :=
  (h.forEach _ _ fun l _ _ ht => (ht.askRecovery l).recoverFree l).grantDeck d

theorem KeepsLaws.testRecover (h : KeepsLaws s₀ s) (l : LaneId) : KeepsLaws s₀ (s.testRecover l) := by
  unfold State.testRecover
  split
  · exact h
  next r record =>
    split
    · split
      next => exact (h.clearHold_enterIdle record _).afterRelease _
      next unheld => exact h.enterIdle l _ fun law held => unheld (((h.hold law).claims.holds_iff record).2 held)
    · exact h

theorem KeepsLaws.enterRecover (h : KeepsLaws s₀ s) (l : LaneId) (why : LaneReason) : KeepsLaws s₀ (s.enterRecover l why) :=
  ((h.enterStop l .recover why none (.inr rfl)).askRecovery l).testRecover l

/-! ## Capture -/

theorem KeepsLaws.enterReleasing (h : KeepsLaws s₀ s) (l : LaneId) (why : LaneReason)
    (held : s₀.HoldLaw → (s.lane l).claim = .held) : KeepsLaws s₀ (s.enterReleasing l why) :=
  (h.enterOn l .releasing why none rfl held).askBarrier l _ _

/-- With different keys, the record found by a key is the only one of it. -/
theorem State.VisitLaw.keyStands {s : State} (law : s.VisitLaw) {k : Nat} {v : Visit} (found : s.visit k = some v)
    (stands : v.state.standing = true) : s.KeyStands k := by
  intro w hw key
  have hv := List.mem_of_find?_eq_some found
  have same : v.key = k := by simpa using List.find?_some found
  have keys : (s.visits.map Visit.key).Nodup := List.pairwise_map.2 law.2.1
  rwa [List.inj_on_of_nodup_map keys hw hv (key.trans same.symm)]

theorem KeepsLaws.commitIn (h : KeepsLaws s₀ s) (l : LaneId) (w : Weight) (pass : Bool) :
    KeepsLaws s₀ (s.commitIn l w pass) := by
  unfold State.commitIn
  have freed := h.updateLane l fun c => { c with reservation := none }
  dsimp only
  split
  next v x _ found =>
    refine freed.commitInbound _ _ _ _ fun law => ?_
    obtain ⟨found, tied⟩ := Option.filter_eq_some_iff.1 found
    obtain ⟨k, _, found⟩ := Option.bind_eq_some_iff.1 found
    have key : x.key = k := by simpa using List.find?_some found
    have stands : x.state.standing = true := by
      simp only [Bool.and_eq_true, beq_iff_eq] at tied
      rw [tied.1]
      rfl
    exact State.VisitLaw.keyStands (freed.visit law) (key ▸ found) stands
  next => exact freed.post _

theorem KeepsLaws.targetGone (h : KeepsLaws s₀ s) (l : LaneId) : KeepsLaws s₀ (s.targetGone l) :=
  (h.updateLane l _).post _

theorem KeepsLaws.commitCapture (h : KeepsLaws s₀ s) (l : LaneId) (w : Weight) (pass : Bool) :
    KeepsLaws s₀ (s.commitCapture l w pass) := by
  unfold State.commitCapture
  split
  · exact h.commitIn l w pass
  · split
    · exact h.commitOut l w pass _
    · exact h
  · exact h

/-- Every check of a capture refers for a reason after entry. -/
theorem State.checkFails_after {s : State} {l : LaneId} {r : LaneRecord} {w : Weight} {x : CaptureStep}
    {why : ReferralReason} (fails : s.checkFails l r w x = some why) : why.beforeEntry = false := by
  cases x <;> simp only [State.checkFails] at fails <;> (repeat' split at fails) <;> cases fails <;> rfl

/-- A step that is a check refers, finds its target gone, or is followed by the next (R76, R77). -/
theorem runSteps_check (l : LaneId) (r : LaneRecord) (w : Weight) (why : LaneReason) {x : CaptureStep}
    (check : ∀ pass, x ≠ .commit pass) (rest : List CaptureStep) (s : State) :
    runSteps l r w why (x :: rest) s =
      if s.findsGone l then (s.targetGone l).enterReleasing l why
      else (s.checkFails l r w x).elim (runSteps l r w why rest s) (s.refer l) := by
  rw [runSteps]
  · cases s.checkFails l r w x <;> rfl
  · exact fun pass same => check pass same

theorem runSteps_commit (l : LaneId) (r : LaneRecord) (w : Weight) (why : LaneReason) (pass : Bool)
    (rest : List CaptureStep) (s : State) :
    runSteps l r w why (.commit pass :: rest) s =
      if s.findsGone l then (s.targetGone l).enterReleasing l why else (s.commitCapture l w pass).enterReleasing l why := rfl

theorem KeepsLaws.runSteps {l : LaneId} (r : LaneRecord) (w : Weight) (why : LaneReason) (steps : List CaptureStep)
    (h : KeepsLaws s₀ s) (held : s₀.HoldLaw → (s.lane l).claim = .held) : KeepsLaws s₀ (runSteps l r w why steps s) := by
  have gone : KeepsLaws s₀ ((s.targetGone l).enterReleasing l why) :=
    (h.targetGone l).enterReleasing l why fun law => by rw [State.targetGone_claim, held law]
  induction steps with
  | nil => exact h.enterReleasing l why held
  | cons x rest ih =>
    by_cases commit : ∃ pass, x = .commit pass
    · obtain ⟨pass, rfl⟩ := commit
      rw [runSteps_commit]
      split
      · exact gone
      · exact (h.commitCapture l w pass).enterReleasing l why fun law => by rw [State.commitCapture_claim, held law]
    · rw [runSteps_check _ _ _ _ (not_exists.1 commit)]
      split
      · exact gone
      · cases fails : s.checkFails l r w x with
        | none => exact ih
        | some reason => exact h.referAfter l _ none (State.checkFails_after fails) held

theorem KeepsLaws.capture (h : KeepsLaws s₀ s) (l : LaneId) (r : LaneRecord) (value : Int)
    (held : s₀.HoldLaw → (s.lane l).claim = .held) : KeepsLaws s₀ (s.capture l r value) := by
  unfold State.capture
  dsimp only
  exact KeepsLaws.runSteps _ _ _ _ ((h.updateLane l _ (timer := by exact .inr rfl)).post _) fun law => by simpa using held law

theorem KeepsLaws.tryCapture (h : KeepsLaws s₀ s) (l : LaneId) : KeepsLaws s₀ (s.tryCapture l) := by
  unfold State.tryCapture
  split
  · exact h
  · split
    next ready =>
      split
      · exact h
      · have weighing : (s.lane l).state = .weighing := by
          simp only [State.captureReady, Bool.and_eq_true, beq_iff_eq] at ready
          exact ready.1.1.1.1.1
        exact h.capture l _ _ (h.held (LaneContext.onDeck_of_state weighing rfl))
    next => exact h

theorem KeepsLaws.enterWeighing (h : KeepsLaws s₀ s) (l : LaneId) (why : LaneReason)
    (held : s₀.HoldLaw → (s.lane l).claim = .held) : KeepsLaws s₀ (s.enterWeighing l why) :=
  (h.enterOn l .weighing why none rfl held).tryCapture l

/-! ## Entry and release -/

theorem KeepsLaws.closingTest (h : KeepsLaws s₀ s) (l : LaneId) : KeepsLaws s₀ (s.closingTest l) := by
  unfold State.closingTest
  split
  · exact h
  · split
    next ready => exact h.enterWeighing l _ (h.held (LaneContext.onDeck_of_state ready.1 rfl))
    next => exact h

theorem KeepsLaws.beginClosing (h : KeepsLaws s₀ s) (l : LaneId) : KeepsLaws s₀ (s.beginClosing l) :=
  ((h.updateLane l _ (timer := .inr rfl)).askBarrier l _ _).closingTest l

theorem KeepsLaws.enteringTest (h : KeepsLaws s₀ s) (l : LaneId) : KeepsLaws s₀ (s.enteringTest l) := by
  unfold State.enteringTest
  split
  · exact h
  · split
    · exact h.beginClosing l
    · exact h

theorem KeepsLaws.leavingTest (h : KeepsLaws s₀ s) (l : LaneId) : KeepsLaws s₀ (s.leavingTest l) := by
  unfold State.leavingTest
  split
  · exact h
  next record =>
    split
    · exact (h.clearHold_enterIdle record _).afterRelease _
    · exact h

theorem KeepsLaws.enterLeaving (h : KeepsLaws s₀ s) (l : LaneId) (held : s₀.HoldLaw → (s.lane l).claim = .held) :
    KeepsLaws s₀ (s.enterLeaving l) :=
  ((h.enterOn l .leaving _ none rfl held).askBarrier l _ _).leavingTest l

theorem KeepsLaws.releasingTest (h : KeepsLaws s₀ s) (l : LaneId) : KeepsLaws s₀ (s.releasingTest l) := by
  unfold State.releasingTest
  split
  · exact h
  · split
    next ready => exact h.enterLeaving l (h.held (LaneContext.onDeck_of_state ready.1 rfl))
    next => exact h

theorem KeepsLaws.cancelEntry (h : KeepsLaws s₀ s) (l : LaneId) (r : LaneRecord) (record : s.laneRecord l = some r) :
    KeepsLaws s₀ (s.cancelEntry l r) := by
  refine ((h.askBarrier l _ _).clearHold_enterIdle ?_ _).afterRelease _
  rw [State.laneRecord, State.laneTable_of_fixed (s.askBarrier_fixed ..)]
  exact record

theorem KeepsLaws.deckFaultTest (h : KeepsLaws s₀ s) (l : LaneId) : KeepsLaws s₀ (s.deckFaultTest l) := by
  unfold State.deckFaultTest
  split
  · exact h
  · split
    next waits => exact h.referBefore l _ none rfl (h.not_held (LaneContext.mayHold_of_state waits.1 rfl))
    next => exact h

theorem KeepsLaws.deckSeen (h : KeepsLaws s₀ s) (l : LaneId) : KeepsLaws s₀ (s.deckSeen l) := by
  unfold State.deckSeen
  split
  · exact h.deckFaultTest l
  · exact h.enteringTest l
  · exact h.tryCapture l
  · exact h.releasingTest l
  · exact h.testRecover l
  all_goals exact h

theorem KeepsLaws.deckTold (h : KeepsLaws s₀ s) (d : DeckId) : KeepsLaws s₀ (s.deckTold d) :=
  (h.forEach _ _ fun l _ _ ht => ht.deckSeen l).grantDeck d

end

end Sys2Proof.Machine

/-! PROOFS. Admission, messages and office requests of the lanes, and the yard reset as each block takes it, keep the laws. -/

namespace Sys2Proof.Machine

/-! ## Lanes that a deck's news leaves as they are -/

@[simp] theorem State.replaceReading_lane (s : State) (d : DeckId) (l : LaneId) : (s.replaceReading d).lane l = s.lane l := rfl
@[simp] theorem State.commandDigitizer_lane (s : State) (d : DeckId) (l : LaneId) :
    (s.commandDigitizer d).lane l = s.lane l := by
  unfold State.commandDigitizer
  split <;> rfl
@[simp] theorem State.enterDeckState_lane (s : State) (d : DeckId) (st : DeckState) (l : LaneId) :
    (s.enterDeckState d st).lane l = s.lane l := by
  simp [State.enterDeckState]
@[simp] theorem State.wakeDeckEvent_lane (s : State) (d : DeckId) (l : LaneId) : (s.wakeDeckEvent d).lane l = s.lane l := by
  unfold State.wakeDeckEvent
  split <;> simp
@[simp] theorem State.restartIdle_lane (s : State) (d : DeckId) (l : LaneId) : (s.restartIdle d).lane l = s.lane l := by
  unfold State.restartIdle
  split <;> rfl
@[simp] theorem State.deckRead_lane (s : State) (d : DeckId) (l : LaneId) : (s.deckRead d).lane l = s.lane l := by
  simp [State.deckRead]

section
variable {l m : LaneId} (other : l ≠ m)
include other

theorem State.enterIdle_lane_other (s : State) (why : LaneReason) : (s.enterIdle l why).lane m = s.lane m := by
  unfold State.enterIdle
  dsimp only
  split <;> simp [State.enterLane_lane_other _ other]

theorem State.commitCapture_lane_other (s : State) (w : Weight) (pass : Bool) :
    (s.commitCapture l w pass).lane m = s.lane m := by
  unfold State.commitCapture
  split
  · rw [State.commitIn_lane, if_neg other]
  · split
    · exact State.lane_of_plant (State.commitOut_plant ..) m
    · rfl
  · rfl

theorem State.targetGone_lane_other (s : State) : (s.targetGone l).lane m = s.lane m := by
  simp [State.targetGone, other]

theorem State.enterReleasing_lane_other (s : State) (why : LaneReason) : (s.enterReleasing l why).lane m = s.lane m := by
  simp [State.enterReleasing, State.enterLane_lane_other _ other]

theorem runSteps_lane_other (r : LaneRecord) (w : Weight) (why : LaneReason) (steps : List CaptureStep) (s : State) :
    (runSteps l r w why steps s).lane m = s.lane m := by
  have released (t : State) : (t.enterReleasing l why).lane m = t.lane m := State.enterReleasing_lane_other other t why
  have gone : ((s.targetGone l).enterReleasing l why).lane m = s.lane m := by
    rw [released, State.targetGone_lane_other other]
  induction steps with
  | nil => exact released s
  | cons x rest ih =>
    by_cases commit : ∃ pass, x = .commit pass
    · obtain ⟨pass, rfl⟩ := commit
      rw [runSteps_commit]
      split
      · exact gone
      · rw [released, State.commitCapture_lane_other other]
    · rw [runSteps_check _ _ _ _ (not_exists.1 commit)]
      split
      · exact gone
      · cases s.checkFails l r w x with
        | none => exact ih
        | some reason => exact State.enterLane_lane_other s other ..

theorem State.tryCapture_lane_other (s : State) : (s.tryCapture l).lane m = s.lane m := by
  unfold State.tryCapture State.capture
  repeat' split
  all_goals simp [runSteps_lane_other other, other]

theorem State.enteringTest_lane_other (s : State) : (s.enteringTest l).lane m = s.lane m := by
  unfold State.enteringTest State.beginClosing State.closingTest State.enterWeighing
  repeat' split
  all_goals simp [State.tryCapture_lane_other other, State.enterLane_lane_other _ other, other]

theorem State.deckFaultTest_lane_other (s : State) : (s.deckFaultTest l).lane m = s.lane m := by
  unfold State.deckFaultTest State.refer
  repeat' split
  all_goals simp [State.enterLane_lane_other _ other]

end

/-- A lane that has no claim is not granted one. -/
theorem State.grantDeck_lane_still {s : State} (law : s.HoldLaw) {m : LaneId} (still : (s.lane m).state ≠ .awaitDeck)
    (d : DeckId) : (s.grantDeck d).lane m = s.lane m := by
  unfold State.grantDeck
  split
  · rfl
  next l grant =>
    obtain ⟨_, _, rest, claims⟩ := State.grantable_some grant
    have other : l ≠ m := by
      rintro rfl
      have waits := (law.claims.2.1 d l).1 (by rw [claims]; exact List.mem_cons_self)
      exact still ((law.lanes l).1 waits.1)
    simp [State.enterLane_lane_other _ other, other]

@[simp] theorem State.askRecovery_lane (s : State) (l m : LaneId) : (s.askRecovery l).lane m = s.lane m := by
  unfold State.askRecovery
  repeat' split
  all_goals simp

/-- A lane that neither recovers nor waits is left as it is by the release of a hold. -/
theorem State.afterRelease_lane_still {s : State} (law : s.HoldLaw) {m : LaneId} (still : (s.lane m).state ≠ .awaitDeck)
    (steady : (s.lane m).state ≠ .recover) (d : DeckId) : (s.afterRelease d).lane m = s.lane m := by
  unfold State.afterRelease
  have told := forEach_keeps (fun t => KeepsLaws s t ∧ t.lane m = s.lane m) (s.deckLanes d)
    (fun l t => (t.askRecovery l).recoverFree l) (fun l _ t ⟨keeps, same⟩ => by
      refine ⟨(keeps.askRecovery l).recoverFree l, ?_⟩
      unfold State.recoverFree
      split
      · simp [same]
      · split
        next ready =>
          have other : l ≠ m := by
            rintro rfl
            simp only [State.recovered, Bool.and_eq_true, beq_iff_eq, State.askRecovery_lane, same] at ready
            exact steady ready.1.1.1.1.1.1
          rw [State.enterIdle_lane_other other, State.askRecovery_lane, same]
        next => simp [same]) s ⟨.refl s, rfl⟩
  rw [State.grantDeck_lane_still (told.1.hold law) (told.2 ▸ still), told.2]

section
variable {s : State} (law : s.HoldLaw) {l m : LaneId} (other : l ≠ m) (still : (s.lane m).state ≠ .awaitDeck)
  (steady : (s.lane m).state ≠ .recover)
include law other still steady

/-- Another lane that gives up its hold for IDLE leaves a lane that neither recovers nor waits as it is. -/
theorem State.released_lane_still {r : LaneRecord} (record : s.laneRecord l = some r) (why : LaneReason) :
    (((s.clearHold l r.deck).enterIdle l why).afterRelease r.deck).lane m = s.lane m := by
  have same : ((s.clearHold l r.deck).enterIdle l why).lane m = s.lane m := by
    rw [State.enterIdle_lane_other other, State.clearHold_lane_other s other]
  rw [State.afterRelease_lane_still (((KeepsLaws.refl s).clearHold_enterIdle record why).hold law) (same ▸ still)
    (same ▸ steady), same]

theorem State.testRecover_lane_still : (s.testRecover l).lane m = s.lane m := by
  unfold State.testRecover
  split
  · rfl
  next record =>
    split
    · split
      · exact State.released_lane_still law other still steady record _
      · exact State.enterIdle_lane_other other ..
    · rfl

theorem State.leavingTest_lane_still : (s.leavingTest l).lane m = s.lane m := by
  unfold State.leavingTest
  split
  · rfl
  next record =>
    split
    · exact State.released_lane_still law other still steady record _
    · rfl

theorem State.releasingTest_lane_still : (s.releasingTest l).lane m = s.lane m := by
  unfold State.releasingTest
  split
  · rfl
  · split
    next ready =>
      have keeps : KeepsLaws s ((s.enterLane l .leaving (.event .deckEmpty)).askBarrier l .exit .lower) :=
        ((KeepsLaws.refl s).enterOn l _ _ _ rfl
          ((KeepsLaws.refl s).held (LaneContext.onDeck_of_state ready.1 rfl))).askBarrier l _ _
      have same : ((s.enterLane l .leaving (.event .deckEmpty)).askBarrier l .exit .lower).lane m = s.lane m := by
        simp [State.enterLane_lane_other _ other]
      rw [State.enterLeaving, State.leavingTest_lane_still (keeps.hold law) other (same ▸ still) (same ▸ steady), same]
    next => rfl

end

/-- A lane in a state that a deck's news does not act on. -/
def LaneState.deckBlind (st : LaneState) : Bool :=
  match st with
  | .closed | .idle | .identify | .referred | .refused | .leaving | .fault => true
  | .recover | .awaitDeck | .entering | .weighing | .releasing => false

theorem State.deckSeen_lane_still {s : State} (law : s.HoldLaw) (l : LaneId) {m : LaneId}
    (blind : (s.lane m).state.deckBlind = true) : (s.deckSeen l).lane m = s.lane m := by
  have still : (s.lane m).state ≠ .awaitDeck := fun same => by simp [same, LaneState.deckBlind] at blind
  have steady : (s.lane m).state ≠ .recover := fun same => by simp [same, LaneState.deckBlind] at blind
  unfold State.deckSeen
  by_cases lane : l = m
  · subst lane
    cases state : (s.lane l).state <;> simp_all [LaneState.deckBlind]
  · split
    · exact State.deckFaultTest_lane_other lane s
    · exact State.enteringTest_lane_other lane s
    · exact State.tryCapture_lane_other lane s
    · exact State.releasingTest_lane_still law lane still steady
    · exact State.testRecover_lane_still law lane still steady
    all_goals rfl

/-- The news of a deck leaves a lane as it is whose state it does not act on (R20, R73). -/
theorem State.deckTold_lane_still {s : State} (law : s.HoldLaw) {m : LaneId} (blind : (s.lane m).state.deckBlind = true)
    (d : DeckId) : (s.deckTold d).lane m = s.lane m := by
  have seen := forEach_keeps (fun t => KeepsLaws s t ∧ t.lane m = s.lane m) (s.deckLanes d) (fun l t => t.deckSeen l)
    (fun l _ t ⟨keeps, same⟩ => ⟨keeps.deckSeen l, by
      rw [State.deckSeen_lane_still (keeps.hold law) l (same ▸ blind), same]⟩) s ⟨.refl s, rfl⟩
  have still : (s.lane m).state ≠ .awaitDeck := fun same => by simp [same, LaneState.deckBlind] at blind
  rw [State.deckTold, State.grantDeck_lane_still (seen.1.hold law) (seen.2 ▸ still), seen.2]

/-! ## Admission -/

section
variable {s₀ s : State}

theorem KeepsLaws.awaitDeck (h : KeepsLaws s₀ s) (l : LaneId) (why : LaneReason) (read : Option IdentRead)
    (free : s₀.HoldLaw → (s.lane l).claim ≠ .held) : KeepsLaws s₀ (s.awaitDeck l why read) := by
  unfold State.awaitDeck
  split
  · exact h
  next r record =>
    have woken := (h.claimed record why read free).wakeDeckEvent r.deck
    dsimp only
    split
    · exact woken.referBefore l _ none rfl fun _ => by simp
    · exact woken.grantDeck r.deck

/-- A record reserved for an ident with none standing, in a table with room (R86). -/
theorem KeepsLaws.reserved (h : KeepsLaws s₀ s) (l : LaneId) (v : Vehicle) (absent : s.inYard v.ident = false)
    (room : s.yardFull = false) :
    KeepsLaws s₀ { s with visits := s.visits ++ [newVisit s.nextVisitKey l v], nextVisitKey := s.nextVisitKey + 1 } := by
  refine h.trans ⟨⟨id, id, fun law => law.append rfl rfl rfl absent, id, id, id, fun law => ⟨?_, law.2⟩⟩, id⟩
  simpa [State.yardFull] using room

theorem KeepsLaws.reserveAndWait (h : KeepsLaws s₀ s) (l : LaneId) (v : Vehicle) (why : LaneReason) (read : Option IdentRead)
    (free : s₀.HoldLaw → (s.lane l).claim ≠ .held) : KeepsLaws s₀ (s.reserveAndWait l v why read) := by
  unfold State.reserveAndWait State.reserveVisit
  split
  · exact h.referBefore l _ read rfl free
  next room =>
    cases absent : s.inYard v.ident with
    | true => exact h.referBefore l _ read rfl free
    | false =>
      have reserved := h.reserved l v absent (Bool.not_eq_true _ ▸ room)
      simp only [if_false, Bool.false_eq_true]
      exact (reserved.updateLane l _).awaitDeck l why read fun law => by
        rw [State.lane_updateLane, if_pos rfl]
        exact free law

theorem KeepsLaws.yardCheck (h : KeepsLaws s₀ s) (l : LaneId) (why : LaneReason) (read : Option IdentRead)
    (free : s₀.HoldLaw → (s.lane l).claim ≠ .held) : KeepsLaws s₀ (s.yardCheck l why read) := by
  unfold State.yardCheck
  split
  next r v _ _ =>
    have passed := h.updateLane l fun c => { c with passage := some (s.passageFor r v.ident) }
    have free' : s₀.HoldLaw →
        ((s.updateLane l fun c => { c with passage := some (s.passageFor r v.ident) }).lane l).claim ≠ .held :=
      fun law => by simpa using free law
    dsimp only
    split
    · split
      · exact passed.referBefore l _ read rfl free'
      · split
        · exact passed.referBefore l _ read rfl free'
        · exact passed.reserveAndWait l v why read free'
    · split
      · exact passed.referBefore l _ read rfl free'
      · exact (passed.updateLane l _).awaitDeck l why read fun law => by simpa using free law
  next => exact h

theorem KeepsLaws.settlePending (h : KeepsLaws s₀ s) (l : LaneId) (takes : Vehicle → CategoryNo → Bool) :
    KeepsLaws s₀ (s.settlePending l takes) := by
  unfold State.settlePending
  dsimp only
  split
  · have settled := h.updateLane l fun c => { c with pendingCategory := none }
    split
    · exact settled.updateLane l _
    · exact settled.post _
  · exact h

@[simp] theorem State.settlePending_claim (s : State) (l : LaneId) (takes : Vehicle → CategoryNo → Bool) :
    ((s.settlePending l takes).lane l).claim = (s.lane l).claim := by
  unfold State.settlePending
  dsimp only
  repeat' split
  all_goals simp

theorem KeepsLaws.makeDecision (h : KeepsLaws s₀ s) (l : LaneId) (t : Text) (account : Option Nat)
    (category : Option CategoryNo) (why : LaneReason) (read : Option IdentRead)
    (free : s₀.HoldLaw → (s.lane l).claim ≠ .held) (event : why.referral? = none) :
    KeepsLaws s₀ (s.makeDecision l t account category why read) := by
  unfold State.makeDecision
  split
  · exact h
  next r _ =>
    have known := h.updateLane l fun c => { c with vehicle := some (s.lookupEnd r t).1 }
    generalize hs : (s.updateLane l fun c => { c with vehicle := some (s.lookupEnd r t).1 }) = t₁ at known
    have same : (t₁.lane l).claim = (s.lane l).claim := by rw [← hs]; simp
    dsimp only
    rw [hs]
    have settled := (known.settlePending l fun v k =>
      (s.lookupEnd r t).2 == .goesOn && (t₁.passageFor r t == .inbound) && t₁.permits v k).updateLane l fun c =>
        { c with vehicle := c.vehicle.map fun v => v.overridden account category }
    split
    · exact settled.enterOff l _ why read (by rw [event]; rfl) fun law => by simpa [same] using free law
    next reason referred =>
      refine settled.referBefore l reason read ?_ fun law => by simpa [same] using free law
      unfold State.lookupEnd at referred
      repeat' split at referred
      all_goals cases referred <;> rfl
    · exact settled.yardCheck l why read fun law => by simpa [same] using free law

/-! ## Presence and codes -/

theorem KeepsLaws.presenceArrives (h : KeepsLaws s₀ s) (l : LaneId) (r : LaneRecord) :
    KeepsLaws s₀ (s.presenceArrives l r) := by
  unfold State.presenceArrives
  have present := h.updateLane l fun c => { c with present := true }
  dsimp only
  split
  next idle =>
    exact ((present.enterOff l _ _ none rfl (present.not_held
      (LaneContext.mayHold_of_state idle rfl))).deckArrive _).deckTold _
  next => exact (present.deckArrive _).deckTold _

/-- A lane whose DEPART takes it to IDLE has no hold. -/
theorem departsToIdle_mayHold {c : LaneContext} (departs : departsToIdle c = true) : c.mayHold = false := by
  unfold departsToIdle at departs
  cases state : c.state with
  | identify | awaitDeck | refused => exact LaneContext.mayHold_of_state state rfl
  | referred =>
    rw [state] at departs
    exact LaneContext.mayHold_of_before state departs
  | _ =>
    rw [state] at departs
    cases departs

theorem KeepsLaws.presenceDeparts (h : KeepsLaws s₀ s) (l : LaneId) : KeepsLaws s₀ (s.presenceDeparts l) := by
  unfold State.presenceDeparts
  have absent := h.updateLane l fun c => { c with present := false }
  dsimp only
  split
  next departs => exact absent.enterIdle l _ (absent.not_held (departsToIdle_mayHold departs))
  next => exact absent

theorem KeepsLaws.noteFaultChange (h : KeepsLaws s₀ s) (l : LaneId) (n : StationId) (before : Option Bool) (now : Bool)
    (toFault toReady : StationNotice) : KeepsLaws s₀ (s.noteFaultChange l n before now toFault toReady) := by
  unfold State.noteFaultChange
  split
  · exact h.post _
  · split
    · exact h.post _
    · exact h

theorem KeepsLaws.terminalCode (h : KeepsLaws s₀ s) (n : StationId) (before : Option Code) (c : Code) :
    KeepsLaws s₀ (s.terminalCode n before c) := by
  unfold State.terminalCode
  split
  · exact h
  next l _ =>
    split
    · exact h
    next r _ =>
      have noted := h.noteFaultChange l n (before.map fun b => terminalStatus b == .fault) (terminalStatus c == .fault)
        .terminalFault .terminalReady
      dsimp only
      split
      · exact noted
      · split
        · exact noted
        · exact noted.presenceArrives l r
      · split
        · exact noted.presenceDeparts l
        · exact noted

theorem KeepsLaws.readerCode (h : KeepsLaws s₀ s) (n : StationId) (before : Option Code) (c : Code) :
    KeepsLaws s₀ (s.readerCode n before c) := by
  unfold State.readerCode
  split
  · exact h
  · exact h.noteFaultChange _ _ _ _ _ _

/-! ## Barriers and stations tell the lanes -/

theorem KeepsLaws.laneEdge (h : KeepsLaws s₀ s) (l : LaneId) (role : BarrierRole) (edge : Edge) :
    KeepsLaws s₀ (s.laneEdge l role edge) := by
  unfold State.laneEdge
  split
  · exact (h.updateLane l _).enteringTest l
  · exact (h.updateLane l _).releasingTest l
  · exact h

theorem KeepsLaws.routeEdge (h : KeepsLaws s₀ s) (n : StationId) (edge : Edge) : KeepsLaws s₀ (s.routeEdge n edge) := by
  unfold State.routeEdge
  split
  · exact h
  · split
    · exact h.laneEdge _ _ _
    · split
      · exact h
      · exact h.postBarrier n _

theorem KeepsLaws.positionTold (h : KeepsLaws s₀ s) (l : LaneId) : KeepsLaws s₀ (s.positionTold l) := by
  unfold State.positionTold
  split
  · exact h.closingTest l
  · exact h.tryCapture l
  · exact h.leavingTest l
  · exact h.testRecover l
  all_goals exact h

theorem KeepsLaws.recoveryLowers (h : KeepsLaws s₀ s) (n : StationId) : KeepsLaws s₀ (s.recoveryLowers n) :=
  h.forEach _ _ fun p _ t ht => by
    split
    · exact ht.askBarrier _ _ _
    · exact ht

/-- A field of a barrier record that no law speaks of may be changed. -/
theorem KeepsLaws.mapBarrier (h : KeepsLaws s₀ s) (n : StationId) (f : BarrierRecord → BarrierRecord)
    (follows : ∀ b : BarrierRecord, b.Follows (f b)) : KeepsLaws s₀ (s.setBarrier n ((s.barrier n).map f)) := by
  cases record : s.barrier n with
  | none => exact h.setBarrier n _ (fun _ hb => by cases hb) fun _ hb => by cases hb
  | some b => exact h.setBarrierOf record (follows b)

theorem KeepsLaws.tellLanes (h : KeepsLaws s₀ s) (n : StationId) : KeepsLaws s₀ (s.tellLanes n) :=
  (h.mapBarrier n _ (by exact fun _ => ⟨id, id⟩)).forEach _ _ fun l _ _ ht => ht.positionTold l

theorem KeepsLaws.barrierMoved (h : KeepsLaws s₀ s) {n : StationId} {b : BarrierRecord} (record : s.barrier n = some b)
    (p : Position) (loop : ArmLoop) : KeepsLaws s₀ (s.barrierMoved n b p loop) := by
  unfold State.barrierMoved
  obtain ⟨lawful, counted⟩ := b.takes_laws p loop
  have taken : KeepsLaws s₀ ((if b.obstructedBy loop then
      (s.putBarrier n (BarrierRecord.interlocked { b with position := p, loop := some loop } loop)).postBarrier n .obstruction
    else s).putBarrier n (b.takes p loop)) := by
    split
    next obstructed =>
      obtain ⟨lawful', counted'⟩ := b.interlocked_laws p loop
      have reversed := (h.putBarrier record ⟨fun _ => lawful', fun _ => counted' (.inr obstructed)⟩).postBarrier n .obstruction
      exact reversed.putBarrier (by rw [State.postBarrier_barrier, State.putBarrier_barrier, if_pos rfl])
        ⟨fun _ => lawful, fun _ => counted (.inr obstructed)⟩
    next => exact h.putBarrier record ⟨fun _ => lawful, fun le => counted (.inl le)⟩
  dsimp only
  refine KeepsLaws.tellLanes ?_ n
  have returned : KeepsLaws s₀ (if b.returns p then
      (((if b.obstructedBy loop then
        (s.putBarrier n (BarrierRecord.interlocked { b with position := p, loop := some loop } loop)).postBarrier n .obstruction
      else s).putBarrier n (b.takes p loop)).postBarrier n .returned).recoveryLowers n
    else (if b.obstructedBy loop then
        (s.putBarrier n (BarrierRecord.interlocked { b with position := p, loop := some loop } loop)).postBarrier n .obstruction
      else s).putBarrier n (b.takes p loop)) := by
    split
    · exact (taken.postBarrier n _).recoveryLowers n
    · exact taken
  split
  · exact returned
  · exact (returned.routeEdge n _).edgeDue n _

theorem KeepsLaws.laneFault (h : KeepsLaws s₀ s) (l : LaneId) (cause : FaultCause) :
    KeepsLaws s₀ (s.laneFault l cause) := by
  unfold State.laneFault
  split
  · exact h
  · exact h
  · split
    · exact h
    · exact (h.updateLane l _).post _
  · exact (h.updateLane l _).enterStop l _ _ none (.inl rfl)

theorem KeepsLaws.faultLanes (h : KeepsLaws s₀ s) (n : StationId) (cause : FaultCause) :
    KeepsLaws s₀ (s.faultLanes n cause) :=
  h.forEach _ _ fun l _ _ ht => ht.laneFault l cause

theorem KeepsLaws.barrierCode (h : KeepsLaws s₀ s) (n : StationId) (c : Code) : KeepsLaws s₀ (s.barrierCode n c) := by
  unfold State.barrierCode
  split
  · exact h
  next record =>
    split
    · exact h.barrierMoved record _ _
    · exact ((h.putBarrier record (BarrierRecord.follows_stops _ _)).postBarrier n _).faultLanes n _
    · exact ((h.putBarrier record (BarrierRecord.follows_stops _ _)).postBarrier n _).faultLanes n _

theorem KeepsLaws.motionExpires (h : KeepsLaws s₀ s) (n : StationId) : KeepsLaws s₀ (s.motionExpires n) := by
  unfold State.motionExpires
  split
  · exact h
  next record =>
    split
    · exact ((h.putBarrier record (BarrierRecord.follows_timedOut _)).postBarrier n _).faultLanes n _
    · exact h

theorem KeepsLaws.lanesSeeEnrolled (h : KeepsLaws s₀ s) (n : StationId) : KeepsLaws s₀ (s.lanesSeeEnrolled n) :=
  h.forEach _ _ fun l _ _ ht => ht.testRecover l

theorem KeepsLaws.presenceLost (h : KeepsLaws s₀ s) (n : StationId) : KeepsLaws s₀ (s.presenceLost n) := by
  unfold State.presenceLost
  split
  · exact h
  · exact h.updateLane _ _

theorem KeepsLaws.lanesSeeLost (h : KeepsLaws s₀ s) (n : StationId) : KeepsLaws s₀ (s.lanesSeeLost n) :=
  (h.presenceLost n).forEach _ _ fun l _ _ ht => ht.laneFault l _

/-! ## Messages and timers of the lanes -/

/-- A lane that takes a read for a decision has no hold, and the news of a deck leaves it as it is. -/
theorem LaneContext.takesRead_off {c : LaneContext} (takes : c.takesRead = true) :
    c.mayHold = false ∧ c.state.deckBlind = true := by
  simp only [LaneContext.takesRead, Bool.or_eq_true, Bool.and_eq_true, beq_iff_eq] at takes
  rcases takes with identify | ⟨referred, reason⟩
  · exact ⟨LaneContext.mayHold_of_state identify rfl, by rw [identify]; rfl⟩
  · exact ⟨LaneContext.mayHold_of_before referred (by rw [reason]; rfl), by rw [referred]; rfl⟩

theorem KeepsLaws.identArrives (h : KeepsLaws s₀ s) (n : StationId) (x : IdentRead) :
    KeepsLaws s₀ (s.identArrives n x) := by
  unfold State.identArrives
  split
  · exact h.post _
  next l _ =>
    split
    · exact h
    · have read := h.updateLane l fun c => { c with lastRead := some (x.ident, 0) }
      dsimp only
      split
      · exact read
      next r _ =>
        split
        next takes =>
          have stopped := read.updateLane l (fun c => { c with timer := none }) (timer := .inr rfl)
          refine ((stopped.deckRead r.deck).deckTold r.deck).makeDecision l _ _ _ _ _ (fun law => ?_) rfl
          obtain ⟨off, blind⟩ := LaneContext.takesRead_off takes
          rw [State.deckTold_lane_still ((stopped.deckRead r.deck).hold law) (by simpa using blind), State.deckRead_lane]
          simpa using read.not_held off law
        next => exact read.post _

/-- A lane in which a key resolves a CATEGORY referral has no hold. -/
theorem KeepsLaws.categoryKey (h : KeepsLaws s₀ s) (l : LaneId) (k : CategoryNo) : KeepsLaws s₀ (s.categoryKey l k) := by
  unfold State.categoryKey
  dsimp only
  split
  · exact h.updateLane l _
  · split
    · exact h.post _
    next v _ =>
      split
      · split
        next referred =>
          refine (h.updateLane l _).reserveAndWait l _ _ none fun law => ?_
          have := h.not_held (LaneContext.mayHold_of_before referred.1 (by rw [referred.2]; rfl)) law
          simpa using this
        next => exact h.updateLane l _
      · exact h.post _

theorem KeepsLaws.keyArrives (h : KeepsLaws s₀ s) (n : StationId) (x : KeyEntry) : KeepsLaws s₀ (s.keyArrives n x) := by
  unfold State.keyArrives
  split
  · exact h.post _
  · split
    · exact h.post _
    · split
      · exact h
      · exact h.categoryKey _ _

/-- A timer that has run out was started by the state the lane is in (R60). -/
theorem LaneContext.timedOut_state {c : LaneContext} (lawful : c.HoldLawful) {k : LaneTimerKind} (out : c.timedOut k = true) :
    match k with
    | .identWait => c.state = .identify
    | .referral => c.state = .referred ∧ c.reason.any ReferralReason.beforeEntry = true
    | .entry => c.state = .entering
    | .weigh => c.state = .weighing := by
  obtain ⟨t, timer, kind, _⟩ : ∃ t, c.timer = some t ∧ t.kind = k ∧ _ := by
    simpa [LaneContext.timedOut, Option.any_eq_true] using out
  have times := lawful.2.2.2
  rw [LaneContext.timerLawful, timer, Option.all_some, kind] at times
  cases k <;> simpa using times

theorem KeepsLaws.identWaitEnds (h : KeepsLaws s₀ s) (l : LaneId) : KeepsLaws s₀ (s.identWaitEnds l) := by
  unfold State.identWaitEnds
  split
  next out =>
    exact h.referBefore l _ none rfl fun law =>
      h.not_held (LaneContext.mayHold_of_state (LaneContext.timedOut_state ((h.hold law).lanes l) out) rfl) law
  next => exact h

theorem KeepsLaws.referralEnds (h : KeepsLaws s₀ s) (l : LaneId) : KeepsLaws s₀ (s.referralEnds l) := by
  unfold State.referralEnds
  split
  next out =>
    refine h.enterOff l _ _ none rfl fun law => ?_
    obtain ⟨referred, before⟩ := LaneContext.timedOut_state ((h.hold law).lanes l) out
    exact h.not_held (LaneContext.mayHold_of_before referred before) law
  next => exact h

theorem KeepsLaws.entryEnds (h : KeepsLaws s₀ s) (l : LaneId) : KeepsLaws s₀ (s.entryEnds l) := by
  unfold State.entryEnds
  split
  · exact h
  next r record =>
    split
    next out =>
      split
      · exact h.cancelEntry l r record
      · exact h.referAfter l _ none rfl fun law =>
          h.held (LaneContext.onDeck_of_state (LaneContext.timedOut_state ((h.hold law).lanes l) out) rfl) law
    next => exact h

theorem KeepsLaws.weighEnds (h : KeepsLaws s₀ s) (l : LaneId) : KeepsLaws s₀ (s.weighEnds l) := by
  unfold State.weighEnds
  split
  next out =>
    exact h.referAfter l _ none rfl fun law =>
      h.held (LaneContext.onDeck_of_state (LaneContext.timedOut_state ((h.hold law).lanes l) out) rfl) law
  next => exact h

/-! ## Office requests of the lanes -/

theorem KeepsLaws.closeLane (h : KeepsLaws s₀ s) (l : LaneId) (r : LaneRecord) (record : s.laneRecord l = some r) :
    KeepsLaws s₀ (s.closeLane l r) := by
  unfold State.closeLane
  have closed := h.clearHold_enterLane record .closed (.event .disabled) none rfl
  dsimp only
  split
  · exact closed.afterRelease _
  · exact closed

theorem KeepsLaws.overrideVehicle (h : KeepsLaws s₀ s) (l : LaneId) (account : Option Nat) (category : Option CategoryNo) :
    KeepsLaws s₀ (s.overrideVehicle l account category) := h.updateLane l _

theorem KeepsLaws.admitGoesOn (h : KeepsLaws s₀ s) (l : LaneId) (r : LaneRecord) (v : AdmitLoad) (reason : ReferralReason)
    (free : s₀.HoldLaw → (s.lane l).claim ≠ .held) : KeepsLaws s₀ (s.admitGoesOn l r v reason) := by
  unfold State.admitGoesOn
  have overridden := h.overrideVehicle l v.account (v.category.bind categoryOf)
  have same : ((s.overrideVehicle l v.account (v.category.bind categoryOf)).lane l).claim = (s.lane l).claim := by
    simp [State.overrideVehicle]
  have free' (law : s₀.HoldLaw) : ((s.overrideVehicle l v.account (v.category.bind categoryOf)).lane l).claim ≠ .held :=
    same ▸ free law
  dsimp only
  split
  · exact h.makeDecision l _ _ _ _ _ free rfl
  · exact (overridden.updateLane l _).yardCheck l _ none fun law => by
      rw [State.lane_updateLane, if_pos rfl]
      exact free' law
  · exact overridden.yardCheck l _ none free'
  · exact overridden.yardCheck l _ none free'
  · exact overridden.reserveAndWait l _ _ none free'
  · exact overridden.reserveAndWait l _ _ none free'
  · exact (overridden.updateLane l _).awaitDeck l _ none fun law => by
      rw [State.lane_updateLane, if_pos rfl]
      exact free' law
  · exact overridden.awaitDeck l _ none free'
  · exact overridden

theorem KeepsLaws.resumeCapture (h : KeepsLaws s₀ s) (l : LaneId) (r : LaneRecord) (steps : List CaptureStep)
    (held : s₀.HoldLaw → (s.lane l).claim = .held) : KeepsLaws s₀ (s.resumeCapture l r steps) := by
  unfold State.resumeCapture
  split
  · exact h.enterReleasing l _ held
  · exact h.runSteps _ _ _ _ held

theorem KeepsLaws.freeReservation (h : KeepsLaws s₀ s) (l : LaneId) : KeepsLaws s₀ (s.freeReservation l) := by
  unfold State.freeReservation State.freeVisit
  repeat' split
  · exact h
  · exact h.updateLane l _
  · exact (h.filterVisits _).updateLane l _
  · exact h.updateLane l _

theorem KeepsLaws.releaseUnweighed (h : KeepsLaws s₀ s) (l : LaneId) (held : s₀.HoldLaw → (s.lane l).claim = .held) :
    KeepsLaws s₀ (s.releaseUnweighed l) :=
  ((h.freeReservation l).post _).enterReleasing l _ fun law => by simpa [State.freeReservation_lane] using held law

theorem KeepsLaws.resetLanesYard (h : KeepsLaws s₀ s) : KeepsLaws s₀ s.resetLanesYard :=
  (h.forEach _ _ fun l _ _ ht => ht.enterStop l _ _ none (.inr rfl)).forEach _ _
    fun l _ _ ht => (ht.askRecovery l).testRecover l

/-! ## The blocks take the yard reset -/

theorem KeepsLaws.deckYardReset (h : KeepsLaws s₀ s) (d : DeckId) : KeepsLaws s₀ (s.deckYardReset d) := by
  unfold State.deckYardReset
  split
  · exact ((h.setResetsDue _).resetDeckYard d).deckTold d
  · exact h

theorem KeepsLaws.laneYardReset (h : KeepsLaws s₀ s) : KeepsLaws s₀ s.laneYardReset := by
  unfold State.laneYardReset
  split
  · exact (h.setResetsDue _).resetLanesYard
  · exact h

theorem KeepsLaws.visitYardReset (h : KeepsLaws s₀ s) : KeepsLaws s₀ s.visitYardReset := by
  unfold State.visitYardReset
  split
  · exact (h.setResetsDue _).filterVisits _
  · exact h

theorem KeepsLaws.barrierYardReset (h : KeepsLaws s₀ s) : KeepsLaws s₀ s.barrierYardReset := by
  unfold State.barrierYardReset
  split
  · exact (h.setResetsDue _).resetBarriersYard
  · exact h

theorem KeepsLaws.ticketYardReset (h : KeepsLaws s₀ s) : KeepsLaws s₀ s.ticketYardReset := by
  unfold State.ticketYardReset
  split
  · exact (h.setResetsDue _).forEach _ _ fun l _ _ ht => ht.flushQueue l _
  · exact h

theorem KeepsLaws.takeResets (h : KeepsLaws s₀ s) : KeepsLaws s₀ s.takeResets :=
  (h.forEach _ _ fun d _ _ ht => ht.deckYardReset d).laneYardReset.visitYardReset.barrierYardReset.ticketYardReset

end

end Sys2Proof.Machine

/-! PROOFS. The station messages, the loads, the yard loop and the office line keep the laws; and so does every step. -/

namespace Sys2Proof.Machine

section
variable {s₀ s : State}

/-! ## Station messages -/

theorem KeepsLaws.updateSend (h : KeepsLaws s₀ s) (n : StationId) (f : SendChannel → SendChannel) :
    KeepsLaws s₀ (s.updateSend n f) := h.updateStation n _

theorem KeepsLaws.receiveFrame (h : KeepsLaws s₀ s) (n : StationId) (fields : Option UnitFields) :
    KeepsLaws s₀ (s.receiveFrame n fields) := by
  unfold State.receiveFrame
  dsimp only
  split
  · split
    · exact h.setStation n _
    · exact (h.setStation n _).updateStation n _
    · exact (h.setStation n _).post _
  · exact h

theorem KeepsLaws.receiveEnds (h : KeepsLaws s₀ s) (n : StationId) : KeepsLaws s₀ (s.receiveEnds n) := by
  unfold State.receiveEnds
  split
  · exact h.updateStation n _
  · exact h

theorem KeepsLaws.sendStarts (h : KeepsLaws s₀ s) (n : StationId) : KeepsLaws s₀ (s.sendStarts n) := by
  unfold State.sendStarts
  split
  · split
    · exact h
    · dsimp only
      split
      · exact (h.updateSend n _).updateSend n _
      · exact (h.updateSend n _).setPhase _ _
      · exact h.updateSend n _
  · exact h

theorem KeepsLaws.sourceDelivered (h : KeepsLaws s₀ s) (n : StationId) (x : MessageSource) :
    KeepsLaws s₀ (s.sourceDelivered n x) := by
  cases x with
  | enrolResult _ => exact h
  | ticket l => exact h.setPhase l _
  | forward => exact h.updateStation n fun x => { x with forward := none }

theorem KeepsLaws.sourceFailed (h : KeepsLaws s₀ s) (n : StationId) (x : MessageSource) :
    KeepsLaws s₀ (s.sourceFailed n x) := by
  cases x with
  | enrolResult _ => exact h.post _
  | ticket l => exact h.jobLeaves l _
  | forward => exact (h.updateStation n _).post _

theorem KeepsLaws.attemptFails (h : KeepsLaws s₀ s) (n : StationId) : KeepsLaws s₀ (s.attemptFails n) := by
  unfold State.attemptFails
  split
  · exact h
  · split
    · exact h.updateSend n _
    · exact (h.updateSend n _).sourceFailed n _

theorem KeepsLaws.unitMatched (h : KeepsLaws s₀ s) (n : StationId) : KeepsLaws s₀ (s.unitMatched n) := by
  unfold State.unitMatched
  split
  · exact h
  · split
    · exact h.updateSend n _
    · exact (h.updateSend n _).sourceDelivered n _

theorem KeepsLaws.sendFrame (h : KeepsLaws s₀ s) (n : StationId) (answer : Option Answer) :
    KeepsLaws s₀ (s.sendFrame n answer) := by
  unfold State.sendFrame
  dsimp only
  split
  · have heard := h.updateSend n fun c => { c with noneHeard := heard c.noneHeard answer }
    split
    · exact heard
    · exact heard.attemptFails n
    · exact heard.updateSend n _
    · split
      · exact heard.unitMatched n
      · exact heard
  · exact h

theorem KeepsLaws.unitTimerEnds (h : KeepsLaws s₀ s) (n : StationId) : KeepsLaws s₀ (s.unitTimerEnds n) := by
  unfold State.unitTimerEnds
  split
  · exact h.attemptFails n
  · exact h

theorem KeepsLaws.gapEnds (h : KeepsLaws s₀ s) (n : StationId) : KeepsLaws s₀ (s.gapEnds n) := by
  unfold State.gapEnds
  split
  · exact h
  · split
    · exact h.updateSend n _
    · exact h

theorem KeepsLaws.judgeCode (h : KeepsLaws s₀ s) (n : StationId) (c : Code) : KeepsLaws s₀ (s.judgeCode n c) := by
  unfold State.judgeCode
  split
  · exact h
  · exact h.post _

theorem KeepsLaws.handOn (h : KeepsLaws s₀ s) (n : StationId) (before : Option Code) (c : Code) :
    KeepsLaws s₀ (s.handOn n before c) := by
  unfold State.handOn
  split
  · exact h
  · split
    · exact h
    · exact (h.deckCode _ _ _).deckTold _
  · exact h.barrierCode n c
  · exact h.readerCode n before c
  · exact (h.terminalCode n before c).ticketCode n c

theorem KeepsLaws.handOnEnrolled (h : KeepsLaws s₀ s) (n : StationId) : KeepsLaws s₀ (s.handOnEnrolled n) := by
  unfold State.handOnEnrolled
  split
  · exact h
  · exact (h.judgeCode n _).handOn n _ _

theorem KeepsLaws.handOnGained (h : KeepsLaws s₀ s) (n : StationId) : KeepsLaws s₀ (s.handOnGained n) := by
  unfold State.handOnGained
  split
  · exact h
  · exact h.handOn n _ _

theorem KeepsLaws.barrierLost (h : KeepsLaws s₀ s) (n : StationId) : KeepsLaws s₀ (s.barrierLost n) := by
  unfold State.barrierLost
  split
  · exact h
  next record => exact (h.putBarrier record (BarrierRecord.follows_lost _)).postBarrier n _

theorem KeepsLaws.deckLost (h : KeepsLaws s₀ s) (n : StationId) : KeepsLaws s₀ (s.deckLost n) := by
  unfold State.deckLost
  split
  · exact h
  · exact (h.digitizerLost n).deckTold _

theorem KeepsLaws.dropForward (h : KeepsLaws s₀ s) (n : StationId) : KeepsLaws s₀ (s.dropForward n) := by
  unfold State.dropForward
  split
  · exact h
  · exact (h.updateStation n _).post _

theorem KeepsLaws.enrolledLost (h : KeepsLaws s₀ s) (n : StationId) (restarted : Bool) :
    KeepsLaws s₀ (s.enrolledLost n restarted) :=
  ((((((((h.updateStation n _).post _).dropForward n).terminalLost n).updateStation n _).deckLost n).barrierLost
    n).lanesSeeLost n)

theorem KeepsLaws.stationSilent (h : KeepsLaws s₀ s) (n : StationId) : KeepsLaws s₀ (s.stationSilent n) := by
  unfold State.stationSilent
  split
  · exact h.enrolledLost n false
  · exact h.updateStation n _
  · exact h.updateStation n _
  · exact h.updateStation n _
  all_goals exact h

theorem KeepsLaws.stationAlive (h : KeepsLaws s₀ s) (n : StationId) : KeepsLaws s₀ (s.stationAlive n) := by
  unfold State.stationAlive
  split
  · exact h.updateStation n _
  · exact h.updateStation n _
  all_goals exact h

theorem KeepsLaws.attemptFailed (h : KeepsLaws s₀ s) (n : StationId) : KeepsLaws s₀ (s.attemptFailed n) := by
  unfold State.attemptFailed
  dsimp only
  split
  · exact h.updateStation n _
  · exact (h.updateStation n _).post _

theorem KeepsLaws.windowEnds (h : KeepsLaws s₀ s) (n : StationId) : KeepsLaws s₀ (s.windowEnds n) := by
  unfold State.windowEnds
  split
  · exact h.attemptFailed n
  · exact h

theorem KeepsLaws.enrols (h : KeepsLaws s₀ s) (n : StationId) (kind : StationKind) (revision : Nat) (serial : Text) :
    KeepsLaws s₀ (s.enrols n kind revision serial) := by
  unfold State.enrols
  dsimp only
  split
  · exact (((h.updateStation n _).post _).handOnEnrolled n).lanesSeeEnrolled n
  · exact (((((h.updateStation n _).post _).handOnEnrolled n).digitizerEnrolled n).deckTold _).lanesSeeEnrolled n

theorem KeepsLaws.attemptComplete (h : KeepsLaws s₀ s) (n : StationId) : KeepsLaws s₀ (s.attemptComplete n) := by
  unfold State.attemptComplete
  have detailed := h.updateStation n fun x => x.detailed x.pages
  dsimp only
  split
  · split
    · exact detailed.enrols n _ _ _
    · exact (detailed.updateStation n _).post _
  · exact detailed

theorem KeepsLaws.storePage (h : KeepsLaws s₀ s) (n : StationId) (p : EnrolPage) : KeepsLaws s₀ (s.storePage n p) := by
  unfold State.storePage
  dsimp only
  split
  · exact (h.updateStation n _).attemptComplete n
  · exact h.updateStation n _

theorem KeepsLaws.breakAndStore (h : KeepsLaws s₀ s) (n : StationId) (p : EnrolPage) :
    KeepsLaws s₀ (s.breakAndStore n p) := by
  unfold State.breakAndStore
  dsimp only
  split
  · exact h.attemptFailed n
  · exact (h.attemptFailed n).storePage n p

theorem KeepsLaws.pageArrives (h : KeepsLaws s₀ s) (n : StationId) (p : EnrolPage) : KeepsLaws s₀ (s.pageArrives n p) := by
  unfold State.pageArrives
  dsimp only
  split
  · exact h.storePage n _
  · exact h.attemptFailed n
  · split
    · exact h
    · split
      · exact h.storePage n _
      · exact h.attemptFailed n
  · split
    · exact h
    · exact h.breakAndStore n _
  · exact ((h.enrolledLost n true).updateStation n _).storePage n _
  all_goals exact h

theorem KeepsLaws.roleChanged (h : KeepsLaws s₀ s) (n : StationId) : KeepsLaws s₀ (s.roleChanged n) := by
  unfold State.roleChanged
  split
  · exact h.updateStation n _
  · exact h

/-- A message handled by owners that keep the laws keeps them. -/
theorem KeepsLaws.deliver {α : Type} (h : KeepsLaws s₀ s) (n : StationId) (k : UpKind) (b : Body α) (wellFormed : α → Bool)
    (malformed : State → State) (handle : α → State → State) (bad : ∀ t, KeepsLaws s₀ t → KeepsLaws s₀ (malformed t))
    (good : ∀ a t, KeepsLaws s₀ t → KeepsLaws s₀ (handle a t)) :
    KeepsLaws s₀ (s.deliver n k b wellFormed malformed handle) := by
  unfold State.deliver
  split
  · split
    · exact bad _ ((h.updateStation n _).post _)
    · exact good _ _ (h.updateStation n _)
  · exact h

theorem KeepsLaws.malformedPage (h : KeepsLaws s₀ s) (n : StationId) : KeepsLaws s₀ (s.malformedPage n) := by
  unfold State.malformedPage
  split
  · exact h.attemptFailed n
  · exact h

theorem KeepsLaws.clearStation (h : KeepsLaws s₀ s) (n : StationId) (threshold : Option Nat) :
    KeepsLaws s₀ (s.clearStation n threshold) :=
  ((h.updateSlot n _ (by exact fun _ => Nat.zero_le _) (by exact fun _ => Nat.zero_le _)).updateStation n _).mapBarrier n _
    (by exact fun _ => ⟨id, fun _ => Nat.zero_le _⟩)

/-! ## Loads -/

/-- A lane with no claim may be given another record. -/
theorem KeepsLaws.setLaneRecord (h : KeepsLaws s₀ s) (l : LaneId) (x : Option LaneRecord)
    (free : s₀.HoldLaw → (s.lane l).claim = .none) : KeepsLaws s₀ (s.setLaneRecord l x) := by
  refine ⟨h.toKeepsRecords.setLaneRecord l x, fun law₀ => ?_⟩
  obtain ⟨⟨nodup, claims, holders⟩, lanes⟩ := (State.holdLaw_iff _).1 (h.hold law₀)
  refine (State.holdLaw_iff _).2 ⟨⟨nodup, fun d m => ?_, fun d m => ?_⟩, lanes⟩
  · rw [State.setLaneRecord_arbiter, State.setLaneRecord_lane, State.laneRecord_setLaneRecord, claims]
    by_cases same : l = m
    · subst same
      simp [free law₀]
    · rw [if_neg same]
  · rw [State.setLaneRecord_arbiter, State.setLaneRecord_lane, State.laneRecord_setLaneRecord, holders]
    by_cases same : l = m
    · subst same
      simp [free law₀]
    · rw [if_neg same]

theorem KeepsLaws.putNewBarrier (h : KeepsLaws s₀ s) (n : StationId) (limit : Nat) :
    KeepsLaws s₀ (s.putBarrier n (newBarrier limit)) := by
  refine (h.setBarrier n _ (fun b hb _ => ?_) fun b hb _ => ?_).setCommand n _
  all_goals obtain rfl := Option.some.inj hb
  · exact BarrierRecord.lawful_of_commanded BarrierCommand.noConfusion
  · exact Nat.zero_le _

theorem KeepsLaws.dropBarrier (h : KeepsLaws s₀ s) (n : StationId) : KeepsLaws s₀ (s.setBarrier n none) :=
  h.setBarrier n none (fun _ hb => by cases hb) fun _ hb => by cases hb

theorem KeepsLaws.syncBarriers (h : KeepsLaws s₀ s) : KeepsLaws s₀ s.syncBarriers :=
  h.forEach _ _ fun n _ t ht => by
    split
    · exact ht.putNewBarrier n _
    · exact ht
    · exact ht.dropBarrier n
    · exact ht

theorem KeepsLaws.setLaneCodes (h : KeepsLaws s₀ s) (l : LaneId) (r : LaneRecord) : KeepsLaws s₀ (s.setLaneCodes l r) := by
  unfold State.setLaneCodes
  dsimp only
  split
  · exact h.setCommand _ _
  · exact (h.setCommand _ _).setCommand _ _

theorem KeepsLaws.settleRoles (h : KeepsLaws s₀ s) (before : State) : KeepsLaws s₀ (settleRoles before s) := by
  have cleared : KeepsLaws s₀ (clearLostRoles before s) := h.forEach _ _ fun n _ t ht => by
    split
    · exact ht.setCommand n _
    · exact ht
  have reported : KeepsLaws s₀ (reportRoles before (clearLostRoles before s)) := cleared.forEach _ _ fun n _ t ht => by
    split
    · exact ht.roleChanged n
    · exact ht
  exact reported.forEach _ _ fun n _ t ht => by
    split
    · exact ht.handOnGained n
    · exact ht

theorem KeepsLaws.changeTerminal (h : KeepsLaws s₀ s) (l : LaneId) (r : LaneRecord) :
    KeepsLaws s₀ (s.changeTerminal l r) := by
  unfold State.changeTerminal
  split
  · exact h
  · split
    · exact h
    · exact h.flushQueue l _

@[simp] theorem State.jobLeaves_lane (s : State) (l m : LaneId) (o : PrintOutcome) : (s.jobLeaves l o).lane m = s.lane m := by
  unfold State.jobLeaves
  split
  · rfl
  · exact State.lane_of_plant (by simp) m

theorem State.forEach_lane {α : Type} (xs : List α) (f : α → State → State) (m : LaneId)
    (same : ∀ x t, (f x t).lane m = t.lane m) (s : State) : (forEach xs f s).lane m = s.lane m :=
  forEach_keeps (fun t => t.lane m = s.lane m) xs f (fun x _ t ht => (same x t).trans ht) s rfl

@[simp] theorem State.flushQueue_lane (s : State) (l m : LaneId) (why : NotPrinted) : (s.flushQueue l why).lane m = s.lane m := by
  unfold State.flushQueue
  dsimp only
  rw [State.forEach_lane _ _ m fun _ t => State.jobLeaves_lane ..]
  split <;> rfl

@[simp] theorem State.changeTerminal_lane (s : State) (l m : LaneId) (r : LaneRecord) :
    (s.changeTerminal l r).lane m = s.lane m := by
  unfold State.changeTerminal
  repeat' split
  all_goals simp

/-- A CLOSED lane has no claim, so its record may change (R50). -/
theorem KeepsLaws.storeLane (h : KeepsLaws s₀ s) (l : LaneId) (r : LaneRecord) (closed : (s.lane l).state = .closed) :
    KeepsLaws s₀ (s.storeLane l r) := by
  refine ((((h.changeTerminal l r).setLaneRecord l _ fun law => ?_).syncBarriers).setLaneCodes l r).settleRoles s
  rw [State.changeTerminal_lane]
  have unheld := h.not_held (LaneContext.mayHold_of_state closed rfl) law
  have unclaimed := ((h.hold law).lanes l).not_waiting (by rw [closed]; exact LaneState.noConfusion)
  cases claim : (s.lane l).claim <;> simp_all

theorem KeepsLaws.storeDeck (h : KeepsLaws s₀ s) (d : DeckId) (r : DeckRecord) : KeepsLaws s₀ (s.storeDeck d r) := by
  unfold State.storeDeck State.setDeckRecord
  dsimp only
  rw [State.setDeck_setDeck]
  exact ((h.setDeck_enterDeckState d _ _ (by exact fun _ => DeckEngine.loaded_zeroLawful _ _ _)).deckTold d).settleRoles s

/-! ## The yard loop -/

theorem KeepsLaws.slotAlive (h : KeepsLaws s₀ s) (n : StationId) : KeepsLaws s₀ (s.slotAlive n) := by
  unfold State.slotAlive
  split
  · exact (h.updateSlot n _).stationAlive n
  · exact h

theorem KeepsLaws.slotSilent (h : KeepsLaws s₀ s) (n : StationId) : KeepsLaws s₀ (s.slotSilent n) := by
  unfold State.slotSilent
  split
  · exact (h.updateSlot n _).stationSilent n
  · exact h

theorem KeepsLaws.takeCode (h : KeepsLaws s₀ s) (n : StationId) (c : Code) : KeepsLaws s₀ (s.takeCode n c) := by
  unfold State.takeCode
  extract_lets x takes taken
  have kept : KeepsLaws s₀ taken := h.setSlot n _ (by exact id) (by exact id)
  split
  · exact (kept.judgeCode n c).handOn n _ c
  · exact kept

theorem KeepsLaws.handGroup (h : KeepsLaws s₀ s) (n : StationId) (g : Option SampleGroup) :
    KeepsLaws s₀ (s.handGroup n g) := by
  unfold State.handGroup
  split
  · exact (h.deckGroup _ _).deckTold _
  · exact h

theorem KeepsLaws.goodSlot (h : KeepsLaws s₀ s) (n : StationId) (r : UpRecord) : KeepsLaws s₀ (s.goodSlot n r) :=
  (((((((h.takeCode n r.code).updateSlot n _).receiveFrame n _).sendFrame n _).handGroup n _).updateSlot n _).slotAlive n)

theorem KeepsLaws.badSlot (h : KeepsLaws s₀ s) (n : StationId) : KeepsLaws s₀ (s.badSlot n) :=
  (((h.updateSlot n _).receiveFrame n _).sendFrame n _).slotSilent n

theorem KeepsLaws.judgedSlot (h : KeepsLaws s₀ s) (n : StationId) (o : SlotOutcome) : KeepsLaws s₀ (s.judgedSlot n o) := by
  unfold State.judgedSlot
  have judged := h.updateSlot n fun x => { x with awaited := false }
  cases o with
  | good r => exact judged.goodSlot n r
  | missing => exact judged.badSlot n
  | bad => exact judged.badSlot n

theorem KeepsLaws.upstreamSlot (h : KeepsLaws s₀ s) (n : StationId) (arrived : List Byte) :
    KeepsLaws s₀ (s.upstreamSlot n arrived) := by
  unfold State.upstreamSlot
  split
  · exact h
  · split
    · exact h.judgedSlot n _
    · exact h

/-- The counters of an accounted slot stop at 255 (R149, R150). -/
theorem LoopSlot.accounted_le (x : LoopSlot) :
    (x.near ≤ 255 → x.accounted.near ≤ 255) ∧ (x.far ≤ 255 → x.accounted.far ≤ 255) := by
  constructor <;> intro le <;> unfold LoopSlot.accounted <;> dsimp only <;> split
  · exact countUp_le _ _
  · exact le
  · exact countUp_le _ _
  · exact le

theorem KeepsLaws.accountSlot (h : KeepsLaws s₀ s) (n : StationId) : KeepsLaws s₀ (s.accountSlot n) := by
  unfold State.accountSlot
  obtain ⟨near, far⟩ := (s.slot n).accounted_le
  dsimp only
  split
  · exact ((h.setSlot n _ (by exact near) (by exact far)).updateStation n _).post _
  · exact h.setSlot n _ near far

/-- The numbers of the loop may change within their ranges. -/
theorem KeepsLaws.setSuperframe (h : KeepsLaws s₀ s) (count : Nat) (superframeDue periodDue : Bool)
    (below : count < Config.period) :
    KeepsLaws s₀ { s with periodCount := count, superframeDue := superframeDue, periodDue := periodDue } :=
  h.trans ⟨⟨id, id, id, fun ⟨next, inHand, _, clock⟩ => ⟨next, inHand, below, clock⟩, id, id, id⟩, id⟩

theorem Config.period_pos : 0 < Config.period := by norm_num

theorem KeepsLaws.superframeEnd (h : KeepsLaws s₀ s) : KeepsLaws s₀ s.superframeEnd := by
  unfold State.superframeEnd
  split
  · have accounted := h.forEach allStations (fun n t => t.accountSlot n) fun n _ _ ht => ht.accountSlot n
    dsimp only
    split
    next below => exact accounted.setSuperframe _ _ _ below
    next => exact accounted.setSuperframe 0 _ _ Config.period_pos
  · exact h

theorem KeepsLaws.judgePeriod (h : KeepsLaws s₀ s) (n : StationId) : KeepsLaws s₀ (s.judgePeriod n) := by
  unfold State.judgePeriod
  dsimp only
  split
  · exact (h.setSlot n _ (by exact id) (by exact id)).post _
  · exact h.setSlot n _ id id

theorem KeepsLaws.setPeriodDue (h : KeepsLaws s₀ s) (due : Bool) : KeepsLaws s₀ { s with periodDue := due } :=
  h.trans ⟨⟨id, id, id, id, id, id, id⟩, id⟩

theorem KeepsLaws.periodEnd (h : KeepsLaws s₀ s) : KeepsLaws s₀ s.periodEnd := by
  unfold State.periodEnd
  split
  · exact (h.forEach allStations (fun n t => t.judgePeriod n) fun n _ _ ht => ht.judgePeriod n).setPeriodDue false
  · exact h

/-- The yard clock may take any value whose seconds are in range. -/
theorem KeepsLaws.setClock (h : KeepsLaws s₀ s) (c : YardClock)
    (inRange : s.clock.seconds ≤ Config.wordTop → c.seconds ≤ Config.wordTop) : KeepsLaws s₀ { s with clock := c } :=
  h.trans ⟨⟨id, id, id, fun ⟨next, inHand, count, clock⟩ => ⟨next, inHand, count, inRange clock⟩, id, id, id⟩, id⟩

theorem YardClock.secondEnds_le (c : YardClock) (le : c.seconds ≤ Config.wordTop) :
    c.secondEnds.seconds ≤ Config.wordTop := by
  unfold YardClock.secondEnds
  split
  · dsimp only
    split <;> omega
  · exact le

theorem KeepsLaws.secondEnds (h : KeepsLaws s₀ s) : KeepsLaws s₀ { s with clock := s.clock.secondEnds } :=
  h.setClock _ s.clock.secondEnds_le

theorem KeepsLaws.restAttempt (h : KeepsLaws s₀ s) (d : DeckId) : KeepsLaws s₀ (s.restAttempt d) := by
  unfold State.restAttempt
  split
  · exact (h.attemptRest d).deckTold d
  · exact h

theorem KeepsLaws.missSlots (h : KeepsLaws s₀ s) : KeepsLaws s₀ s.missSlots := by
  unfold State.missSlots
  split
  · exact h
  · exact h.forEach _ _ fun n _ t ht => by
      split
      · exact ht.judgedSlot n _
      · exact ht

/-- A stored-tare update changes records of the vehicle table in their places (R46). -/
theorem KeepsLaws.updateTare (h : KeepsLaws s₀ s) : KeepsLaws s₀ s.updateTare := by
  unfold State.updateTare
  split
  · exact h
  · refine h.trans ⟨⟨id, id, id, id, id, id, fun ⟨visits, vehicles, queues⟩ => ⟨visits, ?_, queues⟩⟩, id⟩
    simpa [applyTareUpdate] using vehicles

theorem KeepsLaws.stationDue (h : KeepsLaws s₀ s) (n : StationId) : KeepsLaws s₀ (s.stationDue n) :=
  ((((h.receiveEnds n).unitTimerEnds n).gapEnds n).windowEnds n).motionExpires n

theorem KeepsLaws.laneDue (h : KeepsLaws s₀ s) (l : LaneId) : KeepsLaws s₀ (s.laneDue l) :=
  ((((h.identWaitEnds l).referralEnds l).entryEnds l).weighEnds l).endOutcomeWait l

theorem KeepsLaws.settleDue (h : KeepsLaws s₀ s) : KeepsLaws s₀ s.settleDue := by
  unfold State.settleDue
  have ended := h.takeResets.missSlots.superframeEnd.periodEnd.secondEnds
  have timed := ((ended.forEach allStations (fun n t => t.stationDue n) fun n _ _ ht => ht.stationDue n).forEach allLanes
    (fun l t => t.laneDue l) fun l _ _ ht => ht.laneDue l).forEach allDecks (fun d t => t.restAttempt d)
      fun d _ _ ht => ht.restAttempt d
  exact (timed.forEach _ (fun _ t => t.updateTare) fun _ _ _ ht => ht.updateTare).forEach allStations
    (fun n t => t.sendStarts n) fun n _ _ ht => ht.sendStarts n

/-- A frame that passes counts in every timer; no law speaks of how far a timer has run. -/
theorem KeepsLaws.framePassed (h : KeepsLaws s₀ s) : KeepsLaws s₀ s.framePassed := by
  have slot (n : StationId) : s.framePassed.slot n = (s.slot n).framed s.nextFrame := by
    simp [State.framePassed, State.slot]
  have barrier (n : StationId) : s.framePassed.barrier n = (s.barrier n).map BarrierRecord.ticked := by
    simp [State.framePassed, State.barrier]
  have deck (d : DeckId) : s.framePassed.deck d = (s.deck d).ticked := by simp [State.framePassed, State.deck]
  have lane (l : LaneId) : s.framePassed.lane l = (s.lane l).ticked := by simp [State.framePassed, State.lane]
  have queue (l : LaneId) : s.framePassed.queue l = (s.queue l).ticked := by simp [State.framePassed, State.queue]
  have jobs (q : TicketQueue) : q.ticked.jobs = q.jobs := by
    unfold TicketQueue.ticked
    split <;> rfl
  have clock : s.framePassed.clock.seconds = s.clock.seconds := by
    simp only [State.framePassed, YardClock.frameSent]
    split <;> rfl
  refine h.trans ⟨⟨fun law n c hc => ?_, fun law d => ?_, id, fun law => ?_, fun law => ⟨fun n => ?_, fun n c hc => ?_⟩, id,
    fun law => ⟨law.1, law.2.1, fun l => ?_⟩⟩, fun law => ?_⟩
  · rw [barrier] at hc
    obtain ⟨b, hb, rfl⟩ := Option.map_eq_some_iff.1 hc
    exact law n b hb
  · rw [deck]
    exact law d
  · obtain ⟨next, inHand, count, seconds⟩ := law
    refine ⟨Nat.mod_lt _ (by decide), fun f hf => ?_, count, clock ▸ seconds⟩
    obtain rfl := Option.some.inj hf
    exact next
  · rw [slot]
    exact law.1 n
  · rw [barrier] at hc
    obtain ⟨b, hb, rfl⟩ := Option.map_eq_some_iff.1 hc
    exact law.2 n b hb
  · rw [queue, jobs]
    exact law.2.2 l
  · refine (State.holdLaw_iff _).2 ⟨law.claims.congr (fun _ => rfl) (fun m => by rw [lane]; rfl) fun _ => rfl, fun l => ?_⟩
    rw [lane]
    obtain ⟨waits, holds, drives, times⟩ := law.lanes l
    refine ⟨waits, holds, drives, ?_⟩
    rw [LaneContext.timerLawful] at times ⊢
    simp only [LaneContext.ticked, Option.all_map]
    exact times

theorem KeepsLaws.downstreamFrame (h : KeepsLaws s₀ s) : KeepsLaws s₀ s.downstreamFrame := h.settleDue.framePassed

/-! ## The office line -/

theorem KeepsLaws.setReceiver (h : KeepsLaws s₀ s) (x : Option (List Byte)) : KeepsLaws s₀ { s with receiver := x } :=
  h.trans ⟨⟨id, id, id, id, id, id, id⟩, id⟩

theorem KeepsLaws.arrive (h : KeepsLaws s₀ s) (kind : RequestKind) (tag : Byte) (body : List Byte) :
    KeepsLaws s₀ (s.arrive kind tag body) := by
  unfold State.arrive
  split
  next room =>
    refine h.trans ⟨⟨id, id, id, id, id, fun ⟨reports, _, others⟩ => ⟨reports, ?_, others⟩, id⟩, id⟩
    simpa using room
  next =>
    split
    next room =>
      refine h.trans ⟨⟨id, id, id, id, id, fun ⟨reports, buffer, _, dropped⟩ => ⟨reports, buffer, ?_, dropped⟩, id⟩, id⟩
      simpa using room
    next => exact h

theorem KeepsLaws.receiveByte (h : KeepsLaws s₀ s) (b : Byte) : KeepsLaws s₀ (s.receiveByte b) := by
  unfold State.receiveByte
  dsimp only
  repeat' split
  all_goals first
    | exact h
    | exact h.setReceiver _
    | exact (h.setReceiver _).arrive _ _ _

theorem KeepsLaws.transmitStart (h : KeepsLaws s₀ s) : KeepsLaws s₀ s.transmitStart := by
  unfold State.transmitStart
  split
  next f _ _ =>
    unfold State.startFrame
    cases f with
    | report r overrun dropped =>
      exact h.trans ⟨⟨id, id, id, id, id, fun ⟨reports, buffer, refusals, _⟩ => ⟨reports, buffer, refusals, Nat.zero_le _⟩,
        id⟩, id⟩
    | refusal tag name => exact h.trans ⟨⟨id, id, id, id, id, id, id⟩, id⟩
    | reply tag name reply => exact h.trans ⟨⟨id, id, id, id, id, id, id⟩, id⟩
  next => exact h

/-- A list that loses its head is no longer than it was. -/
theorem length_tail_le_of_le {α : Type} {xs : List α} {n : Nat} (le : xs.length ≤ n) : xs.tail.length ≤ n := by
  rw [List.length_tail]
  omega

theorem KeepsLaws.frameSent (h : KeepsLaws s₀ s) : KeepsLaws s₀ s.frameSent := by
  unfold State.frameSent
  split
  · exact h
  · exact h.trans ⟨⟨id, id, id, id, id, fun ⟨reports, buffer, refusals, dropped⟩ =>
      ⟨reports, buffer, length_tail_le_of_le refusals, dropped⟩, id⟩, id⟩
  · exact h.trans ⟨⟨id, id, id, id, id, fun ⟨reports, buffer, others⟩ => ⟨reports, length_tail_le_of_le buffer, others⟩,
      id⟩, id⟩
  · exact h.trans ⟨⟨id, id, id, id, id, fun ⟨reports, others⟩ => ⟨length_tail_le_of_le reports, others⟩, id⟩, id⟩

theorem KeepsLaws.answerUnknown (h : KeepsLaws s₀ s) : KeepsLaws s₀ s.answerUnknown := by
  unfold State.answerUnknown
  split
  · exact h.giveReply _
  · exact h

theorem KeepsLaws.resetOffice (h : KeepsLaws s₀ s) : KeepsLaws s₀ s.resetOffice := by
  refine h.trans ⟨⟨id, id, id, id, id, fun ⟨_, buffer, refusals, _⟩ => ⟨?_, buffer, refusals, Nat.zero_le _⟩, id⟩, id⟩
  simp only [State.resetOffice, State.reportsKept]
  split
  · rw [List.length_take]
    omega
  · exact Nat.zero_le _

/-! ## Office requests, by their owners -/

/-- A request handled by an owner that keeps the laws keeps them. -/
theorem KeepsLaws.serve (h : KeepsLaws s₀ s) (number : Nat) (f : State → State × Reply) (keeps : KeepsLaws s₀ (f s).1) :
    KeepsLaws s₀ (s.serve number f) := by
  unfold State.serve
  split
  · exact keeps.giveReply _
  · exact h

theorem KeepsLaws.withBody {α : Type} (h : KeepsLaws s₀ s) (b : Body α) (f : α → State → State × Reply)
    (fits : ∀ a, KeepsLaws s₀ (f a s).1) : KeepsLaws s₀ (withBody b f s).1 := by
  cases b with
  | misfit => exact h
  | fits a => exact fits a

theorem KeepsLaws.serveBody {α : Type} (h : KeepsLaws s₀ s) (number : Nat) (b : Body α) (f : α → State → State × Reply)
    (fits : ∀ a, KeepsLaws s₀ (f a s).1) : KeepsLaws s₀ (s.serve number (Machine.withBody b f)) :=
  h.serve number _ (h.withBody b f fits)

end

end Sys2Proof.Machine

/-! PROOFS. The laws that every step keeps: the reset state, the office requests, and every command. -/

namespace Sys2Proof.Machine

/-! ## The state after reset meets every law -/

section
variable (n : StationId) (d : DeckId) (l : LaneId)

@[simp] theorem reset_slot : State.reset.slot n = LoopSlot.reset := by simp [State.slot, State.reset]

@[simp] theorem reset_station : State.reset.station n = Station.reset := by simp [State.station, State.reset]

@[simp] theorem reset_barrier : State.reset.barrier n = none := by simp [State.barrier, State.reset]

@[simp] theorem reset_deck : State.reset.deck d = DeckEngine.reset d := by
  fin_cases d <;> rfl

@[simp] theorem reset_arbiter : State.reset.arbiter d = { holder := none, claims := [] } := by
  simp [State.arbiter, State.reset]

@[simp] theorem reset_lane : State.reset.lane l = LaneContext.reset := by simp [State.lane, State.reset]

@[simp] theorem reset_laneRecord : State.reset.laneRecord l = none := by simp [State.laneRecord, State.reset]

@[simp] theorem reset_queue : State.reset.queue l = { jobs := [], phase := .waiting } := by
  simp [State.queue, State.reset]

end

theorem reset_interlockLaw : State.reset.InterlockLaw := by simp [State.InterlockLaw]

theorem reset_zeroLaw : State.reset.ZeroLaw := by simp [State.ZeroLaw, DeckEngine.zeroLawful, DeckEngine.reset]

theorem reset_visitLaw : State.reset.VisitLaw := by simp [State.VisitLaw, State.reset]

theorem reset_frameLaw : State.reset.FrameLaw := by simp [State.FrameLaw, State.reset, Config.period, Config.wordTop]

theorem reset_counterLaw : State.reset.CounterLaw := by simp [State.CounterLaw, LoopSlot.reset]

theorem reset_officeLaw : State.reset.OfficeLaw := by simp [State.OfficeLaw, State.reset]

theorem reset_tableLaw : State.reset.TableLaw := by
  refine ⟨Nat.zero_le _, Nat.zero_le _, fun l => ?_⟩
  rw [reset_queue]
  exact Nat.zero_le _

theorem reset_holdLaw : State.reset.HoldLaw := by
  simp [State.HoldLaw, LaneContext.reset, LaneContext.onDeck, LaneContext.timerLawful]

theorem KeepsLaws.powerOn (s : State) (rate1 rate0 : Bool) : KeepsLaws s (s.powerOn rate1 rate0) :=
  ⟨⟨fun _ => reset_interlockLaw, fun _ => reset_zeroLaw, fun _ => reset_visitLaw, fun _ => reset_frameLaw,
    fun _ => reset_counterLaw, fun _ => reset_officeLaw, fun _ => reset_tableLaw⟩, fun _ => reset_holdLaw⟩

/-! ## What a request names -/

theorem State.referredLane_some {s : State} {lane : Nat} {l : LaneId} {r : LaneRecord} {reason : ReferralReason}
    (named : s.referredLane lane = some (l, r, reason)) :
    (s.lane l).state = .referred ∧ (s.lane l).reason = some reason := by
  unfold State.referredLane at named
  split at named
  · cases named
  · split at named
    next hr =>
      split at named
      next referred =>
        cases named
        exact ⟨referred, hr⟩
      next => cases named
    · cases named

theorem State.namedBarrier_some {s : State} {station : Nat} {n : StationId} {b : BarrierRecord}
    (named : s.namedBarrier station = some (n, b)) : s.barrier n = some b := by
  unfold State.namedBarrier at named
  split at named
  · cases named
  · obtain ⟨c, hc, same⟩ := Option.map_eq_some_iff.1 named
    cases same
    exact hc

/-! ## Office requests -/

section
variable {s₀ s : State}

/-- A vehicle table within its capacity may replace the one that stands. -/
theorem KeepsLaws.setVehicles (h : KeepsLaws s₀ s) (xs : List VehicleRecord)
    (short : s.vehicles.length ≤ 1024 → xs.length ≤ 1024) : KeepsLaws s₀ { s with vehicles := xs } :=
  h.trans ⟨⟨id, id, id, id, id, id, fun ⟨visits, vehicles, queues⟩ => ⟨visits, short vehicles, queues⟩⟩, id⟩

/-- A record put into the table replaces that of its ident or takes one place more. -/
theorem putVehicle_length (v : VehicleRecord) (xs : List VehicleRecord) :
    (putVehicle v xs).length = if xs.any fun x => x.ident == v.ident then xs.length else xs.length + 1 := by
  unfold putVehicle
  split <;> simp

theorem KeepsLaws.loadVehicle (h : KeepsLaws s₀ s) (v : VehicleLoad) : KeepsLaws s₀ (loadVehicle v s).1 := by
  unfold Machine.loadVehicle
  split
  · exact h
  next r _ =>
    split
    · exact h
    next room =>
      refine h.setVehicles _ fun short => ?_
      rw [putVehicle_length]
      split
      · exact short
      next absent =>
        have missing : (s.lookup r.ident).isNone = true := by
          simpa [State.lookup] using absent
        exact Nat.lt_of_not_le fun full => room ⟨missing, full⟩

theorem KeepsLaws.dropVehicle (h : KeepsLaws s₀ s) (t : Text) : KeepsLaws s₀ (dropVehicle t s).1 := by
  unfold Machine.dropVehicle
  split
  · exact h
  · exact h.setVehicles _ fun short => (List.length_filter_le _ _).trans short

theorem KeepsLaws.readVehicle (h : KeepsLaws s₀ s) (t : Text) : KeepsLaws s₀ (readVehicle t s).1 := by
  unfold Machine.readVehicle
  split <;> exact h

theorem KeepsLaws.setCategory (h : KeepsLaws s₀ s) (c : CategoryNo) (x : CategoryRecord) :
    KeepsLaws s₀ (s.setCategory c x) :=
  h.trans ⟨⟨id, id, id, id, id, id, id⟩, id⟩

theorem KeepsLaws.loadCategory (h : KeepsLaws s₀ s) (v : CategoryLoad) : KeepsLaws s₀ (loadCategory v s).1 := by
  unfold Machine.loadCategory
  split
  · split
    · exact h.setCategory _ _
    · exact h
  · exact h

theorem KeepsLaws.loadLane (h : KeepsLaws s₀ s) (v : LaneLoadRequest) : KeepsLaws s₀ (loadLane v s).1 := by
  unfold Machine.loadLane
  split
  next l r _ _ =>
    split
    · exact h
    next closed =>
      have stored := h.storeLane l r (not_not.1 closed)
      rw [accept_eq]
      split
      · exact h
      · exact stored
  · exact h

theorem KeepsLaws.enableLane (h : KeepsLaws s₀ s) (lane : Nat) : KeepsLaws s₀ (enableLane lane s).1 := by
  unfold Machine.enableLane
  split
  · exact h
  · split
    · exact h
    · split
      · exact h
      · exact h.enterRecover _ _

theorem KeepsLaws.disableLane (h : KeepsLaws s₀ s) (lane : Nat) : KeepsLaws s₀ (disableLane lane s).1 := by
  unfold Machine.disableLane
  split
  · exact h
  · split
    · exact h
    next record =>
      split
      · exact h.closeLane _ _ record
      · exact h

theorem KeepsLaws.resumeLane (h : KeepsLaws s₀ s) (lane : Nat) : KeepsLaws s₀ (resumeLane lane s).1 := by
  unfold Machine.resumeLane
  split
  · exact h
  · split
    · exact h
    · split
      · exact h
      · split
        · exact h
        · exact h.enterRecover _ _

theorem KeepsLaws.admitLane (h : KeepsLaws s₀ s) (v : AdmitLoad) : KeepsLaws s₀ (admitLane v s).1 := by
  unfold Machine.admitLane
  split
  · exact h
  · split
    next hreason =>
      split
      · exact h
      next admits =>
        split
        · exact h
        · rw [not_or, not_not, not_or, not_not] at admits
          obtain ⟨referred, before, _⟩ := admits
          exact h.admitGoesOn _ _ _ _ (h.not_held (LaneContext.mayHold_of_before referred (by rw [hreason]; exact before)))
    · exact h

theorem KeepsLaws.refuseLane (h : KeepsLaws s₀ s) (lane : Nat) : KeepsLaws s₀ (refuseLane lane s).1 := by
  unfold Machine.refuseLane
  split
  · exact h
  next named =>
    obtain ⟨referred, hreason⟩ := State.referredLane_some named
    split
    next before =>
      exact h.enterOff _ _ _ none rfl
        (h.not_held (LaneContext.mayHold_of_before referred (by rw [hreason]; exact before)))
    · exact h

theorem KeepsLaws.releaseEntry (h : KeepsLaws s₀ s) (l : LaneId) (held : s₀.HoldLaw → (s.lane l).claim = .held) :
    KeepsLaws s₀ (s.releaseEntry l) :=
  (h.enterOn l .entering _ none rfl held).beginClosing l

theorem KeepsLaws.releaseLane (h : KeepsLaws s₀ s) (lane : Nat) : KeepsLaws s₀ (releaseLane lane s).1 := by
  unfold Machine.releaseLane
  split
  · exact h
  next l r reason named =>
    obtain ⟨referred, hreason⟩ := State.referredLane_some named
    have held (after : reason.beforeEntry = false) := h.held (LaneContext.onDeck_of_after referred hreason after)
    cases reason with
    | entryIncomplete => exact h.releaseEntry l (held rfl)
    | noStable => exact h.releaseUnweighed l (held rfl)
    | inspect => exact h.resumeCapture l r _ (held rfl)
    | negativeNet =>
      exact (h.updateLane l _).resumeCapture l r _ fun law => by
        rw [State.lane_updateLane, if_pos rfl]
        exact held rfl law
    | tareMismatch => exact h.resumeCapture l r _ (held rfl)
    | noTicketNumber =>
      dsimp only
      split
      · exact h
      · exact h.resumeCapture l r _ (held rfl)
    | noIdent | unknown | status | alreadyInYard | category | yardFull | notInYard | deckFault => exact h

theorem KeepsLaws.retryLane (h : KeepsLaws s₀ s) (lane : Nat) : KeepsLaws s₀ (retryLane lane s).1 := by
  unfold Machine.retryLane
  split
  · exact h
  next named =>
    obtain ⟨referred, hreason⟩ := State.referredLane_some named
    split
    next noStable =>
      subst noStable
      exact h.enterWeighing _ _ (h.held (LaneContext.onDeck_of_after referred hreason rfl))
    · exact h

theorem KeepsLaws.loadDeck (h : KeepsLaws s₀ s) (v : DeckLoadRequest) : KeepsLaws s₀ (loadDeck v s).1 := by
  unfold Machine.loadDeck
  split
  · split
    · exact h
    · split
      · exact h
      · exact h.storeDeck _ _
  · exact h

/-- ZERO_DECK takes the average as T within the bound of R24 alone (R32). -/
theorem KeepsLaws.zeroDeck (h : KeepsLaws s₀ s) (deck : Nat) : KeepsLaws s₀ (zeroDeck deck s).1 := by
  unfold Machine.zeroDeck
  split
  · exact h
  next d _ =>
    dsimp only
    split
    next r z record zeros =>
      repeat' split
      · exact h
      · exact h
      · exact h
      next near =>
        refine h.setDeck d _ fun law r' z' hr hz => ?_
        rw [Bool.not_eq_true, Bool.not_eq_false', within_iff] at near
        obtain rfl : r = r' := Option.some.inj (record.symm.trans hr)
        cases hz
        exact ⟨near, (law d r z record zeros).2⟩
    · exact h

theorem KeepsLaws.restDeck (h : KeepsLaws s₀ s) (deck : Nat) : KeepsLaws s₀ (restDeck deck s).1 := by
  unfold Machine.restDeck
  split
  · exact h
  · split <;> exact h.attemptRest _

theorem KeepsLaws.wakeDeck (h : KeepsLaws s₀ s) (deck : Nat) : KeepsLaws s₀ (wakeDeck deck s).1 := by
  unfold Machine.wakeDeck
  split
  · exact h
  · split
    · exact h.wakeDeckEvent _
    · exact h.wakeDeckEvent _
    · exact h.enterDeckState _ _
    all_goals exact h

theorem KeepsLaws.streamDeck (h : KeepsLaws s₀ s) (v : StreamLoad) : KeepsLaws s₀ (streamDeck v s).1 := by
  unfold Machine.streamDeck
  split
  · exact h
  · split
    · exact h
    · exact h.setDeck _ _ fun law => law _

theorem KeepsLaws.readDeck (h : KeepsLaws s₀ s) (deck : Nat) : KeepsLaws s₀ (readDeck deck s).1 := by
  unfold Machine.readDeck
  split <;> exact h

theorem KeepsLaws.setTicketBase (h : KeepsLaws s₀ s) (base : Nat) : KeepsLaws s₀ (setTicketBase base s).1 := by
  unfold Machine.setTicketBase
  split
  · exact h.setCounter _
  · exact h

theorem KeepsLaws.readVisit (h : KeepsLaws s₀ s) (sel : Selector) : KeepsLaws s₀ (readVisit sel s).1 := by
  unfold Machine.readVisit
  split
  · exact h
  · dsimp only
    split <;> exact h

theorem KeepsLaws.nextClosed (h : KeepsLaws s₀ s) : KeepsLaws s₀ (nextClosed s).1 := by
  unfold Machine.nextClosed
  split
  · exact h
  · split <;> exact h

theorem KeepsLaws.clearVisit (h : KeepsLaws s₀ s) (sel : Selector) : KeepsLaws s₀ (clearVisit sel s).1 := by
  unfold Machine.clearVisit
  split
  · exact h
  · split
    · exact h
    · exact h.filterVisits _

theorem KeepsLaws.forceClose (h : KeepsLaws s₀ s) (sel : Selector) : KeepsLaws s₀ (forceClose sel s).1 := by
  unfold Machine.forceClose
  split
  · exact h
  · split
    · exact h
    · split
      · split
        · exact h
        · exact h.forceVisit _
      · exact h

theorem KeepsLaws.barrierOrder (h : KeepsLaws s₀ s) (v : OrderLoad) : KeepsLaws s₀ (barrierOrder v s).1 := by
  unfold Machine.barrierOrder
  split
  · exact h
  next named =>
    split
    · exact h
    all_goals exact h.dealOrder (State.namedBarrier_some named) _

theorem KeepsLaws.setBarrierMode (h : KeepsLaws s₀ s) (v : ModeLoad) : KeepsLaws s₀ (setBarrierMode v s).1 := by
  unfold Machine.setBarrierMode
  split
  · exact h
  next n b named =>
    extract_lets staged edge t u
    have moded : KeepsLaws s₀ t := h.setBarrierOf (State.namedBarrier_some named) (by exact ⟨id, id⟩)
    have discarded : KeepsLaws s₀ u := by
      unfold u
      split
      · exact moded.postBarrier n _
      · exact moded
    exact discarded

theorem KeepsLaws.releaseStaged (h : KeepsLaws s₀ s) (station : Nat) : KeepsLaws s₀ (releaseStaged station s).1 := by
  unfold Machine.releaseStaged
  split
  · exact h
  next named =>
    split
    · exact h
    · split
      · exact h
      · split <;> exact h.orderDue (State.namedBarrier_some named) _

theorem KeepsLaws.groupOrder (h : KeepsLaws s₀ s) (v : GroupLoad) : KeepsLaws s₀ (groupOrder v s).1 := by
  unfold Machine.groupOrder
  split
  · exact h
  · exact h.forEach _ _ fun n _ _ ht => ht.groupStep n _

theorem KeepsLaws.readStation (h : KeepsLaws s₀ s) (v : StationLoad) : KeepsLaws s₀ (readStation v s).1 := by
  unfold Machine.readStation
  split
  · exact h
  · split
    · exact h
    · exact h.clearStation _ _

theorem KeepsLaws.loadClock (h : KeepsLaws s₀ s) (seconds : Nat) : KeepsLaws s₀ (Machine.setClock seconds s).1 := by
  unfold Machine.setClock
  split
  next small => exact h.setClock _ fun _ => small
  next => exact h

theorem KeepsLaws.yardReset (h : KeepsLaws s₀ s) : KeepsLaws s₀ (yardReset s).1 := by
  unfold Machine.yardReset
  split
  · exact h.resetOffice
  · exact h

theorem KeepsLaws.identify (h : KeepsLaws s₀ s) : KeepsLaws s₀ (identify s).1 := by
  unfold Machine.identify
  split <;> exact h

theorem KeepsLaws.forward (h : KeepsLaws s₀ s) (v : ForwardLoad) : KeepsLaws s₀ (forward v s).1 := by
  unfold Machine.forward
  split
  · exact h
  · repeat' split
    · exact h
    · exact h
    · exact h
    · exact h
    · exact h.updateStation _ fun x => { x with forward := some v.text }

/-! ## Every command -/

theorem KeepsLaws.setPending (h : KeepsLaws s₀ s) (rest : List Instr) : KeepsLaws s₀ { s with pending := rest } :=
  h.trans ⟨⟨id, id, id, id, id, id, id⟩, id⟩

end

/-- No command breaks a law of the device. -/
theorem exec_keepsLaws {i : Instr} {s t : State} (run : exec i s = .next t) : KeepsLaws s t := by
  have h := KeepsLaws.refl s
  cases i <;> obtain rfl := Host.Outcome.next.inj run
  case powerOnReset => exact .powerOn s _ _
  case downstreamFrame => exact h.downstreamFrame
  case clockSecond => exact h.secondEnds
  case upstreamSlot => exact h.upstreamSlot _ _
  case slotAlive => exact h.slotAlive _
  case slotSilent => exact h.slotSilent _
  case superframeEnd => exact h.superframeEnd
  case periodEnd => exact h.periodEnd
  case transitSpanEnd =>
    split
    · exact (h.endSpan _).deckTold _
    · exact h
  case readingStream => exact h.postStream _
  case zeroFail =>
    split
    · exact (h.failZero _).deckTold _
    · exact h
  case trackingStep =>
    split
    · exact h
    next record =>
      split
      · exact h.trackZero _ _ record
      · exact h
  case wakingComplete =>
    split
    · exact (h.completeWaking _).deckTold _
    · exact h
  case restAttempt => exact h.restAttempt _
  case identWaitExpiry => exact h.identWaitEnds _
  case referralTimeout => exact h.referralEnds _
  case entryTimeout => exact h.entryEnds _
  case weighTimeout => exact h.weighEnds _
  case identRead => exact h.deliver _ _ _ _ _ _ (fun _ ht => ht) fun _ _ ht => ht.identArrives _ _
  case deckGrant => exact h.grantDeck _
  case keyEntry => exact h.deliver _ _ _ _ _ _ (fun _ ht => ht) fun _ _ ht => ht.keyArrives _ _
  case storedTareUpdate => exact h.updateTare
  case motionTimeout => exact h.motionExpires _
  case receiveStale => exact h.receiveEnds _
  case stationNote => exact h.deliver _ _ _ _ _ _ (fun _ ht => ht) fun _ _ ht => ht.post _
  case sendStart => exact h.sendStarts _
  case unitTimerExpiry => exact h.unitTimerEnds _
  case gapEnd => exact h.gapEnds _
  case enrolPage => exact h.deliver _ _ _ _ _ _ (fun _ ht => ht.malformedPage _) fun _ _ ht => ht.pageArrives _ _
  case enrolWindowExpiry => exact h.windowEnds _
  case printOutcome => exact h.deliver _ _ _ _ _ _ (fun _ ht => ht) fun _ _ ht => ht.printReported _ _
  case outcomeWaitExpiry => exact h.endOutcomeWait _
  case officeFrame => exact h.forEach _ _ fun b _ _ ht => ht.receiveByte b
  case officeByteGap => exact h.setReceiver none
  case unknownRequest => exact h.answerUnknown
  case transmitStart => exact h.transmitStart
  case officeFrameSent => exact h.frameSent
  case loadVehicle => exact h.serveBody _ _ _ h.loadVehicle
  case dropVehicle => exact h.serveBody _ _ _ h.dropVehicle
  case readVehicle => exact h.serveBody _ _ _ h.readVehicle
  case loadCategory => exact h.serveBody _ _ _ h.loadCategory
  case loadLane => exact h.serveBody _ _ _ h.loadLane
  case enableLane => exact h.serveBody _ _ _ h.enableLane
  case disableLane => exact h.serveBody _ _ _ h.disableLane
  case resumeLane => exact h.serveBody _ _ _ h.resumeLane
  case admitLane => exact h.serveBody _ _ _ h.admitLane
  case refuseLane => exact h.serveBody _ _ _ h.refuseLane
  case releaseLane => exact h.serveBody _ _ _ h.releaseLane
  case retryLane => exact h.serveBody _ _ _ h.retryLane
  case loadDeck => exact h.serveBody _ _ _ h.loadDeck
  case zeroDeck => exact h.serveBody _ _ _ h.zeroDeck
  case restDeck => exact h.serveBody _ _ _ h.restDeck
  case wakeDeck => exact h.serveBody _ _ _ h.wakeDeck
  case streamDeck => exact h.serveBody _ _ _ h.streamDeck
  case readDeck => exact h.serveBody _ _ _ h.readDeck
  case setTicketBase => exact h.serveBody _ _ _ h.setTicketBase
  case readVisit => exact h.serveBody _ _ _ h.readVisit
  case nextClosed => exact h.serve _ _ h.nextClosed
  case clearVisit => exact h.serveBody _ _ _ h.clearVisit
  case forceClose => exact h.serveBody _ _ _ h.forceClose
  case barrierOrder => exact h.serveBody _ _ _ h.barrierOrder
  case setBarrierMode => exact h.serveBody _ _ _ h.setBarrierMode
  case releaseStaged => exact h.serveBody _ _ _ h.releaseStaged
  case groupOrder => exact h.serveBody _ _ _ h.groupOrder
  case readStation => exact h.serveBody _ _ _ h.readStation
  case forward =>
    split
    · exact (h.withBody _ _ h.forward).giveReply _
    · exact h
  case setClock => exact h.serveBody _ _ _ h.loadClock
  case identify => exact h.serve _ _ h.identify
  case yardReset => exact h.serve _ _ h.yardReset
  case deckYardReset => exact h.deckYardReset _
  case laneYardReset => exact h.laneYardReset
  case visitYardReset => exact h.visitYardReset
  case barrierYardReset => exact h.barrierYardReset
  case ticketYardReset => exact h.ticketYardReset

theorem step_keepsLaws {s t : State} (run : step s = .next t) : KeepsLaws s t := by
  unfold step at run
  split at run
  · obtain rfl := Host.Outcome.next.inj run
    exact .refl s
  · exact ((KeepsLaws.refl s).setPending _).trans (exec_keepsLaws run)

end Sys2Proof.Machine

namespace Sys2Proof.Settled
open Machine

/-- Settles O56: no command breaks the interlock law, by the laws that every step keeps. -/
theorem interlockKept : Obligations.InterlockKept := fun _ _ law run => (step_keepsLaws run).interlock law

/-- Settles O57: no command breaks the zero law, by the laws that every step keeps. -/
theorem zeroLawKept : Obligations.ZeroLawKept := fun _ _ law run => (step_keepsLaws run).zero law

/-- Settles O58: no command breaks the visit law, by the laws that every step keeps. -/
theorem visitLawKept : Obligations.VisitLawKept := fun _ _ law run => (step_keepsLaws run).visit law

/-- Settles O59: no command breaks a bound, by the laws that every step keeps. -/
theorem boundsKept : Obligations.BoundsKept := fun _ _ frame counter office table run =>
  have keeps := step_keepsLaws run
  ⟨keeps.frame frame, keeps.counter counter, keeps.office office, keeps.table table⟩

/-- Settles O60: no command breaks the law of the deck hold, by the laws that every step keeps. -/
theorem holdLawKept : Obligations.HoldLawKept := fun _ _ law run => (step_keepsLaws run).hold law

end Sys2Proof.Settled

/-! PROOFS. The step, the reset state, and the office requests answered without a change. -/

namespace Sys2Proof.Machine

/-! ## Requests served with a known outcome -/

/-- A command that serves a request answers it with the outcome of its handling, when that keeps the buffer. -/
theorem exec_served {i : Instr} {s t : State} {k : Nat} {h : Request} {rest : List Request}
    {f : State → State × Reply} {code : ReplyCode} {data : ReplyData} (meaning : exec i s = .next (s.serve k f))
    (hd : s.HasHead k h rest) (outcome : f s = (t, { code := code, data := data })) (kept : t.buffer = s.buffer) :
    exec i s = .next (t.replied h rest code data) :=
  meaning.trans (congrArg Host.Outcome.next (State.serve_outcome hd outcome kept))

/-- A FORWARD at the head of the buffer, with no yard reset to be taken, is handled (R170). -/
theorem State.owesForward_head {s : State} {h : Request} {rest : List Request} (hd : s.HasForward h rest) :
    s.owesForward = true := by
  obtain ⟨buffer, kind, reply, due⟩ := hd
  simp [State.owesForward, State.resetsTaken, buffer, kind, reply, due]

/-- A FORWARD at the head of the buffer is answered with the outcome of its handling, when that keeps the buffer. -/
theorem exec_forward {s t : State} {h : Request} {rest : List Request} {b : Body ForwardLoad} {code : ReplyCode}
    {data : ReplyData} (hd : s.HasForward h rest) (outcome : withBody b forward s = (t, { code := code, data := data }))
    (kept : t.buffer = s.buffer) : exec (.forward b) s = .next (t.replied h rest code data) := by
  refine congrArg Host.Outcome.next ((if_pos (State.owesForward_head hd)).trans ?_)
  rw [outcome, State.giveReply_kept hd.1 kept]

/-- A request with no body but its number is refused when bytes follow it (R183). -/
theorem bareRefused {s : State} {h : Request} {rest : List Request} (buffer : s.buffer = h :: rest)
    (long : h.body.length ≠ 1) :
    nextClosed s = refuse s .bad ∧ yardReset s = refuse s .bad ∧ identify s = refuse s .bad := by
  have bare : s.headBodyBare = false := by rwa [← Bool.not_eq_true, State.headBodyBare_iff buffer]
  refine ⟨nextClosed_bad bare, ?_, ?_⟩
  · rw [yardReset, bare, if_neg Bool.false_ne_true]
  · rw [identify, bare, if_neg Bool.false_ne_true]

/-! ## WAKE-DECK (R39) -/

section
variable {s : State} {d : DeckId}

theorem wakeDeck_bad {m : Nat} (outside : m = 0 ∨ 4 < m) : wakeDeck m s = refuse s .bad := by
  simp only [wakeDeck, deckOf_none outside]

theorem wakeDeck_warmRest (rests : (s.deck d).state = .warmRest) :
    wakeDeck (d.val + 1) s = accept (s.enterDeckState d .waking) .none := by
  simp only [wakeDeck, deckOf_succ, rests, State.wakeDeckEvent]

/-- A deck in COLD-REST or FAULT captures its zero anew. -/
theorem wakeDeck_captures (rests : (s.deck d).state = .coldRest ∨ (s.deck d).state = .fault) :
    wakeDeck (d.val + 1) s = accept (s.enterDeckState d .capturing) .none := by
  rcases rests with cold | fault
  · simp only [wakeDeck, deckOf_succ, cold, State.wakeDeckEvent]
  · simp only [wakeDeck, deckOf_succ, fault]

theorem wakeDeck_awake (awake : (s.deck d).state = .capturing ∨ (s.deck d).state = .waking ∨ (s.deck d).state = .active) :
    wakeDeck (d.val + 1) s = accept s .none := by
  rcases awake with state | state | state <;> simp only [wakeDeck, deckOf_succ, state]

theorem wakeDeck_busy (idle : (s.deck d).state = .unconfigured ∨ (s.deck d).state = .waiting) :
    wakeDeck (d.val + 1) s = refuse s .busy := by
  rcases idle with state | state <;> simp only [wakeDeck, deckOf_succ, state]

end

end Sys2Proof.Machine

namespace Sys2Proof.Settled
open Machine

/-- Settles O1: the two cases of the queue in `step`. -/
theorem stepRunsFrontCommand : Obligations.StepRunsFrontCommand := by
  refine ⟨fun c rest s front => ?_, fun s idle => ?_⟩
  · rw [step, front]
  · rw [step, idle]

/-- Settles O2: each table of the reset state holds one value for all its members, and empty tables meet the laws. -/
theorem powerOnReset : Obligations.PowerOnReset := by
  refine ⟨fun _ => rfl, fun _ => rfl, fun _ => rfl, fun _ => rfl,
    fun n => ⟨reset_slot n, reset_station n, reset_barrier n⟩, fun d => ⟨reset_deck d, reset_arbiter d⟩,
    fun l => ⟨reset_lane l, reset_laneRecord l, reset_queue l⟩, reset_category, ?_⟩
  refine ⟨rfl, rfl, rfl, rfl, rfl, rfl, rfl, rfl, rfl, rfl, rfl, rfl, rfl, rfl, rfl, rfl, rfl, rfl, rfl, rfl, rfl, rfl, rfl,
    rfl, rfl, ?_⟩
  exact ⟨reset_interlockLaw, reset_zeroLaw, reset_visitLaw, reset_frameLaw, reset_counterLaw, reset_officeLaw,
    reset_tableLaw, reset_holdLaw⟩

/-- Settles O19: WAKE-DECK by the deck state, and no entry into a deck state touches the request buffer. -/
theorem wakeDeck : Obligations.WakeDeck := by
  intro s h rest d hd
  have entered (st : DeckState) : (s.enterDeckState d st).buffer = s.buffer :=
    State.buffer_of_fixed (s.enterDeckState_fixed d st)
  exact ⟨fun warm => exec_served rfl hd (wakeDeck_warmRest warm) (entered _),
    fun rests => exec_served rfl hd (wakeDeck_captures rests) (entered _),
    fun awake => exec_served rfl hd (wakeDeck_awake awake) rfl,
    fun idle => exec_served rfl hd (wakeDeck_busy idle) rfl,
    fun m outside => exec_served rfl hd (wakeDeck_bad outside) rfl⟩

/-- Settles O53: a misfit body never reaches the handling of its request, and the requests with no field look at the length
of the body. -/
theorem misfitBodiesRefused : Obligations.MisfitBodiesRefused := by
  intro s h rest
  have misfit {i : Instr} {k : Nat} {α : Type} {f : α → State → State × Reply}
      (meaning : exec i s = .next (s.serve k (withBody .misfit f))) (hd : s.HasHead k h rest) :
      exec i s = .next (s.replied h rest .bad .none) := exec_served meaning hd rfl rfl
  refine ⟨misfit rfl, misfit rfl, misfit rfl, misfit rfl, misfit rfl, misfit rfl, misfit rfl, misfit rfl, misfit rfl,
    misfit rfl, misfit rfl, misfit rfl, misfit rfl, misfit rfl, misfit rfl, misfit rfl, misfit rfl, misfit rfl, misfit rfl,
    misfit rfl, ?next, misfit rfl, misfit rfl, misfit rfl, misfit rfl, misfit rfl, misfit rfl, misfit rfl, misfit rfl,
    ?reset, ?identify, fun hd => exec_forward hd rfl rfl⟩
  case next => exact fun hd long => exec_served rfl hd (bareRefused hd.1 long).1 rfl
  case reset => exact fun hd long => exec_served rfl hd (bareRefused hd.1 long).2.1 rfl
  case identify => exact fun hd long => exec_served rfl hd (bareRefused hd.1 long).2.2 rfl

end Sys2Proof.Settled

/-! PROOFS. The yard clock, the readings sent to the office, IDENTIFY and YARD-RESET, and the vehicle table. -/

namespace Sys2Proof.Machine

/-! ## The yard clock (R187) -/

theorem YardClock.secondEnds_due {c : YardClock} (runs : c.set = true) (due : 1000 ≤ c.frames) :
    c.secondEnds =
      { set := true, frames := 0, seconds := if c.seconds = 4294967295 then 0 else c.seconds + 1 } := by
  rw [YardClock.secondEnds, if_pos ⟨runs, due⟩, runs]

theorem YardClock.secondEnds_early {c : YardClock} (early : c.set = false ∨ c.frames < 1000) : c.secondEnds = c := by
  refine if_neg fun ⟨runs, due⟩ => early.elim (fun stopped => ?_) (Nat.not_lt.2 due)
  rw [stopped] at runs
  cases runs

/-! ## Readings to the office (R21, R22) -/

theorem DeckEngine.streamDue_iff (e : DeckEngine) :
    e.streamDue = true ↔ e.state = .active ∧ e.streamInterval ≠ 0 ∧ e.streamInterval ≤ e.streamCount := by
  simp [DeckEngine.streamDue, and_assoc]

section
variable {s : State} {d : DeckId}

theorem streamDeck_succ (k : Nat) : streamDeck { deck := d.val + 1, interval := k } s =
    if k > 255 then refuse s .bad else accept (s.setDeck d { s.deck d with streamInterval := k, streamCount := 0 }) .none := by
  simp only [streamDeck, deckOf_succ]

theorem streamDeck_bad {m k : Nat} (outside : m = 0 ∨ 4 < m) : streamDeck { deck := m, interval := k } s = refuse s .bad := by
  simp only [streamDeck, deckOf_none outside]

theorem readDeck_succ : readDeck (d.val + 1) s = accept s (.deckStatus (s.deck d).status) := by
  simp only [readDeck, deckOf_succ]

theorem readDeck_bad {m : Nat} (outside : m = 0 ∨ 4 < m) : readDeck m s = refuse s .bad := by
  simp only [readDeck, deckOf_none outside]

end

/-! ## Yard resets still to be taken (R189, log entry 54) -/

section
variable {s : State}

theorem State.resetsTaken_waiting (waits : s.resetsDue.lanes = true ∨ s.resetsDue.visits = true
    ∨ s.resetsDue.barriers = true ∨ s.resetsDue.tickets = true ∨ ∃ d : DeckId, s.resetsDue.decks[d] = true) :
    s.resetsTaken = false := by
  refine decide_eq_false fun clear => ?_
  rw [clear] at waits
  simp [ResetsDue.clear] at waits

/-- Nothing is served while a yard reset waits for a block. -/
theorem State.owes_waiting (waits : s.resetsTaken = false) (number : Nat) : s.owes number = false := by
  unfold State.owes
  split
  · rfl
  · simp [waits]

theorem State.owesForward_waiting (waits : s.resetsTaken = false) : s.owesForward = false := by
  unfold State.owesForward
  split
  · rfl
  · simp [waits]

theorem State.owesUnknown_waiting (waits : s.resetsTaken = false) : s.owesUnknown = false := by
  unfold State.owesUnknown
  split
  · rfl
  · simp [waits]

/-! ## IDENTIFY and YARD-RESET (R188, R189) -/

theorem identify_bare (bare : s.headBodyBare = true) : identify s =
    accept s (.identity "WILBERGAN".toList "ISPOMAR".toList "YL-4220".toList 1 s.rate s.now) := by
  rw [identify, if_pos bare]

theorem yardReset_bare (bare : s.headBodyBare = true) : yardReset s =
    accept s.resetOffice (.yardReset (s.reports.length - s.reportsKept.length) s.dropped) := by
  rw [yardReset, if_pos bare]

theorem State.reportsKept_sending {r : Report} {note : Bool} {count : Nat} (sends : s.line = some (.report r note count)) :
    s.reportsKept = s.reports.take 1 := by
  rw [State.reportsKept, sends]

theorem State.reportsKept_idle (idle : ∀ r note count, s.line ≠ some (.report r note count)) : s.reportsKept = [] := by
  unfold State.reportsKept
  split
  next sends => exact absurd sends (idle _ _ _)
  next => rfl

end

/-! ## The vehicle table (R43–R46) -/

section
variable {s : State}

theorem State.lookup_absent {t : Text} (absent : ∀ x ∈ s.vehicles, x.ident ≠ t) : s.lookup t = none := by
  simpa [State.lookup] using absent

theorem State.lookup_isSome {t : Text} (present : ∃ x ∈ s.vehicles, x.ident = t) : (s.lookup t).isSome = true := by
  simpa [State.lookup, List.find?_isSome] using present

theorem State.lookup_isNone {t : Text} (present : ∃ x ∈ s.vehicles, x.ident = t) : (s.lookup t).isNone = false := by
  rw [Option.isNone_eq_false_iff]
  exact State.lookup_isSome present

theorem State.lookup_first {t : Text} {before after : List VehicleRecord} {x : VehicleRecord}
    (split : s.vehicles = before ++ x :: after) (named : x.ident = t) (first : ∀ y ∈ before, y.ident ≠ t) :
    s.lookup t = some x := by
  rw [State.lookup, split, List.find?_append, List.find?_eq_none.2 (by simpa using first)]
  simp [named]

theorem putVehicle_present {r : VehicleRecord} {xs : List VehicleRecord} (present : ∃ x ∈ xs, x.ident = r.ident) :
    putVehicle r xs = xs.map fun x => if x.ident = r.ident then r else x :=
  if_pos (by simpa using present)

theorem putVehicle_absent {r : VehicleRecord} {xs : List VehicleRecord} (absent : ∀ x ∈ xs, x.ident ≠ r.ident) :
    putVehicle r xs = xs ++ [r] :=
  if_neg (by simpa using absent)

theorem loadVehicle_bad {v : VehicleLoad} (bad : vehicleRecord v = none) : loadVehicle v s = refuse s .bad := by
  simp only [loadVehicle, bad]

theorem loadVehicle_room {v : VehicleLoad} {r : VehicleRecord} (record : vehicleRecord v = some r)
    (room : ¬ ((s.lookup r.ident).isNone ∧ 1024 ≤ s.vehicles.length)) :
    loadVehicle v s = accept { s with vehicles := putVehicle r s.vehicles }
      (.vehicleCount (putVehicle r s.vehicles).length) := by
  simp only [loadVehicle, record]
  rw [if_neg room]

theorem loadVehicle_full {v : VehicleLoad} {r : VehicleRecord} (record : vehicleRecord v = some r)
    (full : (s.lookup r.ident).isNone ∧ 1024 ≤ s.vehicles.length) : loadVehicle v s = refuse s .full := by
  simp only [loadVehicle, record]
  rw [if_pos full]

theorem dropVehicle_found {t : Text} (valid : validIdent t = true) (present : ∃ x ∈ s.vehicles, x.ident = t) :
    dropVehicle t s = accept { s with vehicles := s.vehicles.filter fun x => decide (x.ident ≠ t) }
      (.vehicleCount (s.vehicles.filter fun x => decide (x.ident ≠ t)).length) := by
  have same : (fun x : VehicleRecord => x.ident != t) = fun x => decide (x.ident ≠ t) := by
    funext x
    by_cases named : x.ident = t <;> simp [named]
  simp only [dropVehicle, valid, State.lookup_isNone present, same, Bool.not_true, Bool.or_self, Bool.false_eq_true, if_false]

theorem dropVehicle_bad {t : Text} (bad : validIdent t = false ∨ ∀ x ∈ s.vehicles, x.ident ≠ t) :
    dropVehicle t s = refuse s .bad := by
  refine if_pos ?_
  rcases bad with invalid | absent
  · simp [invalid]
  · simp [State.lookup_absent absent]

end

end Sys2Proof.Machine

namespace Sys2Proof.Settled
open Machine

/-- Settles O10: a second ends exactly on a set clock that reached its limit, and SET_CLOCK by its range. -/
theorem yardClockKept : Obligations.YardClockKept := by
  refine ⟨fun s runs due => ?_, fun s early => ?_, fun s h rest seconds hd => ⟨fun small => ?_, fun large => ?_, ?_⟩⟩
  · exact congrArg Host.Outcome.next (by rw [YardClock.secondEnds_due runs due])
  · exact congrArg Host.Outcome.next (by rw [YardClock.secondEnds_early early])
  · exact exec_served rfl hd (if_pos small) rfl
  · exact exec_served rfl hd (if_neg (Nat.not_le.2 large)) rfl
  · exact exec_served rfl hd rfl rfl

/-- Settles O16: the stream posts when it is due, and the two requests by their deck and interval. -/
theorem readingsToOffice : Obligations.ReadingsToOffice := by
  refine ⟨fun s d active streams due room => ?stream,
    fun s h rest d k hd => ⟨fun small => ?set, fun large => ?large, fun m outside => ?streamBad⟩,
    fun s h rest d hd => ⟨?read, fun m outside => ?readBad⟩⟩
  case stream =>
    refine congrArg Host.Outcome.next ((if_pos ?_).trans (State.post_room (s := s.setDeck d _) room _))
    exact (DeckEngine.streamDue_iff _).2 ⟨active, streams, due⟩
  case set => exact exec_served rfl hd ((streamDeck_succ k).trans (if_neg (Nat.not_lt.2 small))) rfl
  case large => exact exec_served rfl hd ((streamDeck_succ k).trans (if_pos large)) rfl
  case streamBad => exact exec_served rfl hd (streamDeck_bad outside) rfl
  case read => exact exec_served rfl hd readDeck_succ rfl
  case readBad => exact exec_served rfl hd (readDeck_bad outside) rfl

/-- Settles O54: the two requests with a bare body, and that nothing is served before every block has taken a reset. -/
theorem identifyAndYardReset : Obligations.IdentifyAndYardReset := by
  refine ⟨fun s h rest bare => ⟨fun hd => ?identity, fun hd => ⟨fun r note count sends => ?sending, fun idle => ?idle⟩⟩,
    fun s waits => ?waiting⟩
  case identity => exact exec_served rfl hd (identify_bare ((State.headBodyBare_iff hd.1).2 bare)) rfl
  case sending =>
    have outcome := yardReset_bare ((State.headBodyBare_iff hd.1).2 bare)
    have some_reports : s.reports.length - (s.reports.take 1).length = s.reports.length - 1 := by
      rw [List.length_take]
      omega
    rw [State.resetOffice, State.reportsKept_sending sends, some_reports] at outcome
    exact exec_served rfl hd outcome rfl
  case idle =>
    have outcome := yardReset_bare ((State.headBodyBare_iff hd.1).2 bare)
    rw [State.resetOffice, State.reportsKept_idle idle] at outcome
    exact exec_served rfl hd outcome rfl
  case waiting =>
    have taken := State.resetsTaken_waiting waits
    have unserved (number : Nat) (handle : State → State × Reply) : s.serve number handle = s :=
      State.serve_other (State.owes_waiting taken number) handle
    refine ⟨unserved, fun v => ?_, ?_, ?_, ?_⟩
    · exact congrArg Host.Outcome.next (if_neg (by rw [State.owesForward_waiting taken]; exact Bool.false_ne_true))
    · exact congrArg Host.Outcome.next (if_neg (by rw [State.owesUnknown_waiting taken]; exact Bool.false_ne_true))
    · exact congrArg Host.Outcome.next (unserved 31 identify)
    · exact congrArg Host.Outcome.next (unserved 30 yardReset)

/-- Settles O23: each request by whether a record of the ident stands, and the update in the places of its ident. -/
theorem vehicleRequests : Obligations.VehicleRequests := by
  refine ⟨fun s h rest v hd => ⟨fun bad => ?bad, fun r record => ⟨fun present => ?replace, fun absent room => ?add,
    fun absent full => ?full⟩⟩, fun s h rest t hd => ⟨fun valid present => ?drop, fun bad => ?dropBad⟩,
    fun s h rest t hd => ⟨fun before x after split named first => ?read, fun absent => ?readBad⟩, fun s u rest waits => ?update⟩
  case bad => exact exec_served rfl hd (loadVehicle_bad bad) rfl
  case replace =>
    have outcome := loadVehicle_room record (s := s) (by simp [State.lookup_isNone present])
    rw [putVehicle_present present, List.length_map] at outcome
    exact exec_served rfl hd outcome rfl
  case add =>
    have outcome := loadVehicle_room record (s := s) fun full => Nat.not_le.2 room full.2
    rw [putVehicle_absent absent, List.length_append, List.length_singleton] at outcome
    exact exec_served rfl hd outcome rfl
  case full => exact exec_served rfl hd (loadVehicle_full record ⟨by rw [State.lookup_absent absent]; rfl, full⟩) rfl
  case drop => exact exec_served rfl hd (dropVehicle_found valid present) rfl
  case dropBad => exact exec_served rfl hd (dropVehicle_bad bad) rfl
  case read =>
    exact exec_served rfl hd (f := withBody (.fits t) readVehicle)
      (by rw [withBody_fits, readVehicle, State.lookup_first split named first]; rfl) rfl
  case readBad =>
    exact exec_served rfl hd (f := withBody (.fits t) readVehicle)
      (by rw [withBody_fits, readVehicle, State.lookup_absent absent]; rfl) rfl
  case update => exact congrArg Host.Outcome.next (by rw [State.updateTare, waits]; rfl)

end Sys2Proof.Settled

/-! PROOFS. Reports posted in turn, and the visit table: the record of a key after a change, and what each operation on a visit writes and posts. -/

namespace Sys2Proof.Machine

/-! ## Reports posted in turn (R185) -/

/-- The state with these reports posted, one after another. -/
def State.posted (s : State) (bs : List ReportBody) : State := forEach bs (fun b t => t.post b) s

section
variable (s : State)

@[simp] theorem State.posted_nil : s.posted [] = s := rfl

@[simp] theorem State.posted_cons (b : ReportBody) (bs : List ReportBody) : s.posted (b :: bs) = (s.post b).posted bs := rfl

theorem State.posted_append (as bs : List ReportBody) : s.posted (as ++ bs) = (s.posted as).posted bs := forEach_append ..

theorem State.forEach_post {α : Type} (xs : List α) (body : α → ReportBody) :
    forEach xs (fun x t => t.post (body x)) s = s.posted (xs.map body) := by
  rw [State.posted, forEach, forEach, List.foldl_map]

/-- A posted report touches the report queue, the overrun note and the dropped count alone. -/
theorem State.post_eq (b : ReportBody) :
    s.post b = { s with reports := (s.post b).reports, overrun := (s.post b).overrun, dropped := (s.post b).dropped } := by
  rcases s.post_cases b with ⟨_, same⟩ | ⟨_, same⟩ <;> exact same ▸ rfl

theorem State.posted_some (bs : List ReportBody) : ∃ reports overrun dropped,
    s.posted bs = { s with reports := reports, overrun := overrun, dropped := dropped } := by
  induction bs generalizing s with
  | nil => exact ⟨s.reports, s.overrun, s.dropped, rfl⟩
  | cons b bs ih =>
    obtain ⟨reports, overrun, dropped, same⟩ := ih (s.post b)
    refine ⟨reports, overrun, dropped, ?_⟩
    rw [State.posted_cons, same]
    rcases s.post_cases b with ⟨_, step⟩ | ⟨_, step⟩ <;> exact step ▸ rfl

theorem State.posted_eq (bs : List ReportBody) :
    s.posted bs =
      { s with reports := (s.posted bs).reports, overrun := (s.posted bs).overrun, dropped := (s.posted bs).dropped } := by
  obtain ⟨reports, overrun, dropped, same⟩ := s.posted_some bs
  rw [same]

@[simp] theorem State.post_now (b : ReportBody) : (s.post b).now = s.now := by rw [State.now, State.now, State.post_clock]

/-- Reports that all find room join the queue in their order, with the second that stands. -/
theorem State.posted_room {s : State} {bs : List ReportBody} (room : s.reports.length + bs.length ≤ 32) :
    s.posted bs = { s with reports := s.reports ++ bs.map fun b => { body := b, stamp := s.now } } := by
  induction bs generalizing s with
  | nil => simp
  | cons b bs ih =>
    rw [List.length_cons] at room
    have first : s.post b = s.reported b := State.post_room (Nat.lt_of_lt_of_le (by omega) room) b
    have left : (s.reported b).reports.length + bs.length ≤ 32 := by
      rw [State.reported, List.length_append, List.length_singleton]
      omega
    rw [State.posted_cons, first, ih left]
    have order : s.reports ++ [({ body := b, stamp := s.now } : Report)] ++ bs.map (fun c => { body := c, stamp := s.now }) =
        s.reports ++ (b :: bs).map fun c => { body := c, stamp := s.now } := by simp
    exact congrArg (fun reports => { s with reports := reports }) order

end

/-! ## A change of one visit record -/

section
variable {s : State} {k : Nat} {v : Visit}

theorem State.visit_key (found : s.visit k = some v) : v.key = k := by
  simpa using List.find?_some found

theorem State.visit_mem (found : s.visit k = some v) : v ∈ s.visits := List.mem_of_find?_eq_some found

/-- The record of a key after a change that keeps the keys. -/
theorem State.visit_updateVisit (found : s.visit k = some v) (f : Visit → Visit) (key : ∀ x, (f x).key = x.key) :
    (s.updateVisit k f).visit k = some (f v) := by
  have same : ((fun x : Visit => x.key == k) ∘ fun x => if x.key = k then f x else x) = fun x => x.key == k := by
    funext x
    by_cases named : x.key = k <;> simp [named, key]
  rw [State.visit, State.updateVisit, List.find?_map, same, show s.visits.find? (fun x => x.key == k) = some v from found]
  exact congrArg some (if_pos (State.visit_key found))

theorem State.visitPosition_updateVisit (f : Visit → Visit) (key : ∀ x, (f x).key = x.key) (j : Nat) :
    (s.updateVisit k f).visitPosition j = s.visitPosition j := by
  have same : (s.updateVisit k f).visits.map Visit.key = s.visits.map Visit.key := by
    rw [State.updateVisit, List.map_map]
    refine List.map_congr_left fun x _ => ?_
    by_cases named : x.key = k
    · simp [named, key]
    · simp [named]
  rw [State.visitPosition, State.visitPosition, same]

/-- Two changes of the same record make one. -/
theorem State.updateVisit_updateVisit (f g : Visit → Visit) (key : ∀ x, (f x).key = x.key) :
    (s.updateVisit k f).updateVisit k g = s.updateVisit k (g ∘ f) := by
  have both (x : Visit) : (if (if x.key = k then f x else x).key = k then g (if x.key = k then f x else x)
      else if x.key = k then f x else x) = if x.key = k then (g ∘ f) x else x := by
    by_cases named : x.key = k
    · simp [named, key]
    · simp [named]
  simp only [State.updateVisit, List.map_map, Function.comp_def, both]

/-- With records of different keys, a change of one record is a change in its place. -/
theorem State.updateVisit_split {before after : List Visit} (keys : s.visits.Pairwise (fun a b => a.key ≠ b.key))
    (split : s.visits = before ++ v :: after) (f : Visit → Visit) :
    s.updateVisit v.key f = { s with visits := before ++ f v :: after } := by
  rw [split, List.pairwise_append] at keys
  obtain ⟨_, rest, apart⟩ := keys
  rw [List.pairwise_cons] at rest
  have others {xs : List Visit} (h : ∀ x ∈ xs, x.key ≠ v.key) : xs.map (fun x => if x.key = v.key then f x else x) = xs :=
    (List.map_congr_left fun x hx => if_neg (h x hx)).trans xs.map_id'
  rw [State.updateVisit, split, List.map_append, List.map_cons, if_pos rfl, others fun x hx => apart x hx v List.mem_cons_self,
    others fun x hx => (rest.1 x hx).symm]

/-- The first record of a key is the one that key names. -/
theorem State.visit_of_split {before after : List Visit} (split : s.visits = before ++ v :: after)
    (first : ∀ x ∈ before, x.key ≠ v.key) : s.visit v.key = some v :=
  List.find?_eq_some_iff_append.2 ⟨by simp, before, after, split, by simpa using first⟩

theorem keys_before {before after : List Visit} (keys : s.visits.Pairwise (fun a b => a.key ≠ b.key))
    (split : s.visits = before ++ v :: after) : ∀ x ∈ before, x.key ≠ v.key := by
  rw [split, List.pairwise_append] at keys
  exact fun x hx => keys.2.2 x hx v List.mem_cons_self

theorem State.updateVisit_post (f : Visit → Visit) (b : ReportBody) :
    (s.post b).updateVisit k f = (s.updateVisit k f).post b := by
  unfold State.post
  by_cases room : s.reports.length < Config.reportCapacity
  · rw [if_pos room, if_pos (by exact room)]
    rfl
  · rw [if_neg room, if_neg (by exact room)]
    rfl

theorem State.updateVisit_posted (f : Visit → Visit) (bs : List ReportBody) :
    (s.posted bs).updateVisit k f = (s.updateVisit k f).posted bs := by
  induction bs generalizing s with
  | nil => rfl
  | cons b bs ih => rw [State.posted_cons, ih, State.updateVisit_post, State.posted_cons]

@[simp] theorem State.visit_post (b : ReportBody) (j : Nat) : (s.post b).visit j = s.visit j := by
  rw [State.visit, State.visit, State.post_visits]

@[simp] theorem State.visitPosition_post (b : ReportBody) (j : Nat) : (s.post b).visitPosition j = s.visitPosition j := by
  rw [State.visitPosition, State.visitPosition, State.post_visits]

theorem State.posted_visits (bs : List ReportBody) : (s.posted bs).visits = s.visits := by
  rw [State.posted_eq]

@[simp] theorem State.visit_posted (bs : List ReportBody) (j : Nat) : (s.posted bs).visit j = s.visit j := by
  rw [State.visit, State.visit, State.posted_visits]

@[simp] theorem State.visitPosition_posted (bs : List ReportBody) (j : Nat) :
    (s.posted bs).visitPosition j = s.visitPosition j := by
  rw [State.visitPosition, State.visitPosition, State.posted_visits]

@[simp] theorem State.posted_now (bs : List ReportBody) : (s.posted bs).now = s.now := by
  rw [State.posted_eq]
  rfl

/-! ## What the operations on a visit write and post -/

/-- The anomalies new to a record (R95). -/
def Visit.fresh (v : Visit) (xs : List Anomaly) : List Anomaly := xs.filter fun a => !v.anomalies.contains a

theorem State.addAnomalies_eq (found : s.visit k = some v) (xs : List Anomaly) (lane : Option LaneId) :
    s.addAnomalies k xs lane =
      (s.updateVisit k fun x => { x with anomalies := x.anomalies ++ v.fresh xs }).posted
        ((v.fresh xs).map fun a => .visitAnomaly a v.ident v.ticketNo (s.visitPosition k) lane) := by
  simp only [State.addAnomalies, found]
  rw [State.forEach_post, State.visitPosition_updateVisit]
  · rfl
  · exact fun _ => rfl

theorem State.closeVisit_eq (found : s.visit k = some v) :
    s.closeVisit k = (s.updateVisit k fun x => { x with state := .closed, closeTime := s.now }).post
      (.visitClosed (s.visitPosition k) { v with state := .closed, closeTime := s.now }) := by
  have closed := State.visit_updateVisit found (fun x => { x with state := .closed, closeTime := s.now }) fun _ => rfl
  simp only [State.closeVisit, closed]
  rw [State.visitPosition_updateVisit]
  exact fun _ => rfl

theorem State.finishVisit_pending (found : s.visit k = some v) (pending : v.outcome = some .pending) :
    s.finishVisit k = s.updateVisit k fun x => { x with state := .closing } := by
  simp only [State.finishVisit, found]
  rw [if_pos pending]

theorem State.finishVisit_closes (found : s.visit k = some v) (settled : v.outcome ≠ some .pending) :
    s.finishVisit k = (s.updateVisit k fun x => { x with state := .closed, closeTime := s.now }).post
      (.visitClosed (s.visitPosition k) { v with state := .closed, closeTime := s.now }) := by
  rw [← State.closeVisit_eq found]
  simp only [State.finishVisit, found]
  rw [if_neg settled]

theorem State.postOpened_eq (found : s.visit k = some v) :
    s.postOpened k = s.post (.visitOpened
      { ticketNo := v.ticketNo, position := s.visitPosition k, ident := v.ident, account := v.account, category := v.category,
        entryLane := v.entryLane, gross := v.gross, anomalies := v.anomalies, tare := v.tare, net := v.net,
        outcome := v.outcome }) := by
  simp only [State.postOpened, found]

end

/-! ## CLEAR_VISIT (R100) -/

theorem standing_iff (x : VisitState) : x.standing = true ↔ x = .reserved ∨ x = .open_ ∨ x = .ticketed := by
  cases x <;> simp [VisitState.standing]

theorem out_iff (x : VisitState) : x.out = true ↔ x = .open_ ∨ x = .ticketed := by
  cases x <;> simp [VisitState.out]

section
variable {s : State} {sel : Selector}

theorem State.visitByTicket_missing {n : Nat} (missing : ∀ x ∈ s.visits, x.ticketNo ≠ some n) : s.visitByTicket n = none :=
  List.find?_eq_none.2 (by simpa using missing)

theorem State.visitByTicket_split {n : Nat} {before after : List Visit} {v : Visit} (split : s.visits = before ++ v :: after)
    (number : v.ticketNo = some n) (oldest : ∀ x ∈ before, x.ticketNo ≠ some n) : s.visitByTicket n = some v :=
  State.visitFor_ticket split number oldest

theorem clearVisit_refuse {c : ReplyCode} (choice : s.clearChoice sel = .inr c) (form : sel.wellFormed = true ∨ c = .bad) :
    clearVisit sel s = refuse s c := by
  unfold clearVisit
  rw [choice]
  split
  next malformed =>
    rcases form with good | rfl
    · simp [good] at malformed
    · rfl
  · rfl

/-- With records of different keys, a record leaves the table from its place. -/
theorem State.removeVisit_split {before after : List Visit} {v : Visit}
    (keys : s.visits.Pairwise (fun a b => a.key ≠ b.key)) (split : s.visits = before ++ v :: after) :
    s.removeVisit v.key = { s with visits := before ++ after } := by
  have first := keys_before keys split
  rw [split, List.pairwise_append] at keys
  obtain ⟨_, rest, _⟩ := keys
  rw [List.pairwise_cons] at rest
  have kept : s.visits.filter (fun x => x.key != v.key) = before ++ after := by
    rw [split, List.filter_append, List.filter_cons_of_neg (by simp), List.filter_eq_self.2 (by simpa using first),
      List.filter_eq_self.2 (by simpa using fun x hx => (rest.1 x hx).symm)]
  rw [State.removeVisit, kept]

theorem clearVisit_ok {before after : List Visit} {v : Visit} (keys : s.visits.Pairwise (fun a b => a.key ≠ b.key))
    (split : s.visits = before ++ v :: after) (form : sel.wellFormed = true) (choice : s.clearChoice sel = .inl v) :
    clearVisit sel s =
      accept { s with visits := before ++ after } (.removedVisit v (before.length + after.length)) := by
  unfold clearVisit
  rw [choice, if_neg (by simp [form])]
  dsimp only
  rw [State.removeVisit_split keys split, List.length_append]

theorem State.clearChoice_ticket {n : Nat} {v : Visit} (found : s.visitByTicket n = some v) :
    s.clearChoice (.ticket n) = if v.state = .closed then .inl v else .inr .busy := by
  simp only [State.clearChoice, found]

theorem State.clearChoice_ident_missing {t : Text} (missing : ∀ x ∈ s.visits, x.ident ≠ t) :
    s.clearChoice (.ident t) = .inr .bad := by
  simp only [State.clearChoice]
  exact if_neg (by simpa using missing)

theorem State.clearChoice_ident {t : Text} (present : ∃ x ∈ s.visits, x.ident = t) :
    s.clearChoice (.ident t) =
      (s.visits.find? fun v => v.ident == t && v.state == .closed).elim (.inr .busy) .inl := by
  simp only [State.clearChoice]
  rw [if_pos (by simpa using present)]
  cases s.visits.find? fun v => v.ident == t && v.state == .closed <;> rfl

/-! ## FORCE_CLOSE (R101) -/

theorem forceClose_bad (missing : s.forceChoice sel = none) : forceClose sel s = refuse s .bad := by
  unfold forceClose
  rw [missing]
  split <;> rfl

theorem forceClose_busy {v : Visit} (form : sel.wellFormed = true) (choice : s.forceChoice sel = some v)
    (busy : v.state.out = false) : forceClose sel s = refuse s .busy := by
  unfold forceClose
  rw [choice, if_neg (by simp [form])]
  exact if_neg (by simp [busy])

theorem forceClose_ok {v w : Visit} (form : sel.wellFormed = true) (choice : s.forceChoice sel = some v)
    (out : v.state.out = true) (forced : (s.forceVisit v).visit v.key = some w) :
    forceClose sel s = accept (s.forceVisit v) (.forcedVisit w) := by
  unfold forceClose
  rw [choice, if_neg (by simp [form])]
  dsimp only
  rw [if_pos out, forced]

theorem State.forceChoice_ticket_missing {n : Nat} (missing : ∀ x ∈ s.visits, x.ticketNo ≠ some n) :
    s.forceChoice (.ticket n) = none := State.visitByTicket_missing missing

/-- The newest record of an ident that has one. -/
theorem State.newestVisit_some {t : Text} (present : ∃ x ∈ s.visits, x.ident = t) :
    ∃ v ∈ s.visits, v.ident = t ∧ s.newestVisit t = some v := by
  have found : (s.newestVisit t).isSome = true := by simpa [State.newestVisit, List.find?_isSome] using present
  obtain ⟨v, hv⟩ := Option.isSome_iff_exists.1 found
  exact ⟨v, List.mem_reverse.1 (List.mem_of_find?_eq_some hv), by simpa using List.find?_some hv, hv⟩

theorem State.forceChoice_ident_none {t : Text} (gone : ∀ x ∈ s.visits, x.ident = t → x.state.standing = false) :
    s.forceChoice (.ident t) = s.newestVisit t := by
  have missing : s.visits.find? (fun v => v.ident == t && v.state.standing) = none :=
    List.find?_eq_none.2 (by simpa using gone)
  simp only [State.forceChoice, missing]

theorem State.forceChoice_ident_missing {t : Text} (missing : ∀ x ∈ s.visits, x.ident ≠ t) :
    s.forceChoice (.ident t) = none := by
  rw [State.forceChoice_ident_none fun x hx named => absurd named (missing x hx)]
  exact List.find?_eq_none.2 (by simpa using missing)

theorem State.forceChoice_ident_standing {before after : List Visit} {v : Visit} (split : s.visits = before ++ v :: after)
    (stands : v.state.standing = true) (first : ∀ x ∈ before, x.ident = v.ident → x.state.standing = false) :
    s.forceChoice (.ident v.ident) = some v := by
  have found : s.visits.find? (fun x => x.ident == v.ident && x.state.standing) = some v :=
    List.find?_eq_some_iff_append.2 ⟨by simp [stands], before, after, split, by simpa [or_iff_not_imp_left] using first⟩
  simp only [State.forceChoice, found]

/-- The record a FORCE_CLOSE leaves of an OPEN or TICKETED one (R101). -/
def Visit.forced (v : Visit) (now : Option Nat) : Visit :=
  let anomalies := if .forced ∈ v.anomalies then v.anomalies else v.anomalies ++ [.forced]
  if v.state = .open_ then
    { v with anomalies := anomalies, outcome := some (.notPrinted .none), state := .closed, closeTime := now }
  else if v.outcome = some .pending then { v with anomalies := anomalies, state := .closing }
  else { v with anomalies := anomalies, state := .closed, closeTime := now }

/-- The reports of a FORCE_CLOSE: that of the anomaly when it is new to the record, that of the close when it closes. -/
def Visit.forcedReports (v : Visit) (now : Option Nat) (position : Nat) : List ReportBody :=
  (if .forced ∈ v.anomalies then [] else [.visitAnomaly .forced v.ident v.ticketNo position none])
    ++ if (v.forced now).state = .closed then [.visitClosed position (v.forced now)] else []

theorem Visit.fresh_forced (v : Visit) : v.fresh [.forced] = if .forced ∈ v.anomalies then [] else [.forced] := by
  by_cases carried : Anomaly.forced ∈ v.anomalies <;> simp [Visit.fresh, carried]

/-- A record written and its reports posted is finished by one more change of it (R94). -/
theorem State.finishVisit_posted {k : Nat} {v : Visit} (found : s.visit k = some v) (f : Visit → Visit)
    (key : ∀ x, (f x).key = x.key) (bs : List ReportBody) :
    ((s.updateVisit k f).posted bs).finishVisit k =
      if (f v).outcome = some .pending then (s.updateVisit k fun x => { f x with state := .closing }).posted bs
      else (s.updateVisit k fun x => { f x with state := .closed, closeTime := s.now }).posted
        (bs ++ [.visitClosed (s.visitPosition k) { f v with state := .closed, closeTime := s.now }]) := by
  have written : ((s.updateVisit k f).posted bs).visit k = some (f v) := by
    rw [State.visit_posted, State.visit_updateVisit found f key]
  by_cases pending : (f v).outcome = some .pending
  · rw [if_pos pending, State.finishVisit_pending written pending, State.updateVisit_posted,
      State.updateVisit_updateVisit f _ key]
    rfl
  · rw [if_neg pending, State.finishVisit_closes written pending, State.updateVisit_posted,
      State.updateVisit_updateVisit f _ key, State.visitPosition_posted, State.visitPosition_updateVisit f key,
      State.posted_now, State.posted_append]
    rfl

/-- A forced visit is written once in its place, and its reports follow. -/
theorem State.forceVisit_eq {before after : List Visit} {v : Visit} (keys : s.visits.Pairwise (fun a b => a.key ≠ b.key))
    (split : s.visits = before ++ v :: after) :
    s.forceVisit v = ({ s with visits := before ++ v.forced s.now :: after } : State).posted
      (v.forcedReports s.now (before.length + 1)) := by
  have found := State.visit_of_split split (keys_before keys split)
  have place := State.visitPosition_of_split keys split
  have anomalies : (if Anomaly.forced ∈ v.anomalies then v.anomalies else v.anomalies ++ [.forced]) =
      v.anomalies ++ v.fresh [.forced] := by
    rw [Visit.fresh_forced]
    split <;> simp
  have bodies : (v.fresh [.forced]).map (fun a => ReportBody.visitAnomaly a v.ident v.ticketNo (s.visitPosition v.key) none) =
      if .forced ∈ v.anomalies then [] else [.visitAnomaly .forced v.ident v.ticketNo (before.length + 1) none] := by
    rw [Visit.fresh_forced, place]
    split <;> rfl
  unfold State.forceVisit
  rw [State.addAnomalies_eq found, bodies]
  dsimp only
  by_cases opened : v.state = .open_
  · rw [if_pos opened, State.updateVisit_posted, State.updateVisit_updateVisit, State.finishVisit_posted found, if_neg (by simp),
      place, State.updateVisit_split keys split]
    · simp only [Visit.forcedReports, Visit.forced, opened, if_true, anomalies, Function.comp]
    all_goals exact fun _ => rfl
  · rw [if_neg opened, State.finishVisit_posted found, place]
    · by_cases pending : v.outcome = some .pending
      · rw [if_pos pending, State.updateVisit_split keys split]
        simp only [Visit.forcedReports, Visit.forced, opened, pending, if_true, if_false, anomalies, reduceCtorEq,
          List.append_nil]
      · rw [if_neg pending, State.updateVisit_split keys split]
        simp only [Visit.forcedReports, Visit.forced, opened, pending, if_true, if_false, anomalies]
    · exact fun _ => rfl

end

end Sys2Proof.Machine

namespace Sys2Proof.Machine

theorem Visit.forced_key (v : Visit) (now : Option Nat) : (v.forced now).key = v.key := by
  unfold Visit.forced
  dsimp only
  split
  · rfl
  · split <;> rfl

theorem Visit.forcedReports_length (v : Visit) (now : Option Nat) (position : Nat) :
    (v.forcedReports now position).length ≤ 2 := by
  unfold Visit.forcedReports
  rw [List.length_append]
  split <;> split <;> simp

end Sys2Proof.Machine

namespace Sys2Proof.Settled
open Machine

/-- Settles O50: the choice of each selector, and a forced visit written once in its place with its reports behind it. -/
theorem visitClears : Obligations.VisitClears := by
  refine ⟨standing_iff, fun s h rest keys => ⟨fun hd => ⟨fun p => ?clearPosition, fun k missing => ?clearNoTicket,
    fun t missing => ?clearNoIdent, fun before after v split => ⟨fun k number low high oldest => ?clearTicket,
    fun form => ?clearIdent⟩⟩, fun hd => ⟨fun p => ?forcePosition, fun t missing => ?forceNoIdent,
    fun k missing => ?forceNoTicket, fun t form present gone => ?forceGone, fun before after v sel split chosen => ?force⟩⟩⟩
  case clearPosition => exact exec_served rfl hd (clearVisit_refuse rfl (.inr rfl)) rfl
  case clearNoTicket =>
    have none : s.clearChoice (.ticket k) = .inr .bad := by
      simp only [State.clearChoice, State.visitByTicket_missing missing]
    exact exec_served rfl hd (clearVisit_refuse none (.inr rfl)) rfl
  case clearNoIdent =>
    exact exec_served rfl hd (clearVisit_refuse (State.clearChoice_ident_missing missing) (.inr rfl)) rfl
  case clearTicket =>
    have form : (Selector.ticket k).wellFormed = true := (inRange_iff ..).2 ⟨low, high⟩
    have choice := State.clearChoice_ticket (State.visitByTicket_split split number oldest)
    refine ⟨fun closed => ?_, fun other => ?_⟩
    · exact exec_served rfl hd (clearVisit_ok keys split form (choice.trans (if_pos closed))) rfl
    · exact exec_served rfl hd (clearVisit_refuse (choice.trans (if_neg other)) (.inl form)) rfl
  case clearIdent =>
    have choice := State.clearChoice_ident (s := s) ⟨v, split ▸ by simp, rfl⟩
    refine ⟨fun closed first => ?_, fun noneClosed => ?_⟩
    · have found : s.visits.find? (fun x => x.ident == v.ident && x.state == .closed) = some v :=
        List.find?_eq_some_iff_append.2 ⟨by simp [closed], before, after, split, by simpa [or_iff_not_imp_left] using first⟩
      rw [found] at choice
      exact exec_served rfl hd (clearVisit_ok keys split form choice) rfl
    · have missing : s.visits.find? (fun x => x.ident == v.ident && x.state == .closed) = none :=
        List.find?_eq_none.2 (by simpa using noneClosed)
      rw [missing] at choice
      exact exec_served rfl hd (clearVisit_refuse choice (.inl form)) rfl
  case forcePosition => exact exec_served rfl hd (forceClose_bad rfl) rfl
  case forceNoIdent => exact exec_served rfl hd (forceClose_bad (State.forceChoice_ident_missing missing)) rfl
  case forceNoTicket => exact exec_served rfl hd (forceClose_bad (State.forceChoice_ticket_missing missing)) rfl
  case forceGone =>
    obtain ⟨v, mem, named, newest⟩ := State.newestVisit_some present
    have choice : s.forceChoice (.ident t) = some v := by
      rw [State.forceChoice_ident_none fun x hx same => ?_, newest]
      rcases gone x hx same with state | state <;> rw [state] <;> rfl
    have busy : v.state.out = false := by
      rcases gone v mem named with state | state <;> rw [state] <;> rfl
    exact exec_served rfl hd (forceClose_busy form choice busy) rfl
  case force =>
    have form : sel.wellFormed = true := by
      rcases chosen with ⟨k, rfl, _, low, high, _⟩ | ⟨rfl, valid, _⟩
      · exact (inRange_iff ..).2 ⟨low, high⟩
      · exact valid
    have choice : s.forceChoice sel = some v := by
      rcases chosen with ⟨k, rfl, number, _, _, oldest⟩ | ⟨rfl, _, stands, first⟩
      · exact State.visitByTicket_split split number oldest
      · exact State.forceChoice_ident_standing split stands first
    refine ⟨fun busy => ?_, fun out => ?_⟩
    · refine exec_served rfl hd (forceClose_busy form choice ?_) rfl
      rcases busy with state | state | state <;> rw [state] <;> rfl
    · have forced := State.forceVisit_eq keys split
      have written : (s.forceVisit v).visit v.key = some (v.forced s.now) := by
        rw [forced, State.visit_posted, ← v.forced_key s.now]
        exact State.visit_of_split rfl (v.forced_key s.now ▸ keys_before keys split)
      refine ⟨s.forceVisit v, exec_served rfl hd (forceClose_ok form choice ((out_iff _).2 out) written)
        (by rw [forced, State.posted_eq]), ?_, fun room => ?_⟩
      · rw [forced, State.posted_eq]
        rfl
      · have short := v.forcedReports_length s.now (before.length + 1)
        rw [forced, State.posted_room (by dsimp only; omega)]
        refine ⟨?_, rfl, rfl⟩
        simp only [Visit.forcedReports, List.map_append, List.append_assoc, apply_ite (List.map _), List.map_nil,
          List.map_cons]
        rfl

end Sys2Proof.Settled

/-! PROOFS. Tickets: the terminal's code at a queue, the outcome of a job, the stamp and the commits that ask for it. -/

namespace Sys2Proof.Machine

/-! ## A terminal's code at the ticket queue (R130) -/

/-- The codes that show paper: the terminal is ready for a job. -/
theorem terminalStatus_cases (c : Code) :
    (c.toNat ≤ 3 ∧ ∃ p, terminalStatus c = .shows .ready p ∨ terminalStatus c = .shows .low p)
      ∨ 3 < c.toNat ∧ (terminalStatus c = .fault ∨ ∃ p, terminalStatus c = .shows .out p) := by
  revert c
  decide

section
variable {s : State} {n : StationId} {l : LaneId} {c : Code}

theorem State.ticketCode_ready (lane : s.laneOfTerminal n = some l) (ready : c.toNat ≤ 3) :
    s.ticketCode n c = if (s.queue l).phase = .held then s.setQueue l { s.queue l with phase := .waiting } else s := by
  rcases terminalStatus_cases c with ⟨_, p, shows | shows⟩ | ⟨other, _⟩
  · simp only [State.ticketCode, lane, shows]
  · simp only [State.ticketCode, lane, shows]
  · omega

theorem State.ticketCode_other (other : 3 < c.toNat) : s.ticketCode n c = s := by
  rcases terminalStatus_cases c with ⟨ready, _⟩ | ⟨_, fault | ⟨p, out⟩⟩
  · omega
  · simp only [State.ticketCode, fault]
    cases s.laneOfTerminal n <;> rfl
  · simp only [State.ticketCode, out]
    cases s.laneOfTerminal n <;> rfl

theorem State.ticketCode_noLane (absent : s.laneOfTerminal n = none) : s.ticketCode n c = s := by
  simp only [State.ticketCode, absent]

end

/-! ## The outcome of a job (R131–R134) -/

section
variable {s : State} {n : StationId} {l : LaneId}

theorem State.visitPosition_first {before after : List Visit} {v : Visit} (split : s.visits = before ++ v :: after)
    (first : ∀ x ∈ before, x.key ≠ v.key) : s.visitPosition v.key = before.length + 1 := by
  have absent : v.key ∉ before.map Visit.key := by simpa using first
  rw [State.visitPosition, split, List.map_append, List.map_cons, List.idxOf_append_of_notMem absent,
    List.idxOf_cons_self, List.length_map, Nat.add_zero]

/-- An outcome whose message is the oldest complete one reaches the ticket stamper (R131, R167). -/
theorem exec_printOutcome {m : UpMessage} {rest : List UpMessage} {number : Nat} (hm : s.HasMessage n m rest)
    (kind : m.kind = .printOutcome) (low : 1 ≤ number) (high : number ≤ 99999999) (o : PrintReport) :
    exec (.printOutcome n (.fits { number := number, outcome := o })) s =
      .next ((s.messagesLeft n rest).printReported n { number := number, outcome := o }) := by
  have read : (Body.fits { number := number, outcome := o }).read PrintMessage.wellFormed =
      some { number := number, outcome := o } := if_pos ((inRange_iff ..).2 ⟨low, high⟩)
  exact congrArg Host.Outcome.next (kind ▸ State.deliver_read hm read id _)

theorem State.matchedQueue_awaited {number : Nat} {j : TicketJob} {jobs : List TicketJob} {f : Nat}
    (lane : s.laneOfTerminal n = some l) (head : (s.queue l).jobs = j :: jobs) (awaits : (s.queue l).phase = .awaitOutcome f)
    (named : j.number = number) : s.matchedQueue n number = some l := by
  simp only [State.matchedQueue, lane, head, awaits]
  exact if_pos named

theorem State.matchedQueue_none {number : Nat}
    (other : s.laneOfTerminal n = none ∨ ∃ l, s.laneOfTerminal n = some l ∧ ((s.queue l).jobs = []
      ∨ (s.queue l).phase = .waiting ∨ (s.queue l).phase = .sending ∨ (s.queue l).phase = .held
      ∨ ∃ j jobs, (s.queue l).jobs = j :: jobs ∧ j.number ≠ number)) : s.matchedQueue n number = none := by
  unfold State.matchedQueue
  rcases other with none | ⟨l, lane, reason⟩
  · rw [none]
  · rw [lane]
    dsimp only
    split
    next head awaits =>
      rcases reason with empty | waiting | sending | held | ⟨j, jobs, jobs_eq, named⟩
      · rw [empty] at head
        cases head
      · rw [waiting] at awaits
        cases awaits
      · rw [sending] at awaits
        cases awaits
      · rw [held] at awaits
        cases awaits
      · rw [jobs_eq] at head
        cases head
        exact if_neg named
    next => rfl

theorem State.printReported_note {m : PrintMessage} (unmatched : s.matchedQueue n m.number = none) :
    s.printReported n m = s.post (.notePrint n m) := by
  simp only [State.printReported, unmatched]

theorem State.printReported_matched {number : Nat} (matched : s.matchedQueue n number = some l) :
    let told (o : PrintReport) : State := s.printReported n { number := number, outcome := o }
    told .printed = s.jobLeaves l .printed ∧ told .jam = s.jobLeaves l (.notPrinted .jam)
      ∧ told .fault = s.jobLeaves l (.notPrinted .fault) ∧ told .paperOut = s.holdJob l := by
  refine ⟨?_, ?_, ?_, ?_⟩ <;> simp only [State.printReported, matched]

theorem State.holdJob_eq {j : TicketJob} {jobs : List TicketJob} (head : (s.queue l).jobs = j :: jobs) :
    s.holdJob l = (s.setQueue l { s.queue l with phase := .held }).post
      (.ticketHeld j.number j.lane j.terminal (jobs.length + 1)) := by
  simp only [State.holdJob, head]

theorem State.jobLeaves_eq {j : TicketJob} {jobs : List TicketJob} (head : (s.queue l).jobs = j :: jobs) (o : PrintOutcome) :
    s.jobLeaves l o = ((s.setQueue l { jobs := jobs, phase := .waiting }).post
      (.ticketOutcome j.number j.lane j.terminal o jobs.length)).writeOutcome j.visit o := by
  simp only [State.jobLeaves, head]

theorem State.writeOutcome_stays {k : Nat} {v : Visit} (found : s.visit k = some v) {o : PrintOutcome}
    (open_ : v.state ≠ .closing) : s.writeOutcome k o = s.updateVisit k fun x => { x with outcome := some o } := by
  have written := State.visit_updateVisit found (fun x => { x with outcome := some o }) fun _ => rfl
  simp only [State.writeOutcome, written]
  exact if_neg fun closes => open_ closes.1

theorem State.writeOutcome_closes {k : Nat} {v : Visit} (found : s.visit k = some v) {o : PrintOutcome}
    (closing : v.state = .closing) (settled : o ≠ .pending) :
    s.writeOutcome k o = (s.updateVisit k fun x => { x with outcome := some o, state := .closed, closeTime := s.now }).post
      (.visitClosed (s.visitPosition k) { v with outcome := some o, state := .closed, closeTime := s.now }) := by
  have written := State.visit_updateVisit found (fun x => { x with outcome := some o }) fun _ => rfl
  simp only [State.writeOutcome, written]
  rw [if_pos ⟨closing, settled⟩, State.closeVisit_eq written, State.updateVisit_updateVisit, State.visitPosition_updateVisit]
  · rfl
  all_goals exact fun _ => rfl

end

/-! ## The stamp (R123–R128) -/

section
variable {s : State} {k n : Nat} {l : LaneId} {v : Visit} {r : LaneRecord} {g : Weight} {t : Tare} {net : Int}

/-- What a stamp writes and posts, once its job is placed. -/
theorem State.stampTicket_eq (counter : s.counter = .valid n) (found : s.visit k = some v) (record : s.laneRecord l = some r)
    (gross : v.gross = some g) (tare : v.tare = some t) (hnet : v.net = some net) :
    let after : TicketCounter := if n < 99999999 then .valid (n + 1) else .exhausted
    let placed := s.placement l r.terminal
    let u := if placed = .pending then s.setQueue l ((s.queue l).joined (ticketJob s n l r.terminal v g t net)) else s
    s.stampTicket k l = ({ u with
        counter := after
        visits := u.visits.map fun x => if x.key = k then { x with ticketNo := some n, outcome := some placed } else x } : State).post
      (.ticketIssued n l r.terminal v.ident placed (u.queue l).jobs.length after) := by
  have take : s.counter.take = some (n, if n < 99999999 then .valid (n + 1) else .exhausted) := by
    rw [counter]
    rfl
  simp only [State.stampTicket, take, found, record, gross, tare, hnet]
  split <;> rfl

theorem State.placement_lost (lost : (s.station r.terminal).state ≠ .enrolled) :
    s.placement l r.terminal = .notPrinted .terminalLost :=
  if_pos (by simpa [State.enrolled] using lost)

theorem State.placement_full (enrolled : (s.station r.terminal).state = .enrolled) (full : 8 ≤ (s.queue l).jobs.length) :
    s.placement l r.terminal = .notPrinted .queueFull :=
  (if_neg (by simp [State.enrolled, enrolled])).trans (if_pos full)

theorem State.placement_room (enrolled : (s.station r.terminal).state = .enrolled) (room : (s.queue l).jobs.length < 8) :
    s.placement l r.terminal = .pending :=
  (if_neg (by simp [State.enrolled, enrolled])).trans (if_neg (Nat.not_le.2 room))

end

/-! ## The commits (R89–R93) -/

theorem mem_earnedAnomalies (c : LaneContext) (w : Weight) (pass : Bool) (a : Anomaly) :
    a ∈ earnedAnomalies c w pass ↔ (match a with
      | .overload => c.passage = some .inbound ∧ ∃ v m, c.vehicle = some v ∧ v.maxGross = some m ∧ (m : Int) < w.kg
      | .negativeNet => c.negativeReleased = true
      | .tareCheckFail => pass = false
      | .degraded => w.degraded = true
      | .forced => False) := by
  have earned (p : Prop) [Decidable p] (x : Anomaly) : a ∈ (if p then [x] else []) ↔ p ∧ a = x := by
    split <;> simp_all
  have spared (x : Anomaly) : a ∈ (if pass then [] else [x]) ↔ pass = false ∧ a = x := by
    cases pass <;> simp
  unfold earnedAnomalies
  rw [List.mem_append, List.mem_append, List.mem_append, earned, earned, spared, earned]
  cases a <;> simp [Option.any_eq_true, Option.bind_eq_some_iff]

section
variable {s : State} {l : LaneId} {w : Weight} {pass : Bool} {k : Nat}

theorem State.commitIn_made {v : Vehicle} {x : Visit} (vehicle : (s.lane l).vehicle = some v)
    (reserved : (s.lane l).reservation = some k) (found : s.visit k = some x) (state : x.state = .reserved)
    (own : x.entryLane = l) :
    s.commitIn l w pass = (s.setLane l { s.lane l with reservation := none }).commitInbound k
      { lane := l, weight := w, anomalies := earnedAnomalies (s.lane l) w pass } v.account v.category := by
  have target : ((s.lane l).reservation.bind s.visit).filter (fun v => v.state == .reserved && v.entryLane == l) = some x := by
    rw [reserved, Option.bind_some, found, Option.filter_some, if_pos (by simp [state, own])]
  unfold State.commitIn
  dsimp only
  split
  next hv hx =>
    cases vehicle.symm.trans hv
    cases target.symm.trans hx
    rw [State.visit_key found]
    rfl
  next none => exact absurd target (none v x vehicle)

theorem State.commitIn_gone {v : Vehicle} (vehicle : (s.lane l).vehicle = some v) (reserved : (s.lane l).reservation = some k)
    (gone : ∀ x, s.visit k = some x → x.state ≠ .reserved ∨ x.entryLane ≠ l) :
    s.commitIn l w pass = (s.setLane l { s.lane l with reservation := none }).post (.visitGone l (some v.ident)) := by
  have none : (s.visit k).filter (fun x => x.state == .reserved && x.entryLane == l) = none := by
    rw [Option.filter_eq_none_iff]
    intro x found
    have := gone x found
    simpa [imp_iff_not_or] using this
  unfold State.commitIn
  dsimp only
  split
  next hx =>
    rw [reserved, Option.bind_some, none] at hx
    cases hx
  next => exact congrArg (fun ident => (s.setLane l _).post (.visitGone l ident)) (congrArg (Option.map Vehicle.ident) vehicle)

theorem State.commitCapture_inbound (inbound : (s.lane l).passage = some .inbound) :
    s.commitCapture l w pass = s.commitIn l w pass := by
  unfold State.commitCapture
  rw [inbound]

theorem State.commitCapture_outbound (outbound : (s.lane l).passage = some .outbound) :
    s.commitCapture l w pass = (s.liveTarget l).elim s fun v => s.commitOut l w pass v := by
  unfold State.commitCapture
  rw [outbound]
  cases s.liveTarget l <;> rfl

theorem State.liveTarget_some {x : Visit} (target : (s.lane l).target = some k) (found : s.visit k = some x)
    (out : x.state.out = true) : s.liveTarget l = some x := by
  rw [State.liveTarget, target, Option.bind_some, found, Option.filter_some, if_pos out]

theorem State.liveTarget_none (absent : (s.lane l).target = none) : s.liveTarget l = none := by
  rw [State.liveTarget, absent]
  rfl

end

theorem Visit.withNet_some {v : Visit} {g : Weight} {t : Tare} (gross : v.gross = some g) (tare : v.tare = some t) :
    v.withNet = { v with net := some (g.kg - t.kg) } := by
  simp only [Visit.withNet, gross, tare]

theorem Visit.withNet_none {v : Visit} (missing : v.gross = none ∨ v.tare = none) : v.withNet = v := by
  unfold Visit.withNet
  split
  next gross tare => rcases missing with h | h <;> simp_all
  next => rfl

theorem State.addAnomalies_visit {s : State} {k : Nat} {v : Visit} (found : s.visit k = some v) (xs : List Anomaly)
    (lane : Option LaneId) :
    (s.addAnomalies k xs lane).visit k = some { v with anomalies := v.anomalies ++ v.fresh xs } := by
  rw [State.addAnomalies_eq found, State.visit_posted, State.visit_updateVisit found]
  exact fun _ => rfl

theorem State.finishVisit_visit {s : State} {k : Nat} {v : Visit} (found : s.visit k = some v) :
    ∃ w, (s.finishVisit k).visit k = some w ∧ w.tarePolicy = v.tarePolicy ∧ w.ident = v.ident := by
  by_cases pending : v.outcome = some .pending
  · rw [State.finishVisit_pending found pending]
    exact ⟨_, State.visit_updateVisit found _ fun _ => rfl, rfl, rfl⟩
  · rw [State.finishVisit_closes found pending, State.visit_post]
    exact ⟨_, State.visit_updateVisit found _ fun _ => rfl, rfl, rfl⟩

section
variable {s : State} {k : Nat} {v : Visit} {c : Commit}

theorem State.commitInbound_weighEach (found : s.visit k = some v) (policy : v.tarePolicy = .weighEach) (account : Nat)
    (category : Option CategoryNo) :
    s.commitInbound k c account category =
      ((s.updateVisit k fun x =>
        { x with account := account, category := category, gross := some c.weight, state := .open_ }).addAnomalies
          k c.anomalies (some c.lane)).postOpened k := by
  simp only [State.commitInbound, found]
  rw [if_pos policy]

theorem State.commitInbound_stored (found : s.visit k = some v) (policy : v.tarePolicy ≠ .weighEach) (account : Nat)
    (category : Option CategoryNo) :
    s.commitInbound k c account category =
      ((((s.updateVisit k fun x => Visit.withNet
        { x with account := account, category := category, gross := some c.weight,
                 tare := x.storedTare.map Tare.stored }).addAnomalies
          k c.anomalies (some c.lane)).stampTicket k v.entryLane).updateVisit k
            fun x => { x with state := .ticketed }).postOpened k := by
  simp only [State.commitInbound, found]
  rw [if_neg policy]

theorem State.commitOutboundTicketed_eq (found : s.visit k = some v) (pass : Bool) :
    let t := ((s.updateVisit k fun x =>
      { x with exitWeight := some c.weight, exitLane := some c.lane, tareCheck := some pass }).addAnomalies
        k c.anomalies (some c.lane)).finishVisit k
    s.commitOutboundTicketed k c pass = if pass = true ∧ v.tarePolicy = .storedAuto then
      { t with tareUpdates := t.tareUpdates ++ [{ ident := v.ident, kg := c.weight.kg, stamp := c.weight.stamp }] }
    else t := by
  have written := State.visit_updateVisit found
    (fun x => { x with exitWeight := some c.weight, exitLane := some c.lane, tareCheck := some pass }) fun _ => rfl
  obtain ⟨w, finished, policy, ident⟩ := State.finishVisit_visit (State.addAnomalies_visit written c.anomalies (some c.lane))
  simp only [State.commitOutboundTicketed, finished, policy, ident]

end

end Sys2Proof.Machine

namespace Sys2Proof.Settled
open Machine

/-- Settles O48: the head job of the terminal's queue, and the write of its outcome by its link. -/
theorem printOutcomes : Obligations.PrintOutcomes := by
  refine ⟨fun s n c => ⟨State.ticketCode_noLane, fun l lane => ⟨fun ready held => ?ready, fun other => ?other⟩⟩,
    fun s before after v split first => ⟨State.visit_of_split split first, State.visitPosition_first split first⟩,
    fun s n m rest number hm kind low high =>
      ⟨fun l j jobs f lane head awaits named => ?matched, fun room other o => ?note⟩,
    fun s l f waits phase late => ?wait, fun s l j jobs o v head settled found room => ?leaves⟩
  case ready => rw [State.ticketCode_ready lane ready, if_pos held]
  case other =>
    rcases Nat.lt_or_ge 3 c.toNat with out | ready
    · exact State.ticketCode_other out
    · rw [State.ticketCode_ready lane ready, if_neg (other.resolve_left (Nat.not_lt.2 ready))]
  case matched =>
    have matched : (s.messagesLeft n rest).matchedQueue n number = some l :=
      State.matchedQueue_awaited (s := s) lane head awaits named
    obtain ⟨printed, jam, fault, paperOut⟩ := State.printReported_matched matched
    have outcome {o : PrintReport} {u : State} (told : (s.messagesLeft n rest).printReported n ⟨number, o⟩ = u) :=
      (exec_printOutcome hm kind low high o).trans (congrArg Host.Outcome.next told)
    refine ⟨outcome printed, outcome jam, outcome fault, fun room => outcome (paperOut.trans ?_)⟩
    rw [State.holdJob_eq (show ((s.messagesLeft n rest).queue l).jobs = j :: jobs from head)]
    exact State.post_room (s := (s.messagesLeft n rest).setQueue l _) room _
  case note =>
    have unmatched : (s.messagesLeft n rest).matchedQueue n number = none := State.matchedQueue_none (s := s) other
    refine (exec_printOutcome hm kind low high o).trans (congrArg _ ?_)
    rw [State.printReported_note unmatched]
    exact State.post_room (s := s.messagesLeft n rest) room _
  case wait =>
    have ended : (s.queue l).waitOver = true := by
      simp only [TicketQueue.waitOver, phase, Bool.and_eq_true, decide_eq_true_eq]
      exact ⟨by simpa using waits, late⟩
    exact congrArg Host.Outcome.next (if_pos ended)
  case leaves =>
    have first : s.RoomForReport := Nat.lt_succ_of_lt room
    have left := State.jobLeaves_eq head o
    rw [State.post_room (s := s.setQueue l _) first] at left
    refine ⟨fun stays => ?_, fun closing => ?_⟩
    · exact left.trans (State.writeOutcome_stays (s := (s.setQueue l _).reported _) found stays)
    · refine (left.trans (State.writeOutcome_closes (s := (s.setQueue l _).reported _) found closing settled)).trans (State.post_room ?_ _)
      simp only [State.RoomForReport, State.reported, State.updateVisit, List.length_append, List.length_singleton]
      exact Nat.succ_lt_succ room

/-- Settles O47: each operation on the visit by what it writes and posts, and the stamp by the place of its job. -/
theorem ticketStamped : Obligations.TicketStamped := by
  refine ⟨fun s l w pass => ⟨fun v k x inbound vehicle reserved found state own => ?made,
      fun v k inbound vehicle reserved room gone => ?gone,
      fun k x outbound target found => ⟨fun opened => ?opened, fun ticketed => ?ticketed⟩,
      fun outbound absent => ?noTarget, mem_earnedAnomalies _ w pass⟩,
    fun s k v xs lane found room => ?noted,
    fun v => ⟨fun g t => Visit.withNet_some, Visit.withNet_none, fun _ => rfl, fun _ => rfl⟩,
    fun s k v found => ⟨fun room => ?posted, State.finishVisit_pending found, fun settled room => ?closed,
      fun c => ⟨fun account category policy => State.commitInbound_weighEach found policy account category,
        fun account category policy => State.commitInbound_stored found policy account category, rfl,
        State.commitOutboundTicketed_eq found⟩⟩,
    fun s k n l v r gross tare net counter found record hg ht hnet room => ?stamp⟩
  case made =>
    exact (State.commitCapture_inbound inbound).trans (State.commitIn_made vehicle reserved found state own)
  case gone =>
    exact (State.commitCapture_inbound inbound).trans
      ((State.commitIn_gone vehicle reserved gone).trans (State.post_room (s := s.setLane l _) room _))
  case opened =>
    rw [State.commitCapture_outbound outbound, State.liveTarget_some target found ((out_iff _).2 (.inl opened))]
    rw [Option.elim_some, State.commitOut]
    rw [if_pos opened, State.visit_key found]
  case ticketed =>
    rw [State.commitCapture_outbound outbound, State.liveTarget_some target found ((out_iff _).2 (.inr ticketed))]
    rw [Option.elim_some, State.commitOut]
    rw [if_neg (by simp [ticketed]), State.visit_key found]
  case noTarget => rw [State.commitCapture_outbound outbound, State.liveTarget_none absent, Option.elim_none]
  case noted =>
    have fresh : v.fresh xs = xs.filter fun a => decide (a ∉ v.anomalies) := by
      refine List.filter_congr fun a _ => ?_
      by_cases carried : a ∈ v.anomalies <;> simp [carried]
    rw [State.addAnomalies_eq found, fresh, State.posted_room (by simpa [State.updateVisit] using room), List.map_map]
    rfl
  case posted => exact (State.postOpened_eq found).trans (State.post_room room _)
  case closed => exact (State.finishVisit_closes found settled).trans (State.post_room (s := s.updateVisit k _) room _)
  case stamp =>
    have stamped := State.stampTicket_eq counter found record hg ht hnet
    refine ⟨fun lost => ?_, fun enrolled full => ?_, fun enrolled empty => ?_, fun enrolled waits short => ?_⟩
    · rw [State.placement_lost lost] at stamped
      exact stamped.trans (State.post_room (by exact room) _)
    · rw [State.placement_full enrolled full] at stamped
      exact stamped.trans (State.post_room (by exact room) _)
    · rw [State.placement_room enrolled (by simp [empty])] at stamped
      have joined : (s.queue l).joined (ticketJob s n l r.terminal v gross tare net) =
          { jobs := [ticketJob s n l r.terminal v gross tare net], phase := .waiting } := by
        simp [TicketQueue.joined, empty]
      simp only [if_true, joined, State.queue_setQueue_self, List.length_singleton] at stamped
      refine stamped.trans ((State.post_room (by exact room) _).trans ?_)
      rfl
    · rw [State.placement_room enrolled short] at stamped
      have joined : (s.queue l).joined (ticketJob s n l r.terminal v gross tare net) =
          { s.queue l with jobs := (s.queue l).jobs ++ [ticketJob s n l r.terminal v gross tare net] } := by
        simp [TicketQueue.joined, waits]
      simp only [if_true, joined, State.queue_setQueue_self, List.length_append, List.length_singleton] at stamped
      refine stamped.trans ((State.post_room (by exact room) _).trans ?_)
      rfl

end Sys2Proof.Settled

/-! PROOFS. Orders of the office at the barriers: what an order leaves of a record, when it applies, and a group of them. -/

namespace Sys2Proof.Machine

/-! ## What an order leaves of a record in service (R107, R118) -/

theorem outOfService_iff (b : BarrierRecord) : b.outOfService = true ↔ b.state = .fault ∨ b.state = .manual := by
  simp [BarrierRecord.outOfService]

/-- The record an order leaves of one in service. -/
def BarrierRecord.ordered (b : BarrierRecord) (limit : Nat) : BarrierOrder → BarrierRecord
  | .hold => { b with commanded := .hold, pendingLower := false, timer := none, state := .held }
  | .raise =>
    if b.commanded = .raise then { b with pendingLower := false, timer := if b.state = .up then b.timer else some 0 }
    else { b with
      commanded := .raise, pendingLower := false, limit := limit
      timer := if b.position = .up then none else some 0
      state := if b.position = .up then .up else .raising }
  | .lower =>
    if b.loop = some .occupied then { b with pendingLower := true }
    else if b.commanded = .lower then { b with pendingLower := false, timer := if b.state = .down then b.timer else some 0 }
    else { b with
      commanded := .lower, pendingLower := false, limit := limit
      timer := if b.position = .down then none else some 0
      state := if b.position = .down then .down else .lowering }

theorem BarrierRecord.settled_inService {b : BarrierRecord} (serves : b.outOfService = false) :
    b.settled = { b with state := barrierState b.commanded b.position } := if_neg (by simp [serves])

theorem barrierState_raise (p : Position) : barrierState .raise p = if p = .up then .up else .raising := by
  cases p <;> rfl

theorem barrierState_lower (p : Position) : barrierState .lower p = if p = .down then .down else .lowering := by
  cases p <;> rfl

section
variable {b : BarrierRecord} (serves : b.outOfService = false) (limit : Nat)
include serves

theorem BarrierRecord.applyHold_inService : b.applyHold = b.ordered limit .hold := by
  rw [BarrierRecord.applyHold, if_neg (by simp [serves])]
  exact BarrierRecord.settled_inService (by exact serves)

theorem BarrierRecord.applyRaise_inService : b.applyRaise limit = b.ordered limit .raise := by
  unfold BarrierRecord.applyRaise BarrierRecord.ordered
  dsimp only
  split
  · split <;> rfl
  · refine (BarrierRecord.settled_inService (by exact serves)).trans ?_
    dsimp only
    rw [barrierState_raise]

theorem BarrierRecord.applyLower_inService : b.applyLower limit = b.ordered limit .lower := by
  unfold BarrierRecord.applyLower BarrierRecord.ordered
  dsimp only
  split
  · rfl
  · split
    · split <;> rfl
    · refine (BarrierRecord.settled_inService (by exact serves)).trans ?_
      dsimp only
      rw [barrierState_lower]

end

/-! ## An order applied, and the report of it -/

section
variable (s : State) (n : StationId)

/-- A record written with the command code that goes with it. -/
theorem State.putBarrier_eq (b : BarrierRecord) :
    s.putBarrier n b = (s.setBarrier n (some b)).setSlot n { s.slot n with command := b.commanded.code } := rfl

theorem State.postBarrier_eq {b : BarrierRecord} (record : s.barrier n = some b) (why : BarrierReason) :
    s.postBarrier n why = s.post (.barrier why (s.barrierSnapshot n b)) := by
  simp only [State.postBarrier, record]

theorem State.putBarrier_post (b : BarrierRecord) (why : BarrierReason) :
    (s.putBarrier n b).postBarrier n why = (s.putBarrier n b).post (.barrier why (s.barrierSnapshot n b)) :=
  State.postBarrier_eq _ n (by simp [State.putBarrier_eq]) why

/-- An order applied to a barrier in service writes the record it leaves and reports it. -/
theorem State.applyOrder_inService {b : BarrierRecord} (serves : b.outOfService = false) (o : BarrierOrder) :
    s.applyOrder n b o = (s.putBarrier n (b.ordered (s.smallestLimit n) o)).post
      (.barrier (.orderApplied o) (s.barrierSnapshot n (b.ordered (s.smallestLimit n) o))) := by
  unfold State.applyOrder
  cases o with
  | raise => rw [← BarrierRecord.applyRaise_inService serves, ← State.putBarrier_post]
  | lower => rw [← BarrierRecord.applyLower_inService serves, ← State.putBarrier_post]
  | hold =>
    dsimp only
    rw [if_neg (by simp [serves]), ← BarrierRecord.applyHold_inService serves, ← State.putBarrier_post]

theorem State.applyHold_stopped {b : BarrierRecord} (stopped : b.outOfService = true) : s.applyOrder n b .hold = s :=
  if_pos stopped

/-! ## The lanes of a barrier -/

theorem State.mem_lanesWhere (p : LaneRecord → Bool) (l : LaneId) :
    l ∈ s.lanesWhere p ↔ ∃ r, s.laneRecord l = some r ∧ p r = true := by
  have all : l ∈ allLanes := by revert l; decide
  simp [State.lanesWhere, all, Option.any_eq_true]

theorem namesBarrier_iff (r : LaneRecord) : r.namesBarrier n = true ↔ r.entryBarrier = n ∨ r.exitBarrier = n := by
  simp [LaneRecord.namesBarrier]

theorem quiet_iff (x : LaneState) :
    x.quiet = true ↔ x = .closed ∨ x = .idle ∨ x = .referred ∨ x = .refused ∨ x = .fault ∨ x = .recover := by
  cases x <;> simp [LaneState.quiet]

theorem State.lanesQuiet_iff : s.lanesQuiet n = true ↔ ∀ l r, s.laneRecord l = some r →
    (r.entryBarrier = n ∨ r.exitBarrier = n) → (s.lane l).state.quiet = true := by
  simp only [State.lanesQuiet, List.all_eq_true, State.mem_lanesWhere, namesBarrier_iff]
  exact ⟨fun h l r record named => h l ⟨r, record, named⟩, fun h l ⟨r, record, named⟩ => h l r record named⟩

/-- The least value met in a list, from the first on. -/
theorem foldl_min_spec {α : Type} (f : α → Nat) (xs : List α) (m : Nat) :
    let least := xs.foldl (fun k x => min k (f x)) m
    least ≤ m ∧ (∀ x ∈ xs, least ≤ f x) ∧ (least = m ∨ ∃ x ∈ xs, least = f x) := by
  induction xs generalizing m with
  | nil => exact ⟨Nat.le_refl _, fun _ h => absurd h List.not_mem_nil, .inl rfl⟩
  | cons x xs ih =>
    obtain ⟨start, below, reached⟩ := ih (min m (f x))
    refine ⟨start.trans (Nat.min_le_left _ _), fun y hy => ?_, ?_⟩
    · rcases List.mem_cons.1 hy with rfl | later
      · exact start.trans (Nat.min_le_right _ _)
      · exact below y later
    · rcases reached with same | ⟨y, hy, same⟩
      · rcases Nat.le_total m (f x) with le | le
        · exact .inl (same.trans (Nat.min_eq_left le))
        · exact .inr ⟨x, List.mem_cons_self, same.trans (Nat.min_eq_right le)⟩
      · exact .inr ⟨y, List.mem_cons_of_mem _ hy, same⟩

/-- The records of the lanes that name a barrier. -/
theorem State.mem_barrierRecords (r : LaneRecord) : r ∈ (s.lanesWhere fun r => r.namesBarrier n).filterMap s.laneRecord ↔
    ∃ l, s.laneRecord l = some r ∧ (r.entryBarrier = n ∨ r.exitBarrier = n) := by
  simp only [List.mem_filterMap, State.mem_lanesWhere, namesBarrier_iff]
  constructor
  · rintro ⟨l, ⟨q, record, named⟩, same⟩
    cases record.symm.trans same
    exact ⟨l, same, named⟩
  · rintro ⟨l, record, named⟩
    exact ⟨l, ⟨r, record, named⟩, record⟩

theorem State.smallestLimit_spec :
    (∀ l r, s.laneRecord l = some r → (r.entryBarrier = n ∨ r.exitBarrier = n) → s.smallestLimit n ≤ r.motionLimit)
      ∧ ((∃ l r, s.laneRecord l = some r ∧ (r.entryBarrier = n ∨ r.exitBarrier = n)) →
        ∃ l r, s.laneRecord l = some r ∧ (r.entryBarrier = n ∨ r.exitBarrier = n) ∧ s.smallestLimit n = r.motionLimit) := by
  have records := s.mem_barrierRecords n
  unfold State.smallestLimit
  split
  next empty =>
    rw [empty] at records
    refine ⟨fun l r record named => ?_, fun ⟨l, r, record, named⟩ => ?_⟩
    all_goals exact absurd ((records r).2 ⟨l, record, named⟩) List.not_mem_nil
  next first others all =>
    rw [all] at records
    obtain ⟨start, below, reached⟩ := foldl_min_spec LaneRecord.motionLimit others first.motionLimit
    refine ⟨fun l r record named => ?_, fun _ => ?_⟩
    · rcases List.mem_cons.1 ((records r).2 ⟨l, record, named⟩) with rfl | later
      · exact start
      · exact below r later
    · rcases reached with same | ⟨r, hr, same⟩
      · obtain ⟨l, record, named⟩ := (records first).1 List.mem_cons_self
        exact ⟨l, first, record, named, same⟩
      · obtain ⟨l, record, named⟩ := (records r).1 (List.mem_cons_of_mem _ hr)
        exact ⟨l, r, record, named, same⟩

end

/-! ## An order dealt with, by the first line of its table (R115) -/

section
variable {s : State} {n : StationId} {b : BarrierRecord}

theorem State.orderOutcome_stopped (stopped : b.outOfService = true) (o : BarrierOrder) :
    s.orderOutcome n b o = if o = .hold then .applied else .busy := by
  rw [State.orderOutcome, if_pos stopped]

theorem State.orderOutcome_busy (serves : b.outOfService = false) (busy : s.lanesQuiet n = false) (o : BarrierOrder) :
    s.orderOutcome n b o = if o = .hold then .applied else .busy := by
  rw [State.orderOutcome, if_neg (by simp [serves]), if_pos (by simp [busy])]

theorem State.orderOutcome_quiet (serves : b.outOfService = false) (quiet : s.lanesQuiet n = true) (o : BarrierOrder) :
    s.orderOutcome n b o = if b.mode = .direct then .applied else .staged := by
  rw [State.orderOutcome, if_neg (by simp [serves]), if_neg (by simp [quiet])]

theorem State.dealOrder_applied {o : BarrierOrder} (outcome : s.orderOutcome n b o = .applied) :
    s.dealOrder n b o = s.applyOrder n b o := by
  simp only [State.dealOrder, outcome]

theorem State.dealOrder_staged {o : BarrierOrder} (outcome : s.orderOutcome n b o = .staged) :
    s.dealOrder n b o = s.setBarrier n (some { b with staged := some o }) := by
  simp only [State.dealOrder, outcome]

theorem State.namedBarrier_outside {m : Nat} (outside : m = 0 ∨ 24 < m) : s.namedBarrier m = none := by
  simp only [State.namedBarrier, stationOf_none outside]

theorem State.namedBarrier_none (absent : s.barrier n = none) : s.namedBarrier (n.val + 1) = none := by
  simp only [State.namedBarrier, stationOf_succ, absent, Option.map_none]

theorem State.namedBarrier_succ (record : s.barrier n = some b) : s.namedBarrier (n.val + 1) = some (n, b) := by
  simp only [State.namedBarrier, stationOf_succ, record, Option.map_some]

theorem barrierOrder_bad {m : Nat} {o : BarrierOrder} (unnamed : s.namedBarrier m = none) :
    barrierOrder { station := m, order := o } s = refuse s .bad := by
  simp only [barrierOrder, unnamed]

theorem barrierOrder_busy {o : BarrierOrder} (record : s.barrier n = some b) (outcome : s.orderOutcome n b o = .busy) :
    barrierOrder { station := n.val + 1, order := o } s = refuse s .busy := by
  simp only [barrierOrder, State.namedBarrier_succ record, outcome]

theorem barrierOrder_applied {o : BarrierOrder} (record : s.barrier n = some b) (outcome : s.orderOutcome n b o = .applied) :
    barrierOrder { station := n.val + 1, order := o } s = accept (s.applyOrder n b o) .applied := by
  simp only [barrierOrder, State.namedBarrier_succ record, outcome, State.dealOrder_applied outcome]

theorem barrierOrder_staged {o : BarrierOrder} (record : s.barrier n = some b) (outcome : s.orderOutcome n b o = .staged) :
    barrierOrder { station := n.val + 1, order := o } s =
      accept (s.setBarrier n (some { b with staged := some o })) .staged := by
  simp only [barrierOrder, State.namedBarrier_succ record, outcome, State.dealOrder_staged outcome]

/-- An order that falls due (R117). -/
theorem State.orderDue_eq (s : State) (n : StationId) (b : BarrierRecord) (o : BarrierOrder) :
    s.orderDue n b o =
      if s.lanesQuiet n = true ∧ (o = .hold ∨ b.outOfService = false) then
        (s.setBarrier n (some { b with staged := none })).applyOrder n { b with staged := none } o
      else (s.setBarrier n (some { b with staged := none })).post
        (.barrier (.stagedDiscarded o) (s.barrierSnapshot n { b with staged := none })) := by
  have applies : (s.setBarrier n (some { b with staged := none })).dueOrderApplies n b o = s.dueOrderApplies n b o := rfl
  unfold State.orderDue
  dsimp only
  rw [applies, State.postBarrier_eq _ n (State.barrier_setBarrier_self ..)]
  by_cases due : s.lanesQuiet n = true ∧ (o = .hold ∨ b.outOfService = false)
  · rw [if_pos due, if_pos (by simpa [State.dueOrderApplies] using due)]
  · rw [if_neg due, if_neg (by simpa [State.dueOrderApplies] using due)]
    rfl

end

end Sys2Proof.Machine

namespace Sys2Proof.Machine

/-! ## The requests for staged orders and for the mode of a barrier (R116–R119) -/

section
variable {s : State} {n : StationId} {b : BarrierRecord}

theorem releaseStaged_unnamed {m : Nat} (unnamed : s.namedBarrier m = none) : releaseStaged m s = refuse s .bad := by
  simp only [releaseStaged, unnamed]

theorem releaseStaged_bad (record : s.barrier n = some b) (bad : b.mode ≠ .stagedMsg ∨ b.staged = none) :
    releaseStaged (n.val + 1) s = refuse s .bad := by
  simp only [releaseStaged, State.namedBarrier_succ record]
  split
  · rfl
  next staged =>
    refine if_pos (bad.resolve_right ?_)
    rw [staged]
    exact Option.some_ne_none _

theorem releaseStaged_ok {o : BarrierOrder} (record : s.barrier n = some b) (mode : b.mode = .stagedMsg)
    (staged : b.staged = some o) :
    releaseStaged (n.val + 1) s =
      if s.dueOrderApplies n b o then accept (s.orderDue n b o) .none else refuse (s.orderDue n b o) .busy := by
  simp only [releaseStaged, State.namedBarrier_succ record, staged]
  rw [if_neg (not_not.2 mode)]

theorem setBarrierMode_unnamed {m : Nat} {mode : OfficeMode} {edge : Option EdgeSelect} (unnamed : s.namedBarrier m = none) :
    setBarrierMode { station := m, mode := mode, edge := edge } s = refuse s .bad := by
  simp only [setBarrierMode, unnamed]

theorem setBarrierMode_keeps {mode : OfficeMode} {edge : Option EdgeSelect} (record : s.barrier n = some b)
    (keeps : mode ≠ .direct ∨ b.staged = none) :
    setBarrierMode { station := n.val + 1, mode := mode, edge := edge } s =
      accept (s.setBarrier n (some { b with mode := mode, edge := edge.getD b.edge }))
        (.barrierMode mode (edge.getD b.edge) b.staged) := by
  have staged : (if mode = .direct then none else b.staged) = b.staged := by
    rcases keeps with other | empty
    · rw [if_neg other]
    · rw [empty, ite_self]
  simp only [setBarrierMode, State.namedBarrier_succ record, staged]
  split
  next _ held =>
    rcases keeps with other | empty
    · exact absurd rfl other
    · rw [empty] at held
      cases held
  next => rfl

theorem setBarrierMode_discards {edge : Option EdgeSelect} {o : BarrierOrder} (record : s.barrier n = some b)
    (staged : b.staged = some o) :
    setBarrierMode { station := n.val + 1, mode := .direct, edge := edge } s =
      accept ((s.setBarrier n (some { b with mode := .direct, edge := edge.getD b.edge, staged := none })).post
          (.barrier (.stagedDiscarded o)
            (s.barrierSnapshot n { b with mode := .direct, edge := edge.getD b.edge, staged := none })))
        (.barrierMode .direct (edge.getD b.edge) none) := by
  simp only [setBarrierMode, State.namedBarrier_succ record, staged, if_true]
  rw [State.postBarrier_eq _ n (State.barrier_setBarrier_self ..)]
  rfl

theorem inService_iff : b.outOfService = false ↔ ¬ (b.state = .fault ∨ b.state = .manual) := by
  rw [← outOfService_iff, Bool.not_eq_true]

theorem BarrierRecord.ordered_raise_again {limit : Nat} (again : b.commanded = .raise) : b.ordered limit .raise =
    { b with pendingLower := false, timer := if b.state = .up then b.timer else some 0 } := if_pos again

theorem BarrierRecord.ordered_raise_new {limit : Nat} (new : b.commanded ≠ .raise) : b.ordered limit .raise =
    { b with
      commanded := .raise, pendingLower := false, limit := limit
      timer := if b.position = .up then none else some 0
      state := if b.position = .up then .up else .raising } := if_neg new

theorem BarrierRecord.ordered_lower_held {limit : Nat} (occupied : b.loop = some .occupied) : b.ordered limit .lower =
    { b with pendingLower := true } := if_pos occupied

theorem BarrierRecord.ordered_lower_again {limit : Nat} (clear : b.loop ≠ some .occupied) (again : b.commanded = .lower) :
    b.ordered limit .lower =
      { b with pendingLower := false, timer := if b.state = .down then b.timer else some 0 } :=
  (if_neg clear).trans (if_pos again)

theorem BarrierRecord.ordered_lower_new {limit : Nat} (clear : b.loop ≠ some .occupied) (new : b.commanded ≠ .lower) :
    b.ordered limit .lower =
      { b with
        commanded := .lower, pendingLower := false, limit := limit
        timer := if b.position = .down then none else some 0
        state := if b.position = .down then .down else .lowering } := (if_neg clear).trans (if_neg new)

end

/-- The state an applied order leaves when the report of it finds room. -/
def State.orderDone (s : State) (n : StationId) (a : BarrierRecord) (o : BarrierOrder) : State :=
  (s.putBarrier n a).reported (.barrier (.orderApplied o) (s.barrierSnapshot n a))

theorem State.applyOrder_room {s : State} {n : StationId} {b : BarrierRecord} (serves : b.outOfService = false)
    (room : s.RoomForReport) (o : BarrierOrder) :
    s.applyOrder n b o = s.orderDone n (b.ordered (s.smallestLimit n) o) o :=
  (s.applyOrder_inService n serves o).trans (State.post_room (s := s.putBarrier n _) room _)

end Sys2Proof.Machine

namespace Sys2Proof.Settled
open Machine

/-- Settles O37: the first line of the table that applies, and each order's record. -/
theorem barrierOrders : Obligations.BarrierOrders := by
  intro s h rest hd
  refine ⟨fun m o outside => exec_served rfl hd (barrierOrder_bad (State.namedBarrier_outside outside)) rfl, fun n =>
    ⟨fun absent o => exec_served rfl hd (barrierOrder_bad (State.namedBarrier_none absent)) rfl, fun b record => ?_⟩⟩
  have applied {o : BarrierOrder} {t : State} (outcome : s.orderOutcome n b o = .applied) (left : s.applyOrder n b o = t)
      (kept : t.buffer = s.buffer) :
      exec (.barrierOrder (.fits { station := n.val + 1, order := o })) s = .next (t.replied h rest .ok .applied) := by
    exact exec_served rfl hd (left ▸ barrierOrder_applied record outcome) kept
  have busy {o : BarrierOrder} (outcome : s.orderOutcome n b o = .busy) :
      exec (.barrierOrder (.fits { station := n.val + 1, order := o })) s = .next (s.replied h rest .busy .none) :=
    exec_served rfl hd (barrierOrder_busy record outcome) rfl
  refine ⟨fun stopped => ?hold, fun stopped o other => ?refused, fun serves waits room => ?heldBusy,
    fun serves waits o other => ?busy, fun serves quiet direct room => ?direct, fun serves quiet staged o => ?staged⟩
  case hold =>
    have out := (outOfService_iff b).2 stopped
    exact applied (State.orderOutcome_stopped out _) (State.applyHold_stopped s n out) rfl
  case refused => exact busy ((State.orderOutcome_stopped ((outOfService_iff b).2 stopped) o).trans (if_neg other))
  case heldBusy =>
    have serving := inService_iff.2 serves
    exact applied (State.orderOutcome_busy serving waits _) (State.applyOrder_room serving room _) rfl
  case busy => exact busy ((State.orderOutcome_busy (inService_iff.2 serves) waits o).trans (if_neg other))
  case direct =>
    have serving := inService_iff.2 serves
    have done (o : BarrierOrder) {a : BarrierRecord} (left : b.ordered (s.smallestLimit n) o = a) :
        exec (.barrierOrder (.fits { station := n.val + 1, order := o })) s =
          .next ((s.orderDone n a o).replied h rest .ok .applied) :=
      applied ((State.orderOutcome_quiet serving quiet o).trans (if_pos direct))
        ((State.applyOrder_room serving room o).trans (by rw [left])) rfl
    exact ⟨done .hold rfl, fun new => done .raise (BarrierRecord.ordered_raise_new new),
      fun again => done .raise (BarrierRecord.ordered_raise_again again),
      fun clear again => done .lower (BarrierRecord.ordered_lower_again clear again),
      fun occupied => done .lower (BarrierRecord.ordered_lower_held occupied),
      fun clear new => done .lower (BarrierRecord.ordered_lower_new clear new)⟩
  case staged =>
    have outcome := (State.orderOutcome_quiet (inService_iff.2 serves) quiet o).trans (if_neg staged)
    exact exec_served rfl hd (barrierOrder_staged record outcome) rfl

/-- Settles O38: an order that falls due by the lanes and the service of its barrier, and the two requests. -/
theorem stagedOrders : Obligations.StagedOrders := by
  refine ⟨fun s n b room => ⟨fun o => ⟨fun quiet serves => ?due, fun waits => ?discarded⟩, ⟨fun stopped => ?stopped,
      fun serves => ?orders⟩, ?quiet, (s.smallestLimit_spec n).1, (s.smallestLimit_spec n).2⟩,
    fun s h rest => ⟨fun hd => ⟨fun m outside => ?outside, fun n => ⟨fun absent => ?absent, fun b record =>
      ⟨fun bad => ?bad, fun o mode staged => ⟨fun quiet serves => ?released, fun waits room => ?refused⟩⟩⟩⟩,
      fun hd mode edge => ⟨fun m outside => ?modeOutside, fun n => ⟨fun absent => ?modeAbsent, fun b record =>
        ⟨fun keeps => ?modeKeeps, fun o direct staged room => ?modeDiscards⟩⟩⟩⟩⟩
  case due =>
    exact (State.orderDue_eq ..).trans (if_pos ⟨quiet, by rwa [inService_iff]⟩)
  case discarded =>
    rw [State.orderDue_eq, if_neg ?_]
    · exact State.post_room (s := s.setBarrier n _) room _
    · rintro ⟨quiet, serves⟩
      rw [inService_iff] at serves
      rcases waits with busy | ⟨other, stopped⟩
      · rw [busy] at quiet
        cases quiet
      · exact (serves.resolve_left other) stopped
  case stopped => exact State.applyHold_stopped s n ((outOfService_iff b).2 stopped)
  case orders =>
    have done (o : BarrierOrder) {a : BarrierRecord} (left : b.ordered (s.smallestLimit n) o = a) :
        s.applyOrder n b o = s.orderDone n a o := left ▸ State.applyOrder_room (inService_iff.2 serves) room o
    exact ⟨done .hold rfl, fun new => done .raise (BarrierRecord.ordered_raise_new new),
      fun again => done .raise (BarrierRecord.ordered_raise_again again),
      fun occupied => done .lower (BarrierRecord.ordered_lower_held occupied),
      fun clear again => done .lower (BarrierRecord.ordered_lower_again clear again),
      fun clear new => done .lower (BarrierRecord.ordered_lower_new clear new)⟩
  case quiet =>
    rw [State.lanesQuiet_iff]
    simp only [quiet_iff]
  case outside => exact exec_served rfl hd (releaseStaged_unnamed (State.namedBarrier_outside outside)) rfl
  case absent => exact exec_served rfl hd (releaseStaged_unnamed (State.namedBarrier_none absent)) rfl
  case bad => exact exec_served rfl hd (releaseStaged_bad record bad) rfl
  case released =>
    have applies : s.dueOrderApplies n b o = true := by
      simpa [State.dueOrderApplies, quiet, BarrierRecord.outOfService] using serves
    have answer := releaseStaged_ok record mode staged
    rw [if_pos applies, State.orderDue_eq, if_pos ⟨quiet, by rw [inService_iff]; simpa using serves⟩] at answer
    exact exec_served rfl hd answer (State.buffer_of_fixed (State.applyOrder_fixed ..))
  case refused =>
    have waits' : ¬ (s.lanesQuiet n = true ∧ (o = .hold ∨ b.outOfService = false)) := by
      rintro ⟨quiet, serves⟩
      rw [inService_iff] at serves
      rcases waits with busy | ⟨other, stopped⟩
      · rw [busy] at quiet
        cases quiet
      · exact (serves.resolve_left other) stopped
    have applies : s.dueOrderApplies n b o = false := by
      rw [← Bool.not_eq_true]
      simpa [State.dueOrderApplies] using waits'
    have answer := releaseStaged_ok record mode staged
    rw [applies, if_neg Bool.false_ne_true, State.orderDue_eq, if_neg waits',
      State.post_room (s := s.setBarrier n _) room] at answer
    exact exec_served rfl hd answer rfl
  case modeOutside => exact exec_served rfl hd (setBarrierMode_unnamed (State.namedBarrier_outside outside)) rfl
  case modeAbsent => exact exec_served rfl hd (setBarrierMode_unnamed (State.namedBarrier_none absent)) rfl
  case modeKeeps => exact exec_served rfl hd (setBarrierMode_keeps record keeps) rfl
  case modeDiscards =>
    subst direct
    have answer := setBarrierMode_discards record (edge := edge) staged
    rw [State.post_room (s := s.setBarrier n _) room] at answer
    exact exec_served rfl hd answer rfl

end Sys2Proof.Settled

/-! PROOFS. A motion timer at its limit, and an order of the office at a group of barriers. -/

namespace Sys2Proof.Machine

/-! ## The lanes a barrier tells (R80, R109) -/

theorem State.lanesOfBarrier_eq (s : State) (n : StationId) :
    s.lanesOfBarrier n =
      allLanes.filter fun l => decide (∃ r, s.laneRecord l = some r ∧ (r.entryBarrier = n ∨ r.exitBarrier = n)) := by
  refine List.filter_congr fun l _ => ?_
  rw [← Bool.coe_iff_coe, Option.any_eq_true, decide_eq_true_iff]
  simp only [namesBarrier_iff]

section
variable {s : State} {l : LaneId} {cause : FaultCause}

theorem State.laneFault_stopped (stopped : (s.lane l).state = .closed ∨ (s.lane l).state = .recover) :
    s.laneFault l cause = s := by
  rcases stopped with state | state <;> simp only [State.laneFault, state]

theorem State.laneFault_known (fault : (s.lane l).state = .fault) (known : cause ∈ (s.lane l).causes) :
    s.laneFault l cause = s := by
  simp only [State.laneFault, fault]
  exact if_pos known

theorem State.laneFault_added (fault : (s.lane l).state = .fault) (new : cause ∉ (s.lane l).causes) :
    s.laneFault l cause =
      (s.updateLane l fun c => { c with causes := c.causes ++ [cause] }).post (.laneCause l cause) := by
  simp only [State.laneFault, fault]
  exact if_neg new

theorem State.laneFault_enters (open_ : (s.lane l).state ≠ .closed) (test : (s.lane l).state ≠ .recover)
    (runs : (s.lane l).state ≠ .fault) :
    s.laneFault l cause =
      (s.updateLane l fun c => { c with causes := insertNew cause c.causes }).enterLane l .fault (.cause cause) := by
  unfold State.laneFault
  split
  next state => exact absurd state open_
  next state => exact absurd state test
  next state => exact absurd state runs
  next => rfl

end

/-! ## Changes worked through in turn, each at its own place -/

/-- Changes that touch different places leave at each place what its own change leaves there. -/
theorem forEach_pointwise {α β : Type} [DecidableEq α] (get : State → α → β) (f : α → State → State) (left : α → β)
    (s : State) {xs : List α} (nodup : xs.Nodup) (away : ∀ t x y, y ≠ x → get (f x t) y = get t y)
    (own : ∀ t x, x ∈ xs → get t x = get s x → get (f x t) x = left x) (y : α) :
    get (forEach xs f s) y = if y ∈ xs then left y else get s y := by
  suffices walk : ∀ (ys : List α) (t : State), ys.Nodup → (∀ x ∈ ys, x ∈ xs ∧ get t x = get s x) →
      get (forEach ys f t) y = if y ∈ ys then left y else get t y from walk xs s nodup fun x hx => ⟨hx, rfl⟩
  intro ys
  induction ys with
  | nil => exact fun t _ _ => rfl
  | cons x ys ih =>
    intro t nodup kept
    obtain ⟨fresh, nodup⟩ := List.nodup_cons.1 nodup
    have later : ∀ z ∈ ys, z ∈ xs ∧ get (f x t) z = get s z := fun z hz =>
      ⟨(kept z (List.mem_cons_of_mem _ hz)).1,
        (away t x z fun same => fresh (same ▸ hz)).trans (kept z (List.mem_cons_of_mem _ hz)).2⟩
    rw [forEach_cons, ih (f x t) nodup later]
    by_cases here : y = x
    · subst here
      obtain ⟨mem, same⟩ := kept y List.mem_cons_self
      rw [if_neg fresh, if_pos List.mem_cons_self, own t y mem same]
    · by_cases mem : y ∈ ys
      · rw [if_pos mem, if_pos (List.mem_cons_of_mem _ mem)]
      · rw [if_neg mem, away t x y here, if_neg (by simp [here, mem])]

/-! ## One station of a group order (R120) -/

section
variable (s : State) (o : BarrierOrder)

/-- What a group order does to one station, on the record the station had. -/
def State.groupDeal (t : State) (n : StationId) : State :=
  match s.barrier n, s.groupOutcome n o with
  | some b, .applied =>
    ((t.setBarrier n (some (b.ordered (s.smallestLimit n) o))).setSlot n
      { s.slot n with command := (b.ordered (s.smallestLimit n) o).commanded.code }).post
      (.barrier (.orderApplied o) (s.barrierSnapshot n (b.ordered (s.smallestLimit n) o)))
  | some b, .staged => t.setBarrier n (some { b with staged := some o })
  | _, _ => t

theorem State.groupOutcome_eq (n : StationId) : s.groupOutcome n o =
    (s.barrier n).elim .notABarrier fun b =>
      if b.state = .fault ∨ b.state = .manual then .skipped
      else if s.lanesQuiet n = false then (if o = .hold then .applied else .refused)
      else if b.mode = .direct then .applied
      else .staged := by
  unfold State.groupOutcome
  cases s.barrier n with
  | none => rfl
  | some b =>
    dsimp only [Option.elim_some]
    by_cases stopped : b.outOfService = true
    · rw [if_pos stopped, if_pos ((outOfService_iff b).1 stopped)]
    · rw [if_neg stopped, if_neg (mt (outOfService_iff b).2 stopped)]
      rw [Bool.not_eq_true] at stopped
      cases quiet : s.lanesQuiet n with
      | false =>
        rw [if_pos rfl, State.orderOutcome_busy stopped quiet]
        by_cases hold : o = .hold
        · rw [if_pos hold, if_pos hold]
        · rw [if_neg hold, if_neg hold]
      | true =>
        rw [if_neg (by simp), State.orderOutcome_quiet stopped quiet]
        by_cases direct : b.mode = .direct
        · rw [if_pos direct, if_pos direct]
        · rw [if_neg direct, if_neg direct]

end

section
variable {s t : State} {o : BarrierOrder}

/-- A state whose lanes are those of another deals with an order as that one does. -/
theorem State.groupStep_eq_deal {n : StationId} (lanes : t.lanes = s.lanes) (table : t.laneTable = s.laneTable)
    (record : t.barrier n = s.barrier n) (slot : t.slot n = s.slot n) : t.groupStep n o = s.groupDeal o t n := by
  have laneSame (l : LaneId) : t.lane l = s.lane l := by rw [State.lane, State.lane, lanes]
  have recordSame (l : LaneId) : t.laneRecord l = s.laneRecord l := by rw [State.laneRecord, State.laneRecord, table]
  have still : t.lanesQuiet n = s.lanesQuiet n := by simp only [State.lanesQuiet, State.lanesWhere, laneSame, recordSame]
  have quiet (b : BarrierRecord) : t.orderOutcome n b o = s.orderOutcome n b o := by
    rw [State.orderOutcome, State.orderOutcome, still]
  have limit : t.smallestLimit n = s.smallestLimit n := by
    simp only [State.smallestLimit, State.lanesWhere, recordSame]
  have snapshot (b : BarrierRecord) : t.barrierSnapshot n b = s.barrierSnapshot n b := by
    simp only [State.barrierSnapshot, State.barrierLanes, recordSame, laneSame]
  unfold State.groupStep State.groupDeal State.groupOutcome
  rw [record]
  cases s.barrier n with
  | none => rfl
  | some b =>
    dsimp only
    by_cases stopped : b.outOfService = true
    · rw [if_pos stopped, if_pos stopped]
    · rw [if_neg stopped, if_neg stopped]
      rw [Bool.not_eq_true] at stopped
      cases outcome : s.orderOutcome n b o with
      | busy => simp only [State.dealOrder, quiet, outcome]
      | staged => exact State.dealOrder_staged ((quiet b).trans outcome)
      | applied =>
        rw [State.dealOrder_applied ((quiet b).trans outcome), State.applyOrder_inService t n stopped, limit, snapshot,
          State.putBarrier_eq, slot]

theorem State.groupDeal_lanes (n : StationId) :
    (s.groupDeal o t n).lanes = t.lanes ∧ (s.groupDeal o t n).laneTable = t.laneTable ∧ (s.groupDeal o t n).now = t.now := by
  unfold State.groupDeal
  split
  · rw [State.post_lanes, State.post_laneTable, State.post_now]
    exact ⟨rfl, rfl, rfl⟩
  · exact ⟨rfl, rfl, rfl⟩
  · exact ⟨rfl, rfl, rfl⟩

/-- One station's deal writes barriers, slots and the report queue alone. -/
theorem State.groupDeal_frame (n : StationId) : ∃ barriers slots reports dropped overrun, s.groupDeal o t n =
    { t with barriers := barriers, slots := slots, reports := reports, dropped := dropped, overrun := overrun } := by
  unfold State.groupDeal
  split
  · rw [State.post_eq]
    exact ⟨_, _, _, _, _, rfl⟩
  · exact ⟨_, t.slots, t.reports, t.dropped, t.overrun, rfl⟩
  · exact ⟨t.barriers, t.slots, t.reports, t.dropped, t.overrun, rfl⟩

theorem State.groupDeal_away {n m : StationId} (away : m ≠ n) :
    (s.groupDeal o t n).barrier m = t.barrier m ∧ (s.groupDeal o t n).slot m = t.slot m := by
  unfold State.groupDeal
  split
  · simp [State.barrier_setBarrier, State.slot_setSlot, away.symm]
  · simp [State.barrier_setBarrier, away.symm]
  · exact ⟨rfl, rfl⟩

/-- At its own station a deal leaves what it leaves there on the state of the request. -/
theorem State.groupDeal_own {n : StationId} (barrier : t.barrier n = s.barrier n) (slot : t.slot n = s.slot n) :
    (s.groupDeal o t n).barrier n = (s.groupStep n o).barrier n ∧ (s.groupDeal o t n).slot n = (s.groupStep n o).slot n := by
  rw [State.groupStep_eq_deal (s := s) rfl rfl rfl rfl]
  unfold State.groupDeal
  split
  · simp
  · simp [slot]
  · exact ⟨barrier, slot⟩

/-- A group order worked through station by station deals with each on the record it had. -/
theorem State.forEach_groupStep {ns : List StationId} (nodup : ns.Nodup) :
    forEach ns (fun n t => t.groupStep n o) s = ns.foldl (s.groupDeal o) s := by
  suffices walk : ∀ (ms : List StationId) (t : State), ms.Nodup → t.lanes = s.lanes → t.laneTable = s.laneTable →
      (∀ n ∈ ms, t.barrier n = s.barrier n ∧ t.slot n = s.slot n) →
      forEach ms (fun n t => t.groupStep n o) t = ms.foldl (s.groupDeal o) t from
    walk ns s nodup rfl rfl fun _ _ => ⟨rfl, rfl⟩
  intro ms
  induction ms with
  | nil => exact fun _ _ _ _ _ => rfl
  | cons n ms ih =>
    intro t nodup lanes table records
    obtain ⟨fresh, nodup⟩ := List.nodup_cons.1 nodup
    obtain ⟨lanesKept, tableKept, _⟩ := State.groupDeal_lanes (s := s) (t := t) (o := o) n
    obtain ⟨record, slot⟩ := records n List.mem_cons_self
    rw [forEach_cons, List.foldl_cons, State.groupStep_eq_deal lanes table record slot]
    refine ih _ nodup (lanesKept.trans lanes) (tableKept.trans table) fun m hm => ?_
    obtain ⟨barrierAway, slotAway⟩ := State.groupDeal_away (s := s) (t := t) (o := o) (m := m) (n := n)
      fun same => fresh (same ▸ hm)
    obtain ⟨record, slot⟩ := records m (List.mem_cons_of_mem _ hm)
    exact ⟨barrierAway.trans record, slotAway.trans slot⟩

/-- The reports of a group order that all find room stand behind those waiting, in the order of its stations. -/
theorem State.groupDeal_reports (ns : List StationId) (t : State) (now : t.now = s.now)
    (room : t.reports.length + (ns.filter fun n => decide (s.groupOutcome n o = .applied)).length ≤ 32) :
    let u := ns.foldl (s.groupDeal o) t
    u.reports = t.reports ++ (ns.filter fun n => decide (s.groupOutcome n o = .applied)).filterMap (fun n =>
        (s.barrier n).map fun b =>
          { body := .barrier (.orderApplied o) (s.barrierSnapshot n (b.ordered (s.smallestLimit n) o)), stamp := s.now })
      ∧ u.dropped = t.dropped ∧ u.overrun = t.overrun := by
  induction ns generalizing t with
  | nil => exact ⟨by simp, rfl, rfl⟩
  | cons n ns ih =>
    have clock := (State.groupDeal_lanes (s := s) (t := t) (o := o) n).2.2.trans now
    rw [List.foldl_cons]
    by_cases applied : s.groupOutcome n o = .applied
    · rw [List.filter_cons_of_pos (by simp [applied]), List.length_cons] at room
      rw [List.filter_cons_of_pos (by simp [applied])]
      obtain ⟨b, record⟩ : ∃ b, s.barrier n = some b := by
        cases record : s.barrier n with
        | none =>
          rw [State.groupOutcome, record] at applied
          cases applied
        | some b => exact ⟨b, rfl⟩
      have dealt : s.groupDeal o t n = ((t.setBarrier n (some (b.ordered (s.smallestLimit n) o))).setSlot n
          { s.slot n with command := (b.ordered (s.smallestLimit n) o).commanded.code }).reported
            (.barrier (.orderApplied o) (s.barrierSnapshot n (b.ordered (s.smallestLimit n) o))) := by
        simp only [State.groupDeal, record, applied]
        exact State.post_room (s := (t.setBarrier n _).setSlot n _) (by show t.reports.length < 32; omega) _
      have reports : (s.groupDeal o t n).reports = t.reports ++
          [{ body := .barrier (.orderApplied o) (s.barrierSnapshot n (b.ordered (s.smallestLimit n) o)), stamp := s.now }] := by
        rw [dealt, ← now]
        rfl
      obtain ⟨later, dropped, overrun⟩ := ih _ clock (by rw [reports, List.length_append, List.length_singleton]; omega)
      refine ⟨?_, dropped.trans (by rw [dealt]; rfl), overrun.trans (by rw [dealt]; rfl)⟩
      rw [later, reports, List.filterMap_cons, record]
      simp
    · rw [List.filter_cons_of_neg (by simp [applied])] at room ⊢
      have dealt : (s.groupDeal o t n).reports = t.reports ∧ (s.groupDeal o t n).dropped = t.dropped
          ∧ (s.groupDeal o t n).overrun = t.overrun := by
        unfold State.groupDeal
        split
        next outcome => exact absurd outcome applied
        all_goals exact ⟨rfl, rfl, rfl⟩
      obtain ⟨reports, dropped, overrun⟩ := dealt
      have later := ih _ clock (by rwa [reports])
      rwa [reports, dropped, overrun] at later

end

theorem groupOrder_bad {s : State} {v : GroupLoad} (bad : v.stations = [] ∨ ∃ m ∈ v.stations, m = 0 ∨ 24 < m) :
    groupOrder v s = refuse s .bad := by
  refine if_pos ?_
  rcases bad with empty | ⟨m, mem, outside⟩
  · simp [empty]
  · have some_outside : v.stations.all (inRange 1 24) = false := by
      rw [List.all_eq_false]
      refine ⟨m, mem, ?_⟩
      rw [inRange_iff]
      omega
    simp [some_outside]

theorem groupOrder_ok {s : State} {v : GroupLoad} (some_ : v.stations ≠ []) (inside : ∀ m ∈ v.stations, 1 ≤ m ∧ m ≤ 24) :
    groupOrder v s = accept (forEach (groupMembers v) (fun n t => t.groupStep n v.order) s)
      (.group ((groupMembers v).map fun n => (n, s.groupOutcome n v.order))) := by
  refine if_neg ?_
  have all : v.stations.all (inRange 1 24) = true := List.all_eq_true.2 fun m hm => (inRange_iff ..).2 (inside m hm)
  simp [all, some_]

end Sys2Proof.Machine

namespace Sys2Proof.Settled
open Machine

/-- Settles O39: worked through in slot order, each station is dealt with on the record it had, and its deal touches no
other. -/
theorem groupOrders : Obligations.GroupOrders := by
  intro s h rest stations o hd
  refine ⟨fun bad => exec_served rfl hd (groupOrder_bad bad) rfl, fun some_ inside => ?_⟩
  extract_lets members outcome after deals applied
  have outcomes (n : StationId) : outcome n = s.groupOutcome n o := by
    rw [State.groupOutcome_eq]
    unfold outcome
    cases s.barrier n <;> rfl
  have ordered (n : StationId) (b : BarrierRecord) : after n b = b.ordered (s.smallestLimit n) o := by
    unfold after
    cases o <;> rfl
  have dealt : deals = s.groupDeal o := by
    funext u n
    unfold deals State.groupDeal
    rw [outcomes]
    cases s.barrier n with
    | none => cases s.groupOutcome n o <;> rfl
    | some b => cases s.groupOutcome n o <;> simp only [ordered]
  have named : groupMembers { stations := stations, order := o } = members :=
    List.filter_congr fun n _ => List.contains_eq_mem ..
  have nodup : members.Nodup := (List.nodup_finRange 24).filter _
  have walked := State.forEach_groupStep (s := s) (o := o) nodup
  have answer := groupOrder_ok (s := s) (v := { stations := stations, order := o }) some_ inside
  rw [named] at answer
  dsimp only at answer
  rw [walked] at answer
  have frame : ∃ barriers slots reports dropped overrun, members.foldl (s.groupDeal o) s =
      { s with barriers := barriers, slots := slots, reports := reports, dropped := dropped, overrun := overrun } := by
    refine forEach_keeps (fun t => ∃ barriers slots reports dropped overrun, t =
      { s with barriers := barriers, slots := slots, reports := reports, dropped := dropped, overrun := overrun })
      members (fun n t => s.groupDeal o t n) (fun n _ t ht => ?_) s ⟨_, _, _, _, _, rfl⟩
    obtain ⟨barriers, slots, reports, dropped, overrun, rfl⟩ := ht
    obtain ⟨barriers, slots, reports, dropped, overrun, same⟩ := State.groupDeal_frame (s := s) (o := o) n (t := { s with
      barriers := barriers, slots := slots, reports := reports, dropped := dropped, overrun := overrun })
    exact ⟨barriers, slots, reports, dropped, overrun, same⟩
  obtain ⟨barriers, slots, reports, dropped, overrun, same⟩ := frame
  have at_ (n : StationId) := forEach_pointwise (fun t n => (t.barrier n, t.slot n)) (fun n t => s.groupDeal o t n)
    (fun n => ((s.groupStep n o).barrier n, (s.groupStep n o).slot n)) s nodup
    (fun t x y away => Prod.ext (State.groupDeal_away away).1 (State.groupDeal_away away).2)
    (fun t x _ kept => by
      obtain ⟨barrier, slot⟩ := Prod.mk.inj kept
      exact Prod.ext (State.groupDeal_own barrier slot).1 (State.groupDeal_own barrier slot).2) n
  refine ⟨members.foldl (s.groupDeal o) s, ?_, by rw [dealt], fun room => ?_, fun n mem b record => ?_, fun n left => ?_, ?_⟩
  · rw [show (members.map fun n => (n, outcome n)) = members.map fun n => (n, s.groupOutcome n o) by simp only [outcomes]]
    exact exec_served rfl hd answer (by rw [same])
  · have same_applied : applied = members.filter fun n => decide (s.groupOutcome n o = .applied) := by
      simp only [applied, outcomes]
    simp only [same_applied, ordered] at room ⊢
    exact State.groupDeal_reports members s rfl room
  · obtain ⟨barrier, slot⟩ := Prod.mk.inj ((at_ n).trans (if_pos mem))
    have step : s.groupStep n o = if b.state = .fault ∨ b.state = .manual then s else s.dealOrder n b o := by
      simp only [State.groupStep, record, outOfService_iff]
    rw [step] at barrier slot
    refine ⟨barrier.trans ?_, slot.trans ?_⟩
    · split
      · exact record
      · rfl
    · split <;> rfl
  · have there := at_ n
    by_cases mem : n ∈ members
    · have absent := left.resolve_left (not_not.2 mem)
      have step : s.groupStep n o = s := by simp only [State.groupStep, absent]
      rw [if_pos mem, step] at there
      exact Prod.mk.inj there
    · rw [if_neg mem] at there
      exact Prod.mk.inj there
  · rw [same]

/-- Settles O35: the record of a motion timer at its limit, the lanes told in order, and what a lane does by its state. -/
theorem motionTimeout : Obligations.MotionTimeout := by
  refine ⟨fun s n b f record timer late room => ?limit, fun s n cause => ?told, fun s l cause =>
    ⟨State.laneFault_stopped, State.laneFault_known, fun fault new room => ?added,
      fun open_ test runs none => ?enters⟩⟩
  case limit =>
    have due : b.motionDue = true := by
      rw [BarrierRecord.motionDue, timer]
      exact decide_eq_true late
    have expires : s.motionExpires n =
        ((s.putBarrier n b.timedOut).postBarrier n .motionTimeout).faultLanes n (.barrierFault n) := by
      simp only [State.motionExpires, record]
      exact if_pos due
    rw [State.putBarrier_post, State.post_room (s := s.putBarrier n b.timedOut) room] at expires
    exact congrArg Host.Outcome.next expires
  case told =>
    rw [State.faultLanes, State.lanesOfBarrier_eq]
    rfl
  case added => exact (State.laneFault_added fault new).trans (State.post_room (s := s.setLane l _) room _)
  case enters =>
    refine (State.laneFault_enters open_ test runs).trans ?_
    rw [State.updateLane, none]
    rfl

end Sys2Proof.Settled

/-! PROOFS. The requests FORWARD and READ_STATION, the frames of the office line, the timers of a lane, and the rest of a deck. -/

namespace Sys2Proof.Machine

/-! ## FORWARD (R170) -/

theorem validText_iff (t : Text) : validText t = true ↔ t.length ≤ 40 ∧ ∀ c ∈ t, textChar c = true := by
  simp [validText]

section
variable {s : State} {n : StationId} {v : ForwardLoad}

theorem forward_bad (bad : v.station = 0 ∨ 24 < v.station ∨ 40 < v.text.length ∨ ∃ c ∈ v.text, textChar c = false) :
    forward v s = refuse s .bad := by
  unfold forward
  split
  · rfl
  next n named =>
    have number := oneBased_some named
    refine if_pos ?_
    rw [Bool.not_eq_true', ← Bool.not_eq_true, validText_iff]
    rintro ⟨short, chars⟩
    rcases bad with zero | large | long | ⟨c, mem, other⟩
    · omega
    · omega
    · omega
    · rw [chars c mem] at other
      cases other

theorem forward_named (named : v.station = n.val + 1) (valid : validText v.text = true) :
    forward v s =
      if (s.station n).state ≠ .enrolled then refuse s .busy
      else if (s.station n).kind ≠ some .terminal then refuse s .bad
      else if (s.station n).forward.isSome then refuse s .busy
      else accept (s.setStation n { s.station n with forward := some v.text }) .none := by
  unfold forward
  rw [named, stationOf_succ]
  dsimp only
  rw [if_neg (by simp [valid])]
  rfl

end

/-! ## READ_STATION (R178) -/

/-- The threshold a READ_STATION sets: the one it carries, 0 as 1, or the one that stands. -/
def thresholdSet (before : Nat) : Option Nat → Nat
  | none => before
  | some 0 => 1
  | some (k + 1) => k + 1

/-- The two tables a READ_STATION clears beside the barrier's count. -/
def State.readCleared (s : State) (n : StationId) (threshold : Nat) : State :=
  (s.setSlot n { s.slot n with near := 0, far := 0, threshold := threshold }).setStation n
    { s.station n with wasLost := false, wasDegraded := false }

section
variable {s : State} {n : StationId} {v : StationLoad}

theorem State.clearStation_eq (threshold : Option Nat) :
    s.clearStation n threshold = (s.readCleared n (thresholdSet (s.slot n).threshold threshold)).setBarrier n
      ((s.barrier n).map fun b => { b with obstructions := 0 }) := by
  have same : (match threshold with
      | none => (s.slot n).threshold
      | some t => max 1 t) = thresholdSet (s.slot n).threshold threshold := by
    rcases threshold with _ | _ | k
    · rfl
    · rfl
    · exact Nat.max_eq_right (Nat.le_add_left 1 k)
  rw [← same]
  rfl

theorem readStation_bad (bad : v.station = 0 ∨ 24 < v.station ∨ ∃ k, v.threshold = some k ∧ 255 < k) :
    readStation v s = refuse s .bad := by
  unfold readStation
  split
  · rfl
  next n named =>
    have number := oneBased_some named
    rcases bad with zero | large | ⟨k, threshold, over_⟩
    · omega
    · omega
    · exact if_pos (by simp [threshold, over_])

theorem readStation_ok (named : v.station = n.val + 1) (small : ∀ k, v.threshold = some k → k ≤ 255) :
    readStation v s = accept (s.clearStation n v.threshold) (.station (s.stationStatus n)) := by
  unfold readStation
  rw [named, stationOf_succ]
  refine if_neg ?_
  rw [Option.any_eq_true]
  rintro ⟨k, threshold, over_⟩
  have := small k threshold
  rw [decide_eq_true_eq] at over_
  omega

end

/-! ## The bytes of an office frame (R159) -/

/-- A 16-bit word is its two bytes, the high one first. -/
theorem word_bytes (w : BitVec 16) : (w.extractLsb' 8 8 ++ w.extractLsb' 0 8 : BitVec 16) = w := by
  ext i hi
  simp only [BitVec.getElem_append, BitVec.getElem_extractLsb']
  split
  · rw [Nat.zero_add, BitVec.getLsbD_eq_getElem (by omega)]
  next high =>
    rw [Nat.add_sub_cancel' (Nat.le_of_not_lt high), BitVec.getLsbD_eq_getElem (by omega)]

theorem word_toNat (w : BitVec 16) : (w.extractLsb' 8 8).toNat * 256 + (w.extractLsb' 0 8).toNat = w.toNat := by
  have := w.isLt
  simp only [BitVec.extractLsb'_toNat, Nat.shiftRight_eq_div_pow]
  omega

theorem officeFrameBytes_split (kind tag : Byte) {body : List Byte} (short : body.length ≤ 1024) :
    ∃ hi lo c1 c2 : Byte, officeFrameBytes kind tag body = 0xC3 :: hi :: lo :: kind :: tag :: (body ++ [c1, c2])
      ∧ hi.toNat * 256 + lo.toNat = body.length + 2
      ∧ (c1 ++ c2 : BitVec 16) = officeCheck (hi :: lo :: kind :: tag :: body) := by
  refine ⟨_, _, _, _, rfl, ?_, word_bytes _⟩
  rw [word_toNat, BitVec.toNat_ofNat, Nat.mod_eq_of_lt (by omega)]

/-! ## The next frame sent to the office (R184, R185) -/

section
variable {s : State}

theorem State.transmitStart_free {f : OutFrame} (free : s.line = none) (next : s.nextFrameOut = some f) :
    s.transmitStart = s.startFrame f := by
  simp only [State.transmitStart, free, next]

theorem State.transmitStart_busy {f : OutFrame} (busy : s.line = some f) : s.transmitStart = s := by
  simp only [State.transmitStart, busy]

theorem State.nextFrameOut_refusal {x : RefusedRequest} {refusals : List RefusedRequest} (waits : s.refusals = x :: refusals) :
    s.nextFrameOut = some (.refusal x.tag x.name) := by
  simp only [State.nextFrameOut, waits]

theorem State.nextFrameOut_reply {h : Request} {rest : List Request} {y : Reply} (none : s.refusals = [])
    (head : s.buffer = h :: rest) (given : h.reply = some y) : s.nextFrameOut = some (.reply h.tag h.name y) := by
  simp only [State.nextFrameOut, none, head, List.head?_cons, Option.bind_some, given, Option.map_some]

theorem State.nextFrameOut_report {r : Report} {reports : List Report} (none : s.refusals = [])
    (silent : s.buffer = [] ∨ ∃ h rest, s.buffer = h :: rest ∧ h.reply = Option.none) (head : s.reports = r :: reports) :
    s.nextFrameOut = some (.report r s.overrun s.dropped) := by
  rcases silent with empty | ⟨h, rest, buffer, waits⟩
  · simp only [State.nextFrameOut, none, empty, head, List.head?_nil, Option.bind_none, List.head?_cons, Option.map_some]
  · simp only [State.nextFrameOut, none, buffer, head, List.head?_cons, Option.bind_some, waits, Option.map_none,
      Option.map_some]

theorem State.owesUnknown_head {h : Request} {rest : List Request} (head : s.buffer = h :: rest) (kind : h.kind = .request)
    (waits : h.reply = none) (taken : s.resetsDue = .clear)
    (unknown : h.body = [] ∨ ∃ b, h.body.head? = some b ∧ (b.toNat = 0 ∨ 31 < b.toNat)) : s.owesUnknown = true := by
  have unnamed : h.body.head?.any (fun b => inRange 1 31 b.toNat) = false := by
    rcases unknown with empty | ⟨b, first, outside⟩
    · rw [empty]
      rfl
    · rw [first, Option.any_some, ← Bool.not_eq_true, inRange_iff]
      omega
  rw [State.owesUnknown, head]
  simp [State.resetsTaken, kind, waits, taken, unnamed]

end

/-! ## The timers of a lane (R64, R68, R74, R75) -/

theorem LaneContext.timedOut_some {c : LaneContext} {t : LaneTimer} (timer : c.timer = some t) (late : t.limit ≤ t.elapsed)
    (k : LaneTimerKind) : c.timedOut k = true ↔ t.kind = k := by
  simp [LaneContext.timedOut, timer, late]

section
variable {s : State} {l : LaneId}

theorem State.referredLane_outside {m : Nat} (outside : m = 0 ∨ 4 < m) : s.referredLane m = none := by
  simp only [State.referredLane, laneOf_none outside]

theorem State.referredLane_other (other : (s.lane l).state ≠ .referred) : s.referredLane (l.val + 1) = none := by
  simp only [State.referredLane, laneOf_succ]
  split
  · exact if_neg other
  · rfl

theorem State.referredLane_succ {r : LaneRecord} {why : ReferralReason} (record : s.laneRecord l = some r)
    (referred : (s.lane l).state = .referred) (reason : (s.lane l).reason = some why) :
    s.referredLane (l.val + 1) = some (l, r, why) := by
  simp only [State.referredLane, laneOf_succ, record, reason]
  exact if_pos referred

theorem refuseLane_bad {m : Nat} (unnamed : s.referredLane m = none) : refuseLane m s = refuse s .bad := by
  simp only [refuseLane, unnamed]

theorem refuseLane_named {m : Nat} {r : LaneRecord} {why : ReferralReason} (named : s.referredLane m = some (l, r, why)) :
    refuseLane m s = if why.beforeEntry then accept (s.enterLane l .refused (.event .officeRefuses)) .none
      else refuse s .bad := by
  simp only [refuseLane, named]

end

/-! ## The rest of a deck (R34–R36) -/

section
variable {s : State} {d : DeckId}

theorem State.mem_deckLanes (l : LaneId) : l ∈ s.deckLanes d ↔ ∃ r, s.laneRecord l = some r ∧ r.deck = d := by
  simp [State.deckLanes, State.mem_lanesWhere]

theorem State.mayRest_iff : s.mayRest d = true ↔ (s.deck d).state = .active ∧ (s.arbiter d).holder = none
    ∧ (s.deck d).occupancy = .empty ∧ (s.deck d).reading.state = .stable
    ∧ ∀ l r, s.laneRecord l = some r → r.deck = d → (s.lane l).state = .idle ∨ (s.lane l).state = .closed := by
  have lanes : (s.deckLanes d).all (fun l => (s.lane l).state == .idle || (s.lane l).state == .closed) = true ↔
      ∀ l r, s.laneRecord l = some r → r.deck = d → (s.lane l).state = .idle ∨ (s.lane l).state = .closed := by
    simp only [List.all_eq_true, State.mem_deckLanes, Bool.or_eq_true, beq_iff_eq]
    exact ⟨fun h l r record named => h l ⟨r, record, named⟩, fun h l ⟨r, record, named⟩ => h l r record named⟩
  unfold State.mayRest
  dsimp only
  rw [Bool.and_eq_true, lanes]
  simp [State.deckHeld, and_assoc]

theorem State.restChoice_warm : s.restChoice d = .warm ↔ (∃ l r, s.laneRecord l = some r ∧ r.deck = d ∧ r.direction ≠ .inward)
    ∧ ∃ v ∈ s.visits, v.state = .open_ ∨ v.state = .ticketed := by
  have outward : (s.deckLanes d).any (fun l => (s.laneRecord l).any fun r => r.direction != .inward) = true ↔
      ∃ l r, s.laneRecord l = some r ∧ r.deck = d ∧ r.direction ≠ .inward := by
    simp only [List.any_eq_true, State.mem_deckLanes, Option.any_eq_true, bne_iff_ne]
    constructor
    · rintro ⟨l, ⟨r, record, named⟩, q, again, other⟩
      cases record.symm.trans again
      exact ⟨l, r, record, named, other⟩
    · rintro ⟨l, r, record, named, other⟩
      exact ⟨l, ⟨r, record, named⟩, r, record, other⟩
  have held : s.visits.any (fun v => v.state == .open_ || v.state == .ticketed) = true ↔
      ∃ v ∈ s.visits, v.state = .open_ ∨ v.state = .ticketed := by
    simp [List.any_eq_true]
  rw [← outward, ← held, ← Bool.and_eq_true, State.restChoice]
  split
  next warm => simp [warm]
  next cold => exact ⟨RestKind.noConfusion, fun warm => absurd warm cold⟩

theorem State.restAbility_iff (k : RestKind) : s.restAbility d k = true ↔ ∃ r, (s.deck d).record = some r ∧
    (match k with
      | .warm => (s.station r.digitizer).abilities.reducedRate = true
      | .cold => (s.station r.digitizer).abilities.off = true) := by
  unfold State.restAbility
  cases record : (s.deck d).record with
  | none => simp
  | some r => cases k <;> simp

theorem State.restOutcome_iff (k : RestKind) :
    s.restOutcome d = some k ↔ s.mayRest d = true ∧ s.restChoice d = k ∧ s.restAbility d k = true := by
  unfold State.restOutcome
  constructor
  · intro outcome
    split at outcome
    next able =>
      cases outcome
      rw [Bool.and_eq_true] at able
      exact ⟨able.1, rfl, able.2⟩
    next => cases outcome
  · rintro ⟨may, rfl, able⟩
    exact if_pos (by simp [may, able])

theorem State.attemptRest_some {k : RestKind} (outcome : s.restOutcome d = some k) :
    s.attemptRest d = s.enterDeckState d k.deckState := by
  simp only [State.attemptRest, outcome]

theorem State.attemptRest_active (outcome : s.restOutcome d = none) (active : (s.deck d).state = .active) :
    s.attemptRest d = s.setDeck d { s.deck d with restIdle := some 0 } := by
  simp only [State.attemptRest, outcome]
  exact if_pos active

theorem State.attemptRest_other (outcome : s.restOutcome d = none) (other : (s.deck d).state ≠ .active) :
    s.attemptRest d = s := by
  simp only [State.attemptRest, outcome]
  exact if_neg other

theorem restDeck_some {k : RestKind} (outcome : s.restOutcome d = some k) :
    restDeck (d.val + 1) s = accept (s.enterDeckState d k.deckState) (.rest k) := by
  simp only [restDeck, deckOf_succ, outcome, State.attemptRest_some outcome]

theorem restDeck_none (outcome : s.restOutcome d = none) :
    restDeck (d.val + 1) s = refuse (s.attemptRest d) .busy := by
  simp only [restDeck, deckOf_succ, outcome]

theorem restDeck_bad {m : Nat} (outside : m = 0 ∨ 4 < m) : restDeck m s = refuse s .bad := by
  simp only [restDeck, deckOf_none outside]

end

end Sys2Proof.Machine

namespace Sys2Proof.Settled
open Machine

/-- Settles O45: FORWARD by the first line that applies, and READ_STATION as it answers before it clears. -/
theorem stationRequests : Obligations.StationRequests := by
  refine ⟨fun s n => ?status, fun s h rest v hd => ⟨fun bad => ?bad, fun n named short chars => ?forward⟩,
    fun s h rest v hd => ⟨fun bad => ?readBad, fun n named small => ?read⟩⟩
  case status =>
    unfold State.stationStatus
    cases s.barrier n <;> rfl
  case bad => exact exec_forward hd (forward_bad bad) rfl
  case forward =>
    have lines := forward_named (s := s) named ((validText_iff _).2 ⟨short, chars⟩)
    refine ⟨fun out => ?_, fun enrolled other => ?_, fun enrolled kind held => ?_, fun enrolled kind free => ?_⟩
    · exact exec_forward hd (lines.trans (if_pos out)) rfl
    · rw [if_neg (not_not.2 enrolled), if_pos other] at lines
      exact exec_forward hd lines rfl
    · rw [if_neg (not_not.2 enrolled), if_neg (not_not.2 kind), if_pos (Option.isSome_iff_ne_none.2 held)] at lines
      exact exec_forward hd lines rfl
    · rw [if_neg (not_not.2 enrolled), if_neg (not_not.2 kind), if_neg (by simp [free])] at lines
      exact exec_forward hd lines rfl
  case readBad => exact exec_served rfl hd (readStation_bad bad) rfl
  case read =>
    have answer := readStation_ok (s := s) named small
    rw [State.clearStation_eq] at answer
    refine ⟨fun absent => ?_, fun b record => ?_⟩
    · have still (t : State) (same : t.barrier n = none) : t.setBarrier n none = t :=
        same ▸ t.setBarrier_barrier n
      rw [absent, Option.map_none, still _ (by exact absent)] at answer
      exact exec_served rfl hd answer rfl
    · rw [record, Option.map_some] at answer
      exact exec_served rfl hd answer rfl

/-- Settles O52: the frames of the line in their order, their bytes, and a report posted. -/
theorem officeLine : Obligations.OfficeLine := by
  refine ⟨fun s => rfl, fun s h rest head kind waits taken unknown => ?unknown,
    fun kind tag body short => officeFrameBytes_split kind tag short,
    fun s free => ⟨fun x refusals waits => ?refusal, fun h rest y none head given => ?reply,
      fun r reports none silent head => ?report⟩,
    fun s f busy => congrArg Host.Outcome.next (State.transmitStart_busy busy),
    fun s => ⟨fun tag name sends => ?sentRefusal, fun tag name y sends => ?sentReply, fun r note count sends => ?sentReport⟩,
    fun s b => ⟨fun room => State.post_room room b, fun full => State.post_full full b⟩⟩
  case unknown =>
    refine congrArg Host.Outcome.next ((if_pos (State.owesUnknown_head head kind waits taken unknown)).trans ?_)
    exact State.giveReply_kept head rfl _
  case refusal =>
    exact congrArg Host.Outcome.next (State.transmitStart_free free (State.nextFrameOut_refusal waits))
  case reply =>
    exact congrArg Host.Outcome.next (State.transmitStart_free free (State.nextFrameOut_reply none head given))
  case report =>
    exact congrArg Host.Outcome.next (State.transmitStart_free free (State.nextFrameOut_report none silent head))
  case sentRefusal => exact congrArg Host.Outcome.next (by simp only [State.frameSent, sends])
  case sentReply => exact congrArg Host.Outcome.next (by simp only [State.frameSent, sends])
  case sentReport => exact congrArg Host.Outcome.next (by simp only [State.frameSent, sends])

/-- Settles O28: each timer by its kind, and REFUSE by the reason of the referral. -/
theorem laneTimersEnd : Obligations.LaneTimersEnd := by
  refine ⟨fun s l d => ⟨fun holds => ?cleared, fun free => ?kept⟩, fun s l c timer late => ?timers,
    fun s h rest hd => ⟨fun m outside => exec_served rfl hd (refuseLane_bad (State.referredLane_outside outside)) rfl,
      fun l r record => ⟨fun other => exec_served rfl hd (refuseLane_bad (State.referredLane_other other)) rfl,
        fun why referred reason => ⟨fun before => ?refused, fun after => ?late⟩⟩⟩⟩
  case cleared => exact if_pos ((State.holds_iff ..).2 holds)
  case kept => exact if_neg (mt (State.holds_iff ..).1 free)
  case timers =>
    have expired {k : LaneTimerKind} (kind : c.kind = k) := (LaneContext.timedOut_some timer late k).2 kind
    refine ⟨fun kind => congrArg _ (if_pos (expired kind)), fun kind => congrArg _ (if_pos (expired kind)),
      fun kind => congrArg _ (if_pos (expired kind)), fun r record kind => ?_⟩
    refine ⟨fun occupied => congrArg Host.Outcome.next ?_, fun empty => congrArg Host.Outcome.next ?_⟩
    · simp only [State.entryEnds, record, occupied]
      exact if_pos (expired kind)
    · simp only [State.entryEnds, record, empty]
      exact if_pos (expired kind)
  case refused =>
    exact exec_served rfl hd ((refuseLane_named (State.referredLane_succ record referred reason)).trans (if_pos before))
      (State.buffer_of_fixed (State.enterLane_fixed ..))
  case late =>
    refine exec_served rfl hd ((refuseLane_named (State.referredLane_succ record referred reason)).trans (if_neg ?_)) rfl
    simp [after]

/-- Settles O18: what an attempt asks, and the rest it enters or the timer it restarts. -/
theorem restAttempts : Obligations.RestAttempts := by
  refine ⟨fun s d k => ?outcome, fun s d r f record active idles runs late => ?attempt,
    fun s h rest d hd => ⟨fun warm => exec_served rfl hd (restDeck_some warm) (State.buffer_of_fixed (s.enterDeckState_fixed ..)),
      fun cold => exec_served rfl hd (restDeck_some cold) (State.buffer_of_fixed (s.enterDeckState_fixed ..)),
      fun none active => ?idle, fun none other => ?other,
      fun m outside => exec_served rfl hd (restDeck_bad outside) rfl⟩⟩
  case outcome =>
    rw [State.restOutcome_iff, State.mayRest_iff, State.restAbility_iff]
    have choice : s.restChoice d = k ↔ (k = .warm ↔ (∃ l r, s.laneRecord l = some r ∧ r.deck = d ∧ r.direction ≠ .inward)
        ∧ ∃ v ∈ s.visits, v.state = .open_ ∨ v.state = .ticketed) := by
      rw [← State.restChoice_warm]
      cases k <;> cases s.restChoice d <;> simp
    rw [choice]
    simp only [and_assoc] <;> rfl
  case attempt =>
    have due : (s.deck d).restDue = true := by
      simp [DeckEngine.restDue, active, record, idles, runs, late]
    have attempt : s.restAttempt d = (s.attemptRest d).deckTold d := if_pos due
    exact ⟨fun warm => congrArg Host.Outcome.next (attempt.trans (by rw [State.attemptRest_some warm]; rfl)),
      fun cold => congrArg Host.Outcome.next (attempt.trans (by rw [State.attemptRest_some cold]; rfl)),
      fun none => congrArg Host.Outcome.next (attempt.trans (by rw [State.attemptRest_active none active]))⟩
  case idle =>
    have answer := restDeck_none none
    rw [State.attemptRest_active none active] at answer
    exact exec_served rfl hd answer rfl
  case other =>
    have answer := restDeck_none none
    rw [State.attemptRest_other none other] at answer
    exact exec_served rfl hd answer rfl

end Sys2Proof.Settled

/-! PROOFS. The decks: entry into a deck state, the events of a deck, and the tracking step. -/

namespace Sys2Proof.Machine

/-! ## The reading record (R20) -/

/-- The reading record a deck publishes in the state that stands. -/
def State.readingNow (s : State) (d : DeckId) : ReadingRecord :=
  { deck := d, state := (s.deck d).published.1, value := (s.deck d).published.2, sample := (s.deck d).sample,
    profile := (s.deck d).profile, degraded := s.deckDegraded d, zeroLimit := (s.deck d).zeroLimit, stamp := s.now }

theorem State.replaceReading_eq (s : State) (d : DeckId) :
    s.replaceReading d = s.setDeck d { s.deck d with reading := s.readingNow d } := rfl

theorem State.readingNow_eq {s : State} {d : DeckId} {e : DeckEngine} (deck : s.deck d = e) :
    s.readingNow d =
      { deck := d, state := e.published.1, value := e.published.2, sample := e.sample, profile := e.profile,
        degraded := s.deckDegraded d, zeroLimit := e.zeroLimit, stamp := s.now } := by
  rw [State.readingNow, deck]

theorem State.excited_iff (s : State) (d : DeckId) : s.excited d = true ↔ ∃ r c, (s.deck d).record = some r
    ∧ (s.station r.digitizer).state = .enrolled ∧ (s.slot r.digitizer).taken = some c ∧ 3 ≤ c.toNat := by
  unfold State.excited
  cases (s.deck d).record with
  | none => simp
  | some r => simp [State.enrolled, digitizerFault, Option.any_eq_true]

/-! ## Entry into a deck state (R25, R31, R37, R40) -/

/-- The engine after entry into a state, its reading record aside. -/
theorem DeckEngine.enters_eq (e : DeckEngine) (st : DeckState) (excited : Bool) :
    let clears : Bool := st == .capturing || st == .waking
    let active : Bool := st == .active
    e.enters st excited = { e with
      state := st, trackingCount := 0, restIdle := if active then some 0 else none
      sample := if active then 0 else e.sample
      streamCount := if active then 0 else e.streamCount
      captureCount := if st = .capturing then 0 else e.captureCount
      ring := if clears then [] else e.ring
      stable := if clears then 0 else e.stable
      pendingGap := if clears then 0 else e.pendingGap
      gapLatch := if clears then false else e.gapLatch
      overload := if clears then false else e.overload
      last := if clears then none else e.last
      judged := if clears then (if excited then .invalid else .filling) else e.judged
      value := if clears then none else e.value } := by
  cases st <;> rfl

/-- Entry into a state writes the engine, the digitizer's command code and the reading record. -/
theorem State.enterDeckState_eq {s : State} {d : DeckId} {r : DeckRecord} (record : (s.deck d).record = some r)
    (st : DeckState) :
    s.enterDeckState d st =
      ((s.setDeck d ((s.deck d).enters st (s.excited d))).setSlot r.digitizer
        { s.slot r.digitizer with command := deckCommand st }).replaceReading d := by
  have entered : ((s.deck d).enters st (s.excited d)).state = st := by cases st <;> rfl
  unfold State.enterDeckState State.commandDigitizer
  rw [State.deck_setDeck_self, DeckEngine.enters_record, record, entered]
  rfl

/-! ## What a deck makes of its digitizer's code (R4) -/

section
variable {s : State} {d : DeckId} {before : Option Code} {c : Code}

theorem digitizerFault_iff (c : Code) : digitizerFault c = true ↔ 3 ≤ c.toNat := decide_eq_true_iff

theorem State.deckCode_fault (fault : 3 ≤ c.toNat) : s.deckCode d before c = s.clearDeckWindow d :=
  if_pos ((digitizerFault_iff c).2 fault)

theorem State.deckCode_cleared (good : c.toNat < 3) (was : ∃ b : Code, before = some b ∧ 3 ≤ b.toNat) :
    s.deckCode d before c = (s.setDeck d { s.deck d with judged := .filling, value := none }).replaceReading d := by
  refine (if_neg (mt (digitizerFault_iff c).1 (Nat.not_le.2 good))).trans (if_pos ?_)
  obtain ⟨b, rfl, fault⟩ := was
  exact (digitizerFault_iff b).2 fault

theorem State.deckCode_other (good : c.toNat < 3) (wasGood : ¬ ∃ b : Code, before = some b ∧ 3 ≤ b.toNat) :
    s.deckCode d before c = s := by
  refine (if_neg (mt (digitizerFault_iff c).1 (Nat.not_le.2 good))).trans (if_neg fun was => wasGood ?_)
  obtain ⟨b, same, fault⟩ := (Option.any_eq_true _ _).1 was
  exact ⟨b, same, (digitizerFault_iff b).1 fault⟩

theorem State.endSpan_some {r : DeckRecord} (record : (s.deck d).record = some r) :
    s.endSpan d = ((s.setDeck d ((s.deck d).returned r (s.excited d))).replaceReading d) := by
  unfold State.endSpan
  split
  next missing =>
    rw [record] at missing
    cases missing
  next w found =>
    cases record.symm.trans found
    rfl

theorem State.enterDeckState_reports (s : State) (d : DeckId) (st : DeckState) :
    (s.enterDeckState d st).reports = s.reports := by
  unfold State.enterDeckState State.commandDigitizer
  rw [State.replaceReading_eq]
  split <;> rfl

/-! ## The tracking step (R29) -/

theorem State.trackZero_within {r : DeckRecord} {z : Zeros} (zeros : (s.deck d).zeros = some z)
    (near : (z.tracked + clampSigned (250 * r.division) ((s.deck d).filtered r) - z.captured).natAbs ≤ 20 * r.capacity) :
    s.trackZero d r = s.setDeck d { s.deck d with
      zeros := some { z with tracked := z.tracked + clampSigned (250 * r.division) ((s.deck d).filtered r) }
      trackingCount := 0 } := by
  unfold State.trackZero
  dsimp only
  split
  next none =>
    rw [zeros] at none
    cases none
  next w some_ =>
    cases zeros.symm.trans some_
    exact if_pos ((within_iff ..).2 near)

theorem State.trackZero_limited {r : DeckRecord} {z : Zeros} (zeros : (s.deck d).zeros = some z)
    (far : 20 * r.capacity < (z.tracked + clampSigned (250 * r.division) ((s.deck d).filtered r) - z.captured).natAbs) :
    let drift := z.tracked + clampSigned (250 * r.division) ((s.deck d).filtered r) - z.captured
    s.trackZero d r = (s.setDeck d { s.deck d with
      zeros := some { z with tracked := z.captured + clampSigned (20 * r.capacity) drift }
      trackingCount := 0, zeroLimit := true }).post (.zeroLimit d) := by
  unfold State.trackZero
  dsimp only
  split
  next none =>
    rw [zeros] at none
    cases none
  next w some_ =>
    cases zeros.symm.trans some_
    exact if_neg (mt (within_iff ..).1 (Nat.not_le.2 far))

theorem exec_trackingStep {r : DeckRecord} (record : (s.deck d).record = some r) (due : 125 ≤ (s.deck d).trackingCount) :
    exec (.trackingStep d) s = .next (s.trackZero d r) := by
  have counted : (s.deck d).trackingDue = true := decide_eq_true due
  refine congrArg Host.Outcome.next ?_
  rw [record]
  exact if_pos counted

/-- A clamp at a bound that is passed gives the bound on that side. -/
theorem clampSigned_above {limit x : Int} (nonneg : 0 ≤ limit) (above : limit < x) : clampSigned limit x = limit := by
  rw [clampSigned, min_eq_left above.le, max_eq_right (by omega)]

theorem clampSigned_below {limit x : Int} (nonneg : 0 ≤ limit) (below : x < -limit) : clampSigned limit x = -limit := by
  rw [clampSigned, min_eq_right (by omega), max_eq_left below.le]

end

end Sys2Proof.Machine

namespace Sys2Proof.Settled
open Machine

/-- Settles O14: entry writes one engine, one command code and one reading record. -/
theorem deckStateEntered : Obligations.DeckStateEntered := by
  refine ⟨fun s d => ?reading, State.excited_iff, fun s => rfl, rfl, rfl, rfl, rfl, rfl, rfl,
    fun s d st r record configured => ?entered⟩
  case reading =>
    rw [State.replaceReading_eq]
    unfold State.readingNow DeckEngine.published State.deckDegraded
    dsimp only
    cases (s.deck d).state <;> cases (s.deck d).record <;> rfl
  case entered =>
    extract_lets t e clears active entered command
    have code : deckCommand st = command := by
      cases st with
      | unconfigured => exact absurd rfl configured
      | waiting | capturing | active | warmRest | coldRest | waking | fault => rfl
    have entry : t = ((s.setDeck d entered).setSlot r.digitizer
        { s.slot r.digitizer with command := deckCommand st }).replaceReading d :=
      (State.enterDeckState_eq record st).trans (by rw [DeckEngine.enters_eq])
    have written := entry
    rw [State.replaceReading_eq] at written
    have left : t.deck d = { entered with reading := ((s.setDeck d entered).setSlot r.digitizer
        { s.slot r.digitizer with command := deckCommand st }).readingNow d } := by
      rw [written, State.deck_setDeck_self, State.setSlot_deck, State.deck_setDeck_self]
    have reading := State.readingNow_eq (s := (s.setDeck d entered).setSlot r.digitizer
      { s.slot r.digitizer with command := deckCommand st }) (d := d) (State.deck_setDeck_self s d entered)
    rw [reading] at left
    refine ⟨entry.trans (by rw [code]), by rw [left], by rw [left, ← record], by rw [left], by rw [left], by rw [left],
      by rw [left], by rw [left], ?_, by rw [left]; rfl, ?_, fun m other => ?_, fun n other => ?_, ?_⟩
    · have slot : (t.slot r.digitizer).command = command := by
        rw [written, State.setDeck_slot, State.slot_setSlot, if_pos rfl, code]
      cases st <;> exact slot
    · rw [left]
      cases st with
      | active => exact ⟨rfl, rfl, rfl, rfl, rfl, rfl⟩
      | capturing => exact ⟨rfl, rfl, rfl, rfl, rfl, rfl⟩
      | waking => exact ⟨rfl, rfl, rfl, rfl, rfl⟩
      | warmRest | coldRest | waiting | fault | unconfigured => exact ⟨rfl, rfl⟩
    · rw [written, State.deck_setDeck, if_neg other.symm, State.setSlot_deck, State.deck_setDeck, if_neg other.symm]
    · rw [written, State.setDeck_slot, State.slot_setSlot, if_neg other.symm, State.setDeck_slot]
    · rw [written]
      rfl

/-- Settles O15: what each event leaves of the engine, and the lanes that see it. -/
theorem deckEvents : Obligations.DeckEvents := by
  refine ⟨fun s d r before c record enrolled taken => ?code, fun s d r record =>
    ⟨fun transit ended => ?span, fun waking filled => ?waking, fun capturing late room => ?zeroFail⟩⟩
  case code =>
    refine ⟨fun fault => ?_, State.deckCode_cleared, State.deckCode_other⟩
    have excited : s.excited d = true := (s.excited_iff d).2 ⟨r, c, record, enrolled, taken, fault⟩
    rw [State.deckCode_fault fault, State.clearDeckWindow, excited]
    rfl
  case span =>
    have ended : (s.deck d).spanEnded = true := by simp [DeckEngine.spanEnded, transit, ended]
    refine congrArg Host.Outcome.next ((if_pos ended).trans ?_)
    rw [s.endSpan_some record]
    rfl
  case waking =>
    have done : (s.deck d).wakingDone = true := by
      simp only [DeckEngine.wakingDone, waking, record, Option.any_some, beq_self_eq_true, Bool.true_and, decide_eq_true_eq]
      exact filled
    refine congrArg Host.Outcome.next ((if_pos done).trans ?_)
    rw [State.completeWaking, if_pos done]
  case zeroFail =>
    have failed : (s.deck d).captureFailed = true := by simp [DeckEngine.captureFailed, capturing, late]
    refine congrArg Host.Outcome.next ((if_pos failed).trans ?_)
    rw [State.failZero, if_pos failed, State.post_room]
    rw [State.RoomForReport, s.enterDeckState_reports]
    exact room

/-- Settles O17: the step is taken within the bound and stops at it on either side. -/
theorem trackingStep : Obligations.TrackingStep := by
  refine ⟨fun e r z zeros => ⟨?tracked, ?filtered⟩, fun s d r z record zeros due =>
    ⟨fun near => ?near, fun above room => ?above, fun below room => ?below⟩⟩
  case tracked => rw [DeckEngine.tracked, zeros]; rfl
  case filtered =>
    rw [DeckEngine.filtered, DeckEngine.tracked, zeros]
    rfl
  case near => exact (exec_trackingStep record due).trans (congrArg _ (State.trackZero_within zeros (by exact_mod_cast near)))
  case above =>
    push_cast at above
    change 20 * (r.capacity : Int) < z.tracked + clampSigned (250 * r.division) ((s.deck d).filtered r) - z.captured at above
    refine (exec_trackingStep record due).trans (congrArg _ ?_)
    rw [State.trackZero_limited zeros (by omega), clampSigned_above (by omega) above]
    exact State.post_room (s := s.setDeck d _) room _
  case below =>
    push_cast at below
    change z.tracked + clampSigned (250 * r.division) ((s.deck d).filtered r) - z.captured < -(20 * (r.capacity : Int)) at below
    refine (exec_trackingStep record due).trans (congrArg _ ?_)
    rw [State.trackZero_limited zeros (by omega), clampSigned_below (by omega) below]
    exact State.post_room (s := s.setDeck d _) room _

end Sys2Proof.Settled

/-! PROOFS. Judging one accepted group: the motion test, the gap latch, the group's own entry, and the span and the occupancy
that follow it, each read from the fields it leaves. -/

namespace Sys2Proof.Machine

/-! ## Motion and gap latch (R11, R12) -/

/-- A span exceeds a bound exactly when two of the masses do. -/
theorem lt_massSpan_iff {c : Int} (nonneg : 0 ≤ c) (xs : List Int) :
    c < massSpan xs ↔ ∃ x ∈ xs, ∃ y ∈ xs, c < x - y := by
  cases xs with
  | nil => simp [massSpan, nonneg]
  | cons x t =>
    obtain ⟨maxMem, isMax⟩ := List.max?_eq_some_iff.1 (List.max?_cons' (x := x) (xs := t))
    obtain ⟨minMem, isMin⟩ := List.min?_eq_some_iff.1 (List.min?_cons' (x := x) (xs := t))
    refine ⟨fun exceeds => ⟨_, maxMem, _, minMem, exceeds⟩, fun ⟨y, hy, z, hz, exceeds⟩ => ?_⟩
    have upper := isMax y hy
    have lower := isMin z hz
    simp only [massSpan]
    omega

theorem DeckEngine.inMotion_iff (e : DeckEngine) (r : DeckRecord) : e.inMotion r = true ↔
    ∃ x ∈ e.newest (activeWindow r e.profile), ∃ y ∈ e.newest (activeWindow r e.profile),
      ((250 * r.motionBand * r.division : Nat) : Int) < x.mass - y.mass := by
  rw [DeckEngine.inMotion, decide_eq_true_iff, gt_iff_lt, lt_massSpan_iff (by positivity)]
  push_cast
  simp

/-- The gap latch after its test over the newest entries (R12). -/
def latchAfter (ring : List RingEntry) (n : Nat) (latch : Bool) : Bool :=
  if 4 < ((ring.take n).map RingEntry.gap).sum then true
  else if n ≤ ring.length ∧ ∀ x ∈ ring.take n, x.gap = 0 then false
  else latch

theorem DeckEngine.latchTest_eq (e : DeckEngine) (r : DeckRecord) :
    e.latchTest r = latchAfter e.ring (activeWindow r e.profile) e.gapLatch := by
  unfold DeckEngine.latchTest latchAfter DeckEngine.newest DeckEngine.fill
  dsimp only
  by_cases gaps : 4 < ((e.ring.take (activeWindow r e.profile)).map RingEntry.gap).sum
  · rw [if_pos gaps, if_pos gaps]
  · rw [if_neg gaps, if_neg gaps]
    cases e.gapLatch <;> simp [-List.map_take]

/-! ## The stages of an accepted group -/

section
variable (e : DeckEngine) (r : DeckRecord)

/-- The engine after the entry of a group: the first stage of its judging. -/
def DeckEngine.measured (g : SampleGroup) (missing : Nat) : DeckEngine :=
  if g.isSaturated then (e.counted g.sequence missing).saturatedGroup
  else (e.counted g.sequence missing).weighedGroup r (rawMass r g.counts) missing

/-- The transit span counted down by a group, with the return to NOMINAL at its end. -/
def DeckEngine.spanned : DeckEngine :=
  let ends : Bool := e.profile == .transit && decide (e.span ≤ 1)
  { e with
    profile := if ends then .nominal else e.profile
    span := if e.profile = .transit then e.span - 1 else e.span
    stable := if ends then 0 else e.stable
    gapLatch := if ends then latchAfter e.ring r.nominalWindow e.gapLatch else e.gapLatch }

/-- The switch of the profile and the rest idle timer after a change of the occupancy. -/
def DeckEngine.changed (before : Occupancy) : DeckEngine :=
  let switches : Bool := e.occupancy != before && r.transitSpan != 0
  { e with
    profile := if switches then .transit else e.profile
    span := if switches then r.transitSpan else e.span
    stable := if switches then 0 else e.stable
    gapLatch := if switches then latchAfter e.ring r.transitWindow e.gapLatch else e.gapLatch
    restIdle := if e.occupancy ≠ before ∧ e.state = .active then some 0 else e.restIdle }

theorem DeckEngine.returned_settled :
    (e.settled r).returned r false =
      ({ e with profile := .nominal, stable := 0, gapLatch := latchAfter e.ring r.nominalWindow e.gapLatch }).settled r := by
  rw [DeckEngine.returned, DeckEngine.rejudged, if_neg Bool.false_ne_true, DeckEngine.latchTest_eq]
  rfl

theorem DeckEngine.spanCounted_settled : (e.settled r).spanCounted r = (e.spanned r).settled r := by
  unfold DeckEngine.spanCounted
  split
  next nominal =>
    have notTransit : e.profile ≠ .transit := by
      rw [show e.profile = .nominal from nominal]
      decide
    have same : e.spanned r = e := by simp [DeckEngine.spanned, notTransit]
    rw [same]
  next inTransit =>
    have profile : e.profile = .transit := inTransit
    change (if e.span - 1 = 0 then ({ e with span := e.span - 1 }.settled r).returned r false
      else { e with span := e.span - 1 }.settled r) = _
    by_cases ends : e.span ≤ 1
    · rw [if_pos (by omega), DeckEngine.returned_settled]
      simp [DeckEngine.spanned, profile, ends]
    · rw [if_neg (by omega)]
      simp [DeckEngine.spanned, profile, ends]

theorem DeckEngine.occupancyTold_settled (before : Occupancy) :
    (e.settled r).occupancyTold r before = (e.changed r before).settled r := by
  unfold DeckEngine.occupancyTold DeckEngine.switched
  by_cases same : e.occupancy = before
  · rw [if_pos (show (e.settled r).occupancy = before from same)]
    subst same
    simp [DeckEngine.changed]
  · rw [if_neg (show ¬ (e.settled r).occupancy = before from same)]
    by_cases spanless : r.transitSpan = 0
    · rw [if_pos spanless]
      simp [DeckEngine.changed, same, spanless]
      rfl
    · rw [if_neg spanless, DeckEngine.rejudged, if_neg Bool.false_ne_true, DeckEngine.latchTest_eq]
      simp [DeckEngine.changed, same, spanless]
      rfl

/-- An accepted group is its entry, the occupancy judged from it, the span and the change of occupancy, judged once more. -/
theorem DeckEngine.accepted_eq (g : SampleGroup) (missing : Nat) :
    e.accepted r g missing =
      ({ (({ e.measured r g missing with occupancy := ((e.measured r g missing).settled r).occupancyAfter r }.spanned r).changed
            r e.occupancy) with sample := countUp Config.wordTop e.sample }).settled r := by
  have sample : (((e.measured r g missing).spanned r).changed r e.occupancy).sample = e.sample := by
    unfold DeckEngine.measured
    cases g.isSaturated <;> rfl
  have occupied : { (e.measured r g missing).settled r with occupancy := ((e.measured r g missing).settled r).occupancyAfter r }
      = { e.measured r g missing with occupancy := ((e.measured r g missing).settled r).occupancyAfter r }.settled r := rfl
  unfold DeckEngine.accepted
  dsimp only
  rw [← DeckEngine.measured, occupied, DeckEngine.spanCounted_settled, DeckEngine.occupancyTold_settled, ← sample]
  rfl

/-- The ring after a group: it enters unless saturated (R2, R7). -/
def DeckEngine.ringAfter (g : SampleGroup) (missing : Nat) : List RingEntry :=
  if g.isSaturated then e.ring
  else ({ mass := rawMass r g.counts, gap := min 254 (e.pendingGap + missing) } :: e.ring).take 64

/-- The stable count after a group, from the ring it leaves (R2, R3, R11). -/
def DeckEngine.stableCount (g : SampleGroup) (missing : Nat) : Nat :=
  let newest := (e.ringAfter r g missing).take (activeWindow r e.profile)
  if g.isSaturated = true ∨ missing ≠ 0 then 0
  else if (e.ringAfter r g missing).length < activeWindow r e.profile then e.stable
  else if newest.any fun x => newest.any fun y =>
    decide (((250 * r.motionBand * r.division : Nat) : Int) < x.mass - y.mass) then 0
  else min 255 (e.stable + 1)

theorem DeckEngine.measured_saturated {g : SampleGroup} (missing : Nat) (saturated : g.isSaturated = true) :
    e.measured r g missing = { e with
      last := some g.sequence, pendingGap := min 254 (e.pendingGap + missing), stable := 0, overload := true } :=
  if_pos saturated

theorem DeckEngine.measured_weighed {g : SampleGroup} (missing : Nat) (weighs : g.isSaturated = false) :
    e.measured r g missing = { e with
      last := some g.sequence, pendingGap := 0, overload := false, ring := e.ringAfter r g missing
      gapLatch := latchAfter (e.ringAfter r g missing) (activeWindow r e.profile) e.gapLatch
      stable := e.stableCount r g missing } := by
  have enters : e.ringAfter r g missing =
      ({ mass := rawMass r g.counts, gap := min 254 (e.pendingGap + missing) } :: e.ring).take 64 :=
    if_neg (by rw [weighs]; decide)
  have moving (x : DeckEngine) : x.inMotion r = ((x.ring.take (activeWindow r x.profile)).any fun y =>
      (x.ring.take (activeWindow r x.profile)).any fun z =>
        decide (((250 * r.motionBand * r.division : Nat) : Int) < y.mass - z.mass)) := by
    rw [Bool.eq_iff_iff, DeckEngine.inMotion_iff]
    simp only [List.any_eq_true, decide_eq_true_eq]
    rfl
  unfold DeckEngine.measured DeckEngine.weighedGroup DeckEngine.stableAfter DeckEngine.stableCount
  rw [if_neg (by rw [weighs]; decide), enters]
  dsimp only
  rw [DeckEngine.latchTest_eq, moving, weighs]
  simp only [Bool.false_eq_true, false_or]
  rfl

theorem DeckEngine.measured_eq (g : SampleGroup) (missing : Nat) :
    e.measured r g missing = { e with
      last := some g.sequence, pendingGap := if g.isSaturated then min 254 (e.pendingGap + missing) else 0
      overload := g.isSaturated, ring := e.ringAfter r g missing, stable := e.stableCount r g missing
      gapLatch := if g.isSaturated then e.gapLatch
        else latchAfter (e.ringAfter r g missing) (activeWindow r e.profile) e.gapLatch } := by
  obtain saturated | weighs := Bool.eq_false_or_eq_true g.isSaturated
  · rw [DeckEngine.measured_saturated _ _ _ saturated]
    simp [DeckEngine.ringAfter, DeckEngine.stableCount, saturated]
  · rw [DeckEngine.measured_weighed _ _ _ weighs]
    simp [weighs]

/-- The occupancy a judged state and its value give (R16). -/
theorem DeckEngine.occupancyAfter_cases :
    (∀ v, e.judge r = (.over, v) → (e.settled r).occupancyAfter r = .occupied)
    ∧ (∀ v, e.judge r = (.under, v) → (e.settled r).occupancyAfter r = .empty)
    ∧ (∀ j, j ≠ .over → j ≠ .under → e.judge r = (j, none) → (e.settled r).occupancyAfter r = e.occupancy)
    ∧ ∀ j w, j ≠ .over → j ≠ .under → e.judge r = (j, some w) → (e.settled r).occupancyAfter r =
      if ((1000 * r.occupancyThreshold * r.division : Nat) : Int) ≤ w then .occupied
      else if w < ((500 * r.occupancyThreshold * r.division : Nat) : Int) then .empty
      else e.occupancy := by
  have judged (p : Judged × Option Int) (same : e.judge r = p) :
      (e.settled r).judged = p.1 ∧ (e.settled r).value = p.2 := by
    rw [← same]
    exact ⟨rfl, rfl⟩
  unfold DeckEngine.occupancyAfter
  refine ⟨fun v same => ?_, fun v same => ?_, fun j notOver notUnder same => ?_, fun j w notOver notUnder same => ?_⟩
  · obtain ⟨state, value⟩ := judged _ same
    rw [state]
  · obtain ⟨state, value⟩ := judged _ same
    rw [state]
  · obtain ⟨state, value⟩ := judged _ same
    rw [state, value]
    cases j <;> trivial
  · obtain ⟨state, value⟩ := judged _ same
    rw [state, value]
    push_cast
    cases j <;> trivial

end

end Sys2Proof.Machine

namespace Sys2Proof.Settled
open Machine

/-- Settles O12: the table line by line, and an accepted group as its entry, the span, the occupancy and one more judging. -/
theorem judgedState : Obligations.JudgedState := by
  refine ⟨fun e r divides => ?table, fun e r => ⟨⟨rfl, ?rejudged⟩, fun g missing => ?accepted⟩⟩
  case table =>
    refine ⟨e.average (activeWindow r e.profile), roundDiv (e.filtered r) (1000 * r.division), fun some_ => ?_,
      roundsHalfAway_roundDiv _ (by omega), ?_⟩
    · exact roundsHalfAway_roundDiv _ some_
    · rfl
  case rejudged =>
    rw [DeckEngine.rejudged, if_neg Bool.false_ne_true, DeckEngine.latchTest_eq]
    rfl
  case accepted =>
    have group := e.accepted_eq r g missing
    have entry := e.measured_eq r g missing
    extract_lets a n ring moves stable m occupancy ends switches latch
    have occupied : ((e.measured r g missing).settled r).occupancyAfter r = occupancy := by
      have judged : (e.measured r g missing).judge r = m.judge r := by
        rw [entry]
        rfl
      obtain ⟨isOver, isUnder, valueless, valued⟩ := (e.measured r g missing).occupancyAfter_cases r
      have kept : (e.measured r g missing).occupancy = e.occupancy := by rw [entry]
      simp only [judged, kept] at isOver isUnder valueless valued
      unfold occupancy
      generalize m.judge r = p at isOver isUnder valueless valued ⊢
      obtain ⟨j, v⟩ := p
      by_cases exceeds : j = .over
      · subst exceeds
        exact isOver v rfl
      · cases j with
        | under => exact isUnder v rfl
        | filling | motion | stable | invalid =>
          cases v with
          | none => exact valueless _ (by decide) (by decide) rfl
          | some w => exact valued _ w (by decide) (by decide) rfl
        | _ => exact absurd rfl exceeds
    rw [occupied, entry] at group
    change a = _ at group
    rw [ite_or]
    rw [group]
    exact ⟨rfl, rfl, rfl, rfl, rfl, rfl, rfl, rfl, rfl, rfl, rfl⟩

end Sys2Proof.Settled

/-! PROOFS. A sample group the deck is handed: what an accepted one leaves of the engine, and what each deck state makes of it. -/

namespace Sys2Proof.Machine

/-! ## The fields of an accepted group -/

section
variable (e : DeckEngine) (r : DeckRecord) (g : SampleGroup) (missing : Nat)

theorem DeckEngine.accepted_kept : (e.accepted r g missing).state = e.state ∧ (e.accepted r g missing).record = e.record
    ∧ (e.accepted r g missing).zeros = e.zeros ∧ (e.accepted r g missing).last = some g.sequence
    ∧ (e.accepted r g missing).sample = min 4294967295 (e.sample + 1)
    ∧ (e.accepted r g missing).ring = e.ringAfter r g missing ∧ (e.accepted r g missing).overload = g.isSaturated
    ∧ (e.accepted r g missing).pendingGap = if g.isSaturated then min 254 (e.pendingGap + missing) else 0 := by
  rw [DeckEngine.accepted_eq, DeckEngine.measured_eq]
  exact ⟨rfl, rfl, rfl, rfl, rfl, rfl, rfl, rfl⟩

/-- Missing samples, like saturation, leave the stable count at 0, whatever the span and the occupancy do after (R3). -/
theorem DeckEngine.accepted_stable (breaks : g.isSaturated = true ∨ missing ≠ 0) : (e.accepted r g missing).stable = 0 := by
  have none_ : (e.measured r g missing).stable = 0 := by
    rw [DeckEngine.measured_eq]
    exact if_pos breaks
  rw [DeckEngine.accepted_eq]
  change (if _ then 0 else if _ then 0 else (e.measured r g missing).stable) = 0
  rw [none_, ite_self, ite_self]

theorem DeckEngine.judge_overload (overloaded : e.overload = true) : e.judge r = (.over, none) := if_pos overloaded

theorem DeckEngine.accepted_saturated (saturated : g.isSaturated = true) : (e.accepted r g missing).judged = .over
    ∧ (e.accepted r g missing).value = none ∧ (e.accepted r g missing).occupancy = .occupied := by
  have overloaded : (e.measured r g missing).overload = true := by rw [DeckEngine.measured_eq]; exact saturated
  obtain ⟨isOver, -⟩ := (e.measured r g missing).occupancyAfter_cases r
  have occupied := isOver none ((e.measured r g missing).judge_overload r overloaded)
  rw [DeckEngine.accepted_eq, occupied]
  rw [DeckEngine.settled, DeckEngine.judge_overload]
  · exact ⟨rfl, rfl, rfl⟩
  · exact overloaded

end

theorem SampleGroup.isSaturated_iff (g : SampleGroup) : g.isSaturated = true ↔
    ∃ p ∈ [(g.saturated.c1, g.counts.c1), (g.saturated.c2, g.counts.c2), (g.saturated.c3, g.counts.c3),
      (g.saturated.c4, g.counts.c4)], p.1 = true ∨ p.2 = 8388607 ∨ p.2 = -8388608 := by
  simp [SampleGroup.isSaturated, cornerSaturated, or_assoc]

theorem sequenceCheck_some {k number : Nat} (last : k < 256) (next : number < 256) :
    sequenceCheck (some k) number = if number = k then none else some ((number + 255 - k) % 256) := by
  rw [sequenceCheck]
  split
  next => rfl
  next => exact congrArg some (by omega)

/-! ## Where a group goes -/

section
variable {s : State} {d : DeckId} {r : DeckRecord} {g : SampleGroup} {missing : Nat}

theorem State.deckGroup_none
    (against : (s.deck d).state.acceptsGroups = false ∨ s.excited d = true ∨ sequenceCheck (s.deck d).last g.sequence = none) :
    s.deckGroup d g = s := by
  unfold State.deckGroup
  split
  next => rfl
  next w found =>
    split
    next => rfl
    next passes =>
      split
      next => rfl
      next number checked => simp_all

theorem State.deckGroup_accepted (record : (s.deck d).record = some r) (accepts : (s.deck d).state.acceptsGroups = true)
    (calm : s.excited d = false) (checked : sequenceCheck (s.deck d).last g.sequence = some missing) :
    s.deckGroup d g = (s.setDeck d ((s.deck d).accepted r g missing)).afterGroup d r := by
  unfold State.deckGroup
  split
  next missing_ => simp [record] at missing_
  next w found =>
    cases record.symm.trans found
    rw [if_neg (by simp [accepts, calm])]
    split
    next duplicate => simp [checked] at duplicate
    next number counted =>
      cases checked.symm.trans counted
      rfl

/-- What the excitation test reads of a deck is its record. -/
theorem State.excited_setDeck {e : DeckEngine} (record : e.record = (s.deck d).record) :
    (s.setDeck d e).excited d = s.excited d := by
  rw [Bool.eq_iff_iff, State.excited_iff, State.excited_iff, State.deck_setDeck_self, record]
  rfl

/-! ## The deck states that accept groups -/

theorem State.afterGroup_active (state : (s.deck d).state = .active) :
    s.afterGroup d r = ((s.replaceReading d).streamGroup d).trackGroup d r := by
  unfold State.afterGroup
  rw [state]

theorem State.afterGroup_capturing (state : (s.deck d).state = .capturing) : s.afterGroup d r = s.capturingGroup d r := by
  unfold State.afterGroup
  rw [state]

theorem State.afterGroup_waking (state : (s.deck d).state = .waking) :
    s.afterGroup d r =
      if ((s.setDeck d { s.deck d with trackingCount := 0 }).deck d).wakingDone
      then (s.setDeck d { s.deck d with trackingCount := 0 }).completeWaking d
      else (s.setDeck d { s.deck d with trackingCount := 0 }).replaceReading d := by
  unfold State.afterGroup
  rw [state]

theorem State.afterGroup_warmRest (state : (s.deck d).state = .warmRest) :
    s.afterGroup d r =
      if (((s.replaceReading d).trackGroup d r).deck d).occupancy = .occupied
      then ((s.replaceReading d).trackGroup d r).wakeDeckEvent d else (s.replaceReading d).trackGroup d r := by
  unfold State.afterGroup
  rw [state]

/-- Tracking moves the zeros, the count and ZERO-LIMIT; state and occupancy stand. -/
theorem State.trackZero_deck (s : State) (d : DeckId) (r : DeckRecord) : ((s.trackZero d r).deck d).state = (s.deck d).state
    ∧ ((s.trackZero d r).deck d).occupancy = (s.deck d).occupancy := by
  unfold State.trackZero
  dsimp only
  split
  next => exact ⟨rfl, rfl⟩
  next =>
    split
    · rw [State.deck_setDeck_self]
      exact ⟨rfl, rfl⟩
    · rw [State.post_deck, State.deck_setDeck_self]
      exact ⟨rfl, rfl⟩

theorem State.trackGroup_deck (s : State) (d : DeckId) (r : DeckRecord) : ((s.trackGroup d r).deck d).state = (s.deck d).state
    ∧ ((s.trackGroup d r).deck d).occupancy = (s.deck d).occupancy := by
  unfold State.trackGroup
  dsimp only
  split
  · split
    · rw [(State.trackZero_deck _ d r).1, (State.trackZero_deck _ d r).2, State.deck_setDeck_self]
      exact ⟨rfl, rfl⟩
    · rw [State.deck_setDeck_self]
      exact ⟨rfl, rfl⟩
  · rw [State.deck_setDeck_self]
    exact ⟨rfl, rfl⟩

theorem State.wakeDeckEvent_warmRest (state : (s.deck d).state = .warmRest) : s.wakeDeckEvent d = s.enterDeckState d .waking := by
  unfold State.wakeDeckEvent
  rw [state]

theorem DeckEngine.wakingDone_iff {e : DeckEngine} (state : e.state = .waking) (record : e.record = some r) :
    e.wakingDone = true ↔ activeWindow r e.profile ≤ e.ring.length := by
  simp only [DeckEngine.wakingDone, state, record, Option.any_some, beq_self_eq_true, Bool.true_and, decide_eq_true_eq]
  rfl

theorem DeckEngine.captureTest_iff {e : DeckEngine} {z : Zeros} (zeros : e.zeros = some z) : e.captureTest r = true ↔
    e.judged = .stable ∧ (e.average (activeWindow r e.profile) - z.refZero).natAbs ≤ 100 * r.capacity := by
  rw [DeckEngine.captureTest, zeros]
  simp [within]

theorem DeckEngine.captureFailed_iff {e : DeckEngine} (state : e.state = .capturing) :
    e.captureFailed = true ↔ 1250 ≤ e.captureCount := by
  simp [DeckEngine.captureFailed, state, Config.captureLimit]

theorem State.qualifies_iff : s.qualifies d r = true ↔ r.zeroTracking = true ∧ (s.deck d).zeroLimit = false
    ∧ ((s.deck d).state = .active ∨ (s.deck d).state = .warmRest) ∧ (s.deck d).judged = .stable
    ∧ (s.deck d).value = some 0 ∧ (s.arbiter d).holder = none := by
  have unheld : s.deckHeld d = false ↔ (s.arbiter d).holder = none := by
    rw [← Bool.not_eq_true, State.deckHeld_iff, not_not]
  simp only [State.qualifies, Bool.and_eq_true, Bool.or_eq_true, Bool.not_eq_true', beq_iff_eq, unheld, and_assoc]

end

end Sys2Proof.Machine

namespace Sys2Proof.Settled
open Machine

/-- Settles O13: each deck state's own handling of the engine an accepted group leaves, and the groups without effect. -/
theorem sampleGroupAccepted : Obligations.SampleGroupAccepted := by
  refine ⟨fun s d g r missing record calm checked => ?weighed,
    fun s d => ⟨fun off => if_pos off, fun on active => ⟨fun early => ?early, fun due room => ?due⟩⟩,
    fun s d r record => ⟨fun fails => ?fails, fun qualifies early => ?counts, fun qualifies due => ?steps⟩,
    fun e r g missing => ?fields, SampleGroup.isSaturated_iff, fun x n pos => roundsHalfAway_roundDiv x pos,
    fun k number last next => ⟨rfl, sequenceCheck_some last next⟩, fun s d g r record against => ?against⟩
  case weighed =>
    extract_lets a n average c w u
    refine ⟨fun capturing z zeros => ?capturing, fun active => ?active, fun waking => ?waking, fun resting => ?warmRest⟩
    case capturing =>
      obtain ⟨state, sameRecord, sameZeros, -⟩ := (s.deck d).accepted_kept r g missing
      have accepts : (s.deck d).state.acceptsGroups = true := by rw [capturing]; rfl
      extract_lets passes
      have aState : a.state = .capturing := state.trans capturing
      have aZeros : a.zeros = some z := sameZeros.trans zeros
      have test : c.captureTest r = true ↔ passes := DeckEngine.captureTest_iff aZeros
      have failed : c.captureFailed = true ↔ 1250 ≤ a.captureCount + 1 := DeckEngine.captureFailed_iff aState
      have quiet : (s.setDeck d c).excited d = false := (State.excited_setDeck (e := c) sameRecord).trans calm
      have group : s.deckGroup d g = if c.captureTest r then (s.setDeck d c).captureZero d r
          else if c.captureFailed then (s.setDeck d c).failZero d else (s.setDeck d c).replaceReading d := by
        rw [State.deckGroup_accepted record accepts calm checked,
          State.afterGroup_capturing ((congrArg _ (State.deck_setDeck_self ..)).trans aState), State.capturingGroup]
        simp only [State.deck_setDeck_self, State.setDeck_setDeck] <;> rfl
      refine ⟨fun ok => ?_, fun bad early => ?_, fun bad late room => ?_⟩
      · rw [group, if_pos (test.2 ok), State.captureZero, quiet, State.deck_setDeck_self, State.setDeck_setDeck]
        simp only [DeckEngine.windowCleared, Bool.false_eq_true, if_false]
        rw [show c.zeros = some z from aZeros, show c.state = .capturing from aState]
        rfl
      · rw [group, if_neg (mt test.1 bad), if_neg (mt failed.1 (Nat.not_le.2 early))]
      · have failing : ((s.setDeck d c).deck d).captureFailed = true := by
          rw [State.deck_setDeck_self]
          exact failed.2 late
        rw [group, if_neg (mt test.1 bad), if_pos (failed.2 late), State.failZero, if_pos failing, State.post_room]
        rw [State.RoomForReport, State.enterDeckState_reports]
        exact room
    case active =>
      obtain ⟨state, -⟩ := (s.deck d).accepted_kept r g missing
      rw [State.deckGroup_accepted record (by rw [active]; rfl) calm checked, State.afterGroup_active]
      rw [State.deck_setDeck_self, state, active]
    case waking =>
      obtain ⟨state, sameRecord, -⟩ := (s.deck d).accepted_kept r g missing
      have aState : a.state = .waking := state.trans waking
      have aRecord : a.record = some r := sameRecord.trans record
      have done : (w.deck d).wakingDone = true ↔ n ≤ a.ring.length := by
        unfold w
        rw [State.deck_setDeck_self]
        exact DeckEngine.wakingDone_iff aState aRecord
      have group : s.deckGroup d g = if (w.deck d).wakingDone then w.completeWaking d else w.replaceReading d := by
        rw [State.deckGroup_accepted record (by rw [waking]; rfl) calm checked,
          State.afterGroup_waking ((congrArg _ (State.deck_setDeck_self ..)).trans aState),
          State.deck_setDeck_self s d a, State.setDeck_setDeck]
      refine ⟨fun filled => ?_, fun filling => ?_⟩
      · rw [group, if_pos (done.2 filled), State.completeWaking, if_pos (done.2 filled)]
      · rw [group, if_neg (mt done.1 (Nat.not_le.2 filling))]
    case warmRest =>
      obtain ⟨state, -⟩ := (s.deck d).accepted_kept r g missing
      have aState : ((s.setDeck d a).deck d).state = .warmRest :=
        (congrArg _ (State.deck_setDeck_self ..)).trans (state.trans resting)
      have group : s.deckGroup d g = if (u.deck d).occupancy = .occupied then u.wakeDeckEvent d else u := by
        rw [State.deckGroup_accepted record (by rw [resting]; rfl) calm checked, State.afterGroup_warmRest aState]
      have reading : (((s.setDeck d a).replaceReading d).deck d).state = ((s.setDeck d a).deck d).state
          ∧ (((s.setDeck d a).replaceReading d).deck d).occupancy = a.occupancy := by
        rw [State.replaceReading_eq, State.deck_setDeck_self, State.deck_setDeck_self]
        exact ⟨rfl, rfl⟩
      obtain ⟨keptState, keptOccupancy⟩ := State.trackGroup_deck ((s.setDeck d a).replaceReading d) d r
      have occupancy : (u.deck d).occupancy = a.occupancy := keptOccupancy.trans reading.2
      refine ⟨fun empty => ?_, fun occupied => ?_⟩
      · rw [group, occupancy, if_neg (by rw [empty]; decide)]
      · rw [group, occupancy, if_pos occupied, State.wakeDeckEvent_warmRest (keptState.trans (reading.1.trans aState))]
  case early =>
    refine (if_neg on).trans (if_neg ?_)
    rw [State.deck_setDeck_self]
    simp [DeckEngine.streamDue, early]
  case due =>
    refine (if_neg on).trans ((if_pos ?_).trans ?_)
    · rw [State.deck_setDeck_self]
      simpa [DeckEngine.streamDue, active, on] using due
    · rw [State.post_room (s := (s.setDeck d _).setDeck d _) room, State.deck_setDeck_self, State.setDeck_setDeck]
  case fails => exact if_neg (mt State.qualifies_iff.1 fails)
  case counts =>
    refine (if_pos (State.qualifies_iff.2 qualifies)).trans (if_neg ?_)
    rw [State.deck_setDeck_self]
    simp only [DeckEngine.trackingDue, Config.trackingRun, decide_eq_true_eq]
    omega
  case steps =>
    have counted : 125 ≤ ((s.setDeck d { s.deck d with trackingCount := (s.deck d).trackingCount + 1 }).deck d).trackingCount := by
      rw [State.deck_setDeck_self]
      exact due
    refine (exec_trackingStep (r := r) ?_ counted).trans (congrArg _ ?_)
    · rw [State.deck_setDeck_self]
      exact record
    · exact ((if_pos (State.qualifies_iff.2 qualifies)).trans (if_pos (decide_eq_true counted))).symm
  case fields =>
    obtain ⟨state, record, zeros, last, sample, ring, overload, gap⟩ := e.accepted_kept r g missing
    refine ⟨last, sample, zeros, state, record, fun saturated => ?_, fun weighs => ?_⟩
    · rw [saturated] at overload gap
      exact ⟨ring.trans (if_pos saturated), overload, e.accepted_stable r g missing (.inl saturated), gap,
        e.accepted_saturated r g missing saturated⟩
    · rw [weighs] at overload gap
      exact ⟨ring.trans (if_neg (by rw [weighs]; decide)), gap, overload, fun gaps => e.accepted_stable r g missing (.inr gaps)⟩
  case against =>
    refine State.deckGroup_none ?_
    obtain waiting | cold | fault | excited | duplicate := against
    · exact .inl (by rw [waiting]; rfl)
    · exact .inl (by rw [cold]; rfl)
    · exact .inl (by rw [fault]; rfl)
    · exact .inr (.inl excited)
    · exact .inr (.inr (by rw [duplicate]; exact if_pos rfl))

end Sys2Proof.Settled

/-! PROOFS. The vehicle record of a load; the end of a superframe and of a period, station by station. -/

namespace Sys2Proof.Machine

/-! ## The checks of a vehicle load (R42) -/

theorem identChar_iff (c : Char) : identChar c = true ↔ ('A' ≤ c ∧ c ≤ 'Z') ∨ ('0' ≤ c ∧ c ≤ '9') ∨ c = '-' := by
  simp [identChar, or_assoc]

theorem validIdent_iff (t : Text) : validIdent t = true ↔ 1 ≤ t.length ∧ t.length ≤ 16 ∧ ∀ c ∈ t, identChar c = true := by
  simp [validIdent, and_assoc]

theorem optInRange_iff (low high : Nat) (x : Option Nat) : optInRange low high x = true ↔ ∀ k, x = some k → low ≤ k ∧ k ≤ high := by
  cases x with
  | none => simp [optInRange]
  | some n => simp [optInRange, inRange_iff]

theorem categorySet_iff (xs : List Nat) (set : List CategoryNo) : categorySet xs = some set ↔
    (∀ k ∈ xs, 1 ≤ k ∧ k ≤ 16) ∧ set = (List.finRange 16).filter fun c => decide (c.val + 1 ∈ xs) := by
  rw [categorySet, Option.ite_none_right_eq_some, List.all_eq_true, Option.some.injEq]
  simp only [inRange_iff, @eq_comm _ set]

theorem categoryOf_iff (k : Nat) (c : CategoryNo) : categoryOf k = some c ↔ k = c.val + 1 :=
  ⟨oneBased_some, fun same => same ▸ categoryOf_succ c⟩

/-! ## Reports of a walk over the stations (log entry 55) -/

/-- What posting a report reads and writes. -/
def State.office (s : State) : List Report × Nat × Bool × YardClock := (s.reports, s.dropped, s.overrun, s.clock)

theorem State.office_iff (s t : State) : t.office = s.office ↔
    t.reports = s.reports ∧ t.dropped = s.dropped ∧ t.overrun = s.overrun ∧ t.clock = s.clock := by
  simp [State.office]

theorem State.post_office {s t : State} (same : t.office = s.office) (b : ReportBody) : (t.post b).office = (s.post b).office := by
  obtain ⟨reports, dropped, overrun, clock⟩ := (State.office_iff s t).1 same
  unfold State.post State.now
  rw [reports, dropped, clock]
  split
  · simp [State.office, overrun]
  · simp [State.office]

/-- A walk that changes each station's own part and posts for some of them leaves the office as those posts do. -/
theorem forEach_office {f : StationId → State → State} {p : StationId → Bool} {body : StationId → ReportBody}
    {untouched : StationId → State → Prop} (away : ∀ t m n, n ≠ m → untouched n t → untouched n (f m t))
    (own : ∀ t n, untouched n t → (f n t).office = if p n then (t.post (body n)).office else t.office) {xs : List StationId}
    (nodup : xs.Nodup) {t u : State} (same : t.office = u.office) (fresh : ∀ n ∈ xs, untouched n t) :
    (forEach xs f t).office = ((xs.filter p).foldl (fun u n => u.post (body n)) u).office := by
  induction xs generalizing t u with
  | nil => exact same
  | cons m xs ih =>
    obtain ⟨distinct, nodup⟩ := List.nodup_cons.1 nodup
    have left : ∀ n ∈ xs, untouched n (f m t) := fun n mem =>
      away t m n (fun eq => distinct (eq ▸ mem)) (fresh n (List.mem_cons_of_mem _ mem))
    have first := own t m (fresh m List.mem_cons_self)
    rw [forEach_cons]
    obtain posts | silent := Bool.eq_false_or_eq_true (p m)
    · rw [if_pos posts] at first
      rw [List.filter_cons_of_pos posts]
      exact ih nodup (first.trans (State.post_office same _)) left
    · rw [if_neg (by rw [silent]; decide)] at first
      rw [List.filter_cons_of_neg (by rw [silent]; decide)]
      exact ih nodup (first.trans same) left

/-- The reports of a walk stand behind those waiting, with the note and the count as they were, when all find room. -/
theorem posts_office_room {s : State} {xs : List StationId} {body : StationId → ReportBody}
    (room : s.reports.length + xs.length ≤ 32) :
    let t := xs.foldl (fun u n => u.post (body n)) s
    t.reports = s.reports ++ xs.map (fun n => { body := body n, stamp := s.now })
      ∧ t.dropped = s.dropped ∧ t.overrun = s.overrun := by
  have all : xs.foldl (fun u n => u.post (body n)) s = s.posted (xs.map body) := s.forEach_post xs body
  rw [all, State.posted_room (by rw [List.length_map]; exact room), List.map_map]
  exact ⟨rfl, rfl, rfl⟩

/-! ## One station at the end of a superframe and of a period (R149–R151) -/

section
variable (s t : State) (n m : StationId)

theorem State.accountSlot_slot_self : (t.accountSlot n).slot n =
    { (t.slot n).accounted with degraded := (t.slot n).degraded || (t.slot n).degrades } := by
  unfold State.accountSlot
  dsimp only
  split
  next falls => simp [falls, State.updateStation]
  next stands => simp [stands, LoopSlot.accounted]

theorem State.accountSlot_station_self : (t.accountSlot n).station n =
    { t.station n with wasDegraded := (t.station n).wasDegraded || (t.slot n).degrades } := by
  unfold State.accountSlot
  dsimp only
  split
  next falls => simp [falls, State.updateStation]
  next stands => simp [stands]

theorem State.accountSlot_away (other : n ≠ m) :
    (t.accountSlot m).slot n = t.slot n ∧ (t.accountSlot m).station n = t.station n := by
  unfold State.accountSlot
  dsimp only
  split
  next => simp [State.updateStation, State.slot_setSlot, State.station_setStation, other.symm]
  next => simp [State.slot_setSlot, other.symm]

theorem State.accountSlot_office : (t.accountSlot n).office =
    if (t.slot n).degrades then (t.post (.degraded n (t.slot n).accounted.periodErrors (t.slot n).accounted.near
      (t.slot n).accounted.far (t.slot n).accounted.threshold)).office else t.office := by
  unfold State.accountSlot
  dsimp only
  split
  next =>
    apply State.post_office
    rfl
  next => rfl

theorem State.accountSlot_frame : { t.accountSlot n with
    slots := s.slots, stations := s.stations, reports := s.reports, dropped := s.dropped, overrun := s.overrun } =
    { t with slots := s.slots, stations := s.stations, reports := s.reports, dropped := s.dropped, overrun := s.overrun } := by
  unfold State.accountSlot
  dsimp only
  split
  next => rw [State.post_eq]; rfl
  next => rfl

theorem State.judgePeriod_slot_self : (t.judgePeriod n).slot n =
    { t.slot n with periodErrors := 0, degraded := (t.slot n).degraded
      && !((t.slot n).degraded && decide ((t.slot n).periodErrors < (t.slot n).threshold)) } := by
  unfold State.judgePeriod
  dsimp only
  split
  next clears => simp [clears]
  next stands => simp_all

theorem State.judgePeriod_away (other : n ≠ m) : (t.judgePeriod m).slot n = t.slot n := by
  unfold State.judgePeriod
  dsimp only
  split <;> simp [State.slot_setSlot, other.symm]

theorem State.judgePeriod_office : (t.judgePeriod n).office =
    if (t.slot n).degraded && decide ((t.slot n).periodErrors < (t.slot n).threshold)
    then (t.post (.degradeCleared n)).office else t.office := by
  simp only [Bool.and_eq_true, decide_eq_true_eq]
  unfold State.judgePeriod
  dsimp only
  split
  next =>
    apply State.post_office
    rfl
  next => rfl

theorem State.judgePeriod_frame : { t.judgePeriod n with
    slots := s.slots, reports := s.reports, dropped := s.dropped, overrun := s.overrun } =
    { t with slots := s.slots, reports := s.reports, dropped := s.dropped, overrun := s.overrun } := by
  unfold State.judgePeriod
  dsimp only
  split
  next => rw [State.post_eq]; rfl
  next => rfl

end

/-! ## All stations -/

theorem State.eq_of_slots_stations_office {s u : State} (frame : { u with
      slots := s.slots, stations := s.stations, reports := s.reports, dropped := s.dropped, overrun := s.overrun } = s) :
    u = { s with
      slots := u.slots, stations := u.stations, reports := u.reports, dropped := u.dropped, overrun := u.overrun } :=
  congrArg (fun t : State => { t with
    slots := u.slots, stations := u.stations, reports := u.reports, dropped := u.dropped, overrun := u.overrun }) frame

theorem State.eq_of_slots_office {s u : State} (frame : { u with
      slots := s.slots, reports := s.reports, dropped := s.dropped, overrun := s.overrun } = s) :
    u = { s with slots := u.slots, reports := u.reports, dropped := u.dropped, overrun := u.overrun } :=
  congrArg (fun t : State => { t with
    slots := u.slots, reports := u.reports, dropped := u.dropped, overrun := u.overrun }) frame

/-- The end of a superframe for all stations: each slot and station by itself, and the posts in slot order. -/
theorem State.accountStations (s : State) :
    let u := forEach allStations (fun n t => t.accountSlot n) s
    (∀ n, u.slot n = { (s.slot n).accounted with degraded := (s.slot n).degraded || (s.slot n).degrades }
      ∧ u.station n = { s.station n with wasDegraded := (s.station n).wasDegraded || (s.slot n).degrades })
    ∧ u.office = ((allStations.filter fun n => (s.slot n).degrades).foldl (fun u n => u.post (.degraded n
        (s.slot n).accounted.periodErrors (s.slot n).accounted.near (s.slot n).accounted.far (s.slot n).threshold)) s).office
    ∧ u = { s with slots := u.slots, stations := u.stations, reports := u.reports, dropped := u.dropped, overrun := u.overrun } := by
  intro u
  have pointwise (n : StationId) := forEach_pointwise (fun u n => (u.slot n, u.station n)) (fun n t => t.accountSlot n)
    (fun n => ({ (s.slot n).accounted with degraded := (s.slot n).degraded || (s.slot n).degrades },
      { s.station n with wasDegraded := (s.station n).wasDegraded || (s.slot n).degrades })) s (List.nodup_finRange 24)
    (fun t m n other => by rw [(t.accountSlot_away n m other).1, (t.accountSlot_away n m other).2])
    (fun t n _ same => by
      obtain ⟨slot, station⟩ := Prod.mk.inj same
      rw [t.accountSlot_slot_self, t.accountSlot_station_self, slot, station]) n
  refine ⟨fun n => ?_, ?_, ?_⟩
  · exact Prod.mk.inj ((pointwise n).trans (if_pos (List.mem_finRange n)))
  · refine forEach_office (untouched := fun n t => t.slot n = s.slot n)
      (fun t m n other same => (t.accountSlot_away n m other).1.trans same) (fun t n same => ?_) (List.nodup_finRange 24) rfl
      fun n _ => rfl
    rw [t.accountSlot_office, same]
    rfl
  · have frame := forEach_keeps (fun t => { t with
      slots := s.slots, stations := s.stations, reports := s.reports, dropped := s.dropped, overrun := s.overrun } = s)
      allStations (fun n t => t.accountSlot n) (fun n _ t kept => (State.accountSlot_frame s t n).trans kept) s rfl
    exact State.eq_of_slots_stations_office frame

/-- The end of a period for all stations. -/
theorem State.judgeStations (s : State) :
    let u := forEach allStations (fun n t => t.judgePeriod n) s
    let clears (n : StationId) : Bool := (s.slot n).degraded && decide ((s.slot n).periodErrors < (s.slot n).threshold)
    (∀ n, u.slot n = { s.slot n with periodErrors := 0, degraded := (s.slot n).degraded && !clears n })
    ∧ u.office = ((allStations.filter clears).foldl (fun u n => u.post (.degradeCleared n)) s).office
    ∧ u = { s with slots := u.slots, reports := u.reports, dropped := u.dropped, overrun := u.overrun } := by
  intro u clears
  have pointwise (n : StationId) := forEach_pointwise (fun u n => u.slot n) (fun n t => t.judgePeriod n)
    (fun n => { s.slot n with periodErrors := 0, degraded := (s.slot n).degraded && !clears n }) s (List.nodup_finRange 24)
    (fun t m n other => t.judgePeriod_away n m other) (fun t n _ same => by rw [t.judgePeriod_slot_self, same]) n
  refine ⟨fun n => (pointwise n).trans (if_pos (List.mem_finRange n)), ?_, ?_⟩
  · refine forEach_office (untouched := fun n t => t.slot n = s.slot n)
      (fun t m n other same => (t.judgePeriod_away n m other).trans same) (fun t n same => ?_) (List.nodup_finRange 24) rfl
      fun n _ => rfl
    rw [t.judgePeriod_office, same]
  · have frame := forEach_keeps (fun t => { t with
      slots := s.slots, reports := s.reports, dropped := s.dropped, overrun := s.overrun } = s)
      allStations (fun n t => t.judgePeriod n) (fun n _ t kept => (State.judgePeriod_frame s t n).trans kept) s rfl
    exact State.eq_of_slots_office frame

end Sys2Proof.Machine

namespace Sys2Proof.Settled
open Machine

/-- Settles O22: each check of the load is one requirement, and the record holds the values that passed. -/
theorem vehicleRecordChecks : Obligations.VehicleRecordChecks := by
  refine ⟨identChar_iff, validIdent_iff, fun v r => ?_⟩
  simp only [vehicleRecord, bind, Option.bind_eq_some_iff, Option.ite_none_right_eq_some, categorySet_iff, categoryOf_iff,
    Bool.and_eq_true, Bool.or_eq_true, Bool.not_eq_true', validIdent_iff, inRange_iff, optInRange_iff, beq_iff_eq,
    Option.isSome_iff_ne_none, Option.isNone_iff_eq_none, List.contains_iff_mem, List.isEmpty_eq_false_iff, Option.some.injEq]
  constructor
  · rintro ⟨account, hasAccount, status, hasStatus, policy, hasPolicy, permitted, ⟨numbers, set⟩, category,
      ⟨number, hasDefault, rfl⟩, ⟨⟨⟨⟨⟨⟨⟨⟨⟨shortest, longest, chars⟩, low, high⟩, tare⟩, tareRange⟩, stamp⟩, stampRange⟩, gross⟩,
      some_⟩, default_⟩, rfl⟩
    exact ⟨shortest, longest, chars, hasAccount, low, high, hasStatus, hasPolicy, tare.resolve_left, tareRange,
      fun none => stamp.resolve_right (not_not_intro none), fun k same => (stampRange k same).2, gross, numbers, set, some_,
      hasDefault, default_, rfl, rfl, rfl, rfl⟩
  · rintro ⟨shortest, longest, chars, hasAccount, low, high, hasStatus, hasPolicy, tare, tareRange, stamp, stampRange, gross,
      numbers, set, some_, hasDefault, default_, ident, sameTare, sameStamp, sameGross⟩
    rw [sameTare] at tare tareRange stamp
    rw [sameStamp] at stamp stampRange
    rw [sameGross] at gross
    refine ⟨_, hasAccount, _, hasStatus, _, hasPolicy, _, ⟨numbers, set⟩, _, ⟨_, hasDefault, rfl⟩,
      ⟨⟨⟨⟨⟨⟨⟨⟨⟨shortest, longest, chars⟩, low, high⟩, ?_⟩, tareRange⟩, ?_⟩, fun k same => ⟨Nat.zero_le k, stampRange k same⟩⟩,
        gross⟩, some_⟩, default_⟩, ?_⟩
    · exact Decidable.or_iff_not_imp_left.2 tare
    · exact Decidable.or_iff_not_imp_right.2 fun none => stamp (not_not.1 none)
    · rw [← ident, ← sameTare, ← sameStamp, ← sameGross]

/-- Settles O9: each station is dealt with on its own slot, and the reports stand as they are posted in slot order. -/
theorem superframeAndPeriodEnd : Obligations.SuperframeAndPeriodEnd := by
  refine ⟨fun s due judged => ?superframe, fun s due => ?period⟩
  case superframe =>
    have ended : s.superframeEnded = true := by simp [State.superframeEnded, due, judged]
    have walk := s.accountStations
    have step : exec .superframeEnd s = .next (let t := forEach allStations (fun n t => t.accountSlot n) s
        if t.periodCount + 1 < Config.period then { t with periodCount := t.periodCount + 1, superframeDue := false }
        else { t with periodCount := 0, superframeDue := false, periodDue := true }) :=
      congrArg Host.Outcome.next (if_pos ended)
    generalize forEach allStations (fun n t => t.accountSlot n) s = u at walk step
    obtain ⟨own, office, shape⟩ := walk
    extract_lets near far nears fars count falls posted
    have room (all : s.reports.length + (allStations.filter falls).length ≤ 32) :=
      posts_office_room (body := fun n => .degraded n (count n) (nears n) (fars n) (s.slot n).threshold) all
    obtain ⟨reports, dropped, overrun, -⟩ := (State.office_iff ..).1 office
    have counted : u.periodCount = s.periodCount := (congrArg State.periodCount shape).trans rfl
    have period : u.periodDue = s.periodDue := (congrArg State.periodDue shape).trans rfl
    dsimp only at step
    rw [counted] at step
    by_cases more : s.periodCount + 1 < Config.period
    · rw [if_pos more] at step
      refine ⟨_, step, own, (if_pos more).symm, period.trans (if_pos more).symm, rfl, fun all => ?_, reports, dropped, overrun, ?_⟩
      · obtain ⟨stand, dropped', overrun'⟩ := room all
        exact ⟨reports.trans stand, dropped.trans dropped', overrun.trans overrun'⟩
      · exact congrArg (fun t : State => { t with
          periodCount := s.periodCount + 1, periodDue := u.periodDue, superframeDue := false }) shape
    · rw [if_neg more] at step
      refine ⟨_, step, own, (if_neg more).symm, (if_neg more).symm, rfl, fun all => ?_, reports, dropped, overrun, ?_⟩
      · obtain ⟨stand, dropped', overrun'⟩ := room all
        exact ⟨reports.trans stand, dropped.trans dropped', overrun.trans overrun'⟩
      · exact congrArg (fun t : State => { t with periodCount := 0, superframeDue := false, periodDue := true }) shape
  case period =>
    have walk := s.judgeStations
    have step : exec .periodEnd s = .next { forEach allStations (fun n t => t.judgePeriod n) s with periodDue := false } :=
      congrArg Host.Outcome.next (if_pos due)
    generalize forEach allStations (fun n t => t.judgePeriod n) s = u at walk step
    obtain ⟨own, office, shape⟩ := walk
    extract_lets clears posted
    obtain ⟨reports, dropped, overrun, -⟩ := (State.office_iff ..).1 office
    refine ⟨_, step, own, rfl, fun all => ?_, reports, dropped, overrun, ?_⟩
    · obtain ⟨stand, dropped', overrun'⟩ := posts_office_room (body := fun n => .degradeCleared n) all
      exact ⟨reports.trans stand, dropped.trans dropped', overrun.trans overrun'⟩
    · exact congrArg (fun t : State => { t with periodDue := false }) shape

end Sys2Proof.Settled

/-! PROOFS. Messages of the stations: the values their fields may have, a body that does not hold them; and the start of a
message on a send channel. -/

namespace Sys2Proof.Machine

/-! ## The values of the fields (R167, R168) -/

theorem textChar_iff (c : Char) : textChar c = true ↔ identChar c = true ∨ c ∈ [' ', '.', ',', ':', '/'] := by
  simp [textChar, or_assoc]

theorem IdentRead.wellFormed_iff (x : IdentRead) : x.wellFormed = true ↔
    (1 ≤ x.ident.length ∧ x.ident.length ≤ 16 ∧ ∀ c ∈ x.ident, identChar c = true) ∧ x.quality ≤ 100 := by
  rw [IdentRead.wellFormed, Bool.and_eq_true, validIdent_iff, decide_eq_true_iff]

theorem EnrolPage.base_wellFormed_iff (kind : StationKind) (abilities : Abilities) (revision follow : Nat) (toggle : Bool) :
    (EnrolPage.base kind abilities revision follow toggle).wellFormed = true ↔
      abilitiesFit kind abilities = true ∧ revision ≤ 255 ∧ follow ≤ 3 := by
  simp [EnrolPage.wellFormed, and_assoc]

theorem EnrolPage.next_wellFormed_iff (number : Nat) (chunk : Text) (toggle : Bool) :
    (EnrolPage.next number chunk toggle).wellFormed = true ↔
      1 ≤ number ∧ number ≤ 3 ∧ chunk.length ≤ 8 ∧ ∀ c ∈ chunk, identChar c = true := by
  simp [EnrolPage.wellFormed, inRange_iff, and_assoc]

/-! ## The start of a message (R164, R166) -/

section
variable {s : State} {n : StationId}

theorem Station.mayStart_iff (x : Station) : x.mayStart = true ↔
    (x.state = .alive ∨ x.state = .enrolling ∨ x.state = .enrolled ∨ x.state = .rejected)
      ∧ x.send.phase = .idle ∧ x.send.noneShown = 2 ∧ x.send.noneHeard = 2 := by
  have works : x.state.works = true ↔ x.state = .alive ∨ x.state = .enrolling ∨ x.state = .enrolled ∨ x.state = .rejected := by
    cases x.state <;> decide
  simp only [Station.mayStart, Bool.and_eq_true, beq_iff_eq, works, and_assoc]

theorem State.offeredTicket_some {l : LaneId} {j : TicketJob} {jobs : List TicketJob} (lane : s.laneOfTerminal n = some l)
    (head : (s.queue l).jobs = j :: jobs) (waits : (s.queue l).phase = .waiting) : s.offeredTicket n = some (l, j) := by
  unfold State.offeredTicket
  rw [lane]
  dsimp only
  rw [head, waits]

theorem State.offeredTicket_none_iff : s.offeredTicket n = none ↔
    ∀ l j jobs, s.laneOfTerminal n = some l → (s.queue l).jobs = j :: jobs → (s.queue l).phase ≠ .waiting := by
  constructor
  · intro unoffered l j jobs lane head waits
    rw [State.offeredTicket_some lane head waits] at unoffered
    cases unoffered
  · intro held
    unfold State.offeredTicket
    split
    next => rfl
    next l lane =>
      split
      next j jobs head waits => exact absurd waits (held l j jobs lane head)
      next => rfl

theorem State.offered_result {w : EnrolResult} (waiting : (s.station n).send.waiting = some w) :
    s.offered n = some (enrolResultMessage w) := by
  unfold State.offered
  dsimp only
  rw [waiting]

theorem State.offered_enrolled (waiting : (s.station n).send.waiting = none) (enrolled : (s.station n).state = .enrolled) :
    (∀ l j, s.offeredTicket n = some (l, j) → s.offered n = some (ticketMessage l j))
    ∧ (s.offeredTicket n = none → s.offered n = (s.station n).forward.map displayMessage) := by
  unfold State.offered
  dsimp only
  rw [waiting]
  dsimp only
  rw [if_pos enrolled]
  exact ⟨fun l j ticket => by rw [ticket], fun none_ => by rw [none_]⟩

theorem State.offered_outside (waiting : (s.station n).send.waiting = none) (outside : (s.station n).state ≠ .enrolled) :
    s.offered n = none := by
  unfold State.offered
  dsimp only
  rw [waiting]
  exact if_neg outside

theorem State.sendStarts_none (idle : (s.station n).mayStart = false ∨ s.offered n = none) : s.sendStarts n = s := by
  unfold State.sendStarts
  split
  next ready =>
    rw [idle.resolve_left (by rw [ready]; decide)]
  next => rfl

/-- A channel that starts is SENDING its message at attempt 1; the message's source acts. -/
theorem State.sendStarts_some {m : DownMessage} (ready : (s.station n).mayStart = true) (offer : s.offered n = some m) :
    let t := s.updateSend n fun c => c.begins m 1 true
    (∀ w, m.source = .enrolResult w → s.sendStarts n = t.updateSend n fun c => { c with waiting := none })
    ∧ (∀ l, m.source = .ticket l → s.sendStarts n = t.setQueue l { t.queue l with phase := .sending })
    ∧ (m.source = .forward → s.sendStarts n = t) := by
  unfold State.sendStarts
  rw [if_pos ready, offer]
  dsimp only
  exact ⟨fun w source => by rw [source], fun l source => by rw [source], fun source => by rw [source]⟩

end

end Sys2Proof.Machine

namespace Sys2Proof.Settled
open Machine

/-- Settles O41: the test of each kind of field, and a message taken off the list whose body fails or is of another kind. -/
theorem stationMessages : Obligations.StationMessages := by
  refine ⟨textChar_iff, validText_iff, IdentRead.wellFormed_iff, fun k => inRange_iff 1 16 k, rfl,
    fun x => inRange_iff 1 _ x.number, EnrolPage.base_wellFormed_iff, EnrolPage.next_wellFormed_iff,
    fun α test => ⟨rfl, fun x => rfl⟩, fun s n m rest hm => ?_⟩
  have quiet : s.RoomForReport → (s.messagesLeft n rest).RoomForReport := id
  have malformed {α : Type} {b : Body α} {test : α → Bool} (bad : b.read test = none) (room : s.RoomForReport)
      (after : State → State) (f : α → State → State) :
      s.deliver n m.kind b test after f = after ((s.messagesLeft n rest).reported (.badMessageKind n m.kind)) := by
    rw [State.deliver_bad hm bad, State.post_room (quiet room)]
  refine ⟨fun text kind short chars room => ?note, fun b kind bad room => ?_, fun b kind bad room => ?_, fun b kind bad room => ?_,
    fun b kind bad room => ?_, fun b kind bad room => ?page, fun b other => ?_, fun b other => ?_, fun b other => ?_,
    fun b other => ?_, fun b other => ?_⟩
  case note =>
    have read : (Body.fits text).read validText = some text := if_pos ((validText_iff text).2 ⟨short, chars⟩)
    refine congrArg Host.Outcome.next ?_
    rw [← kind, State.deliver_read hm read, State.post_room (quiet room)]
  case page =>
    have handled := malformed bad room (fun t => t.malformedPage n) fun x t => t.pageArrives n x
    rw [kind] at handled
    have attempts : ((s.messagesLeft n rest).reported (.badMessageKind n .enrolPage)).station n =
        { s.station n with complete := rest } := State.station_setStation_self ..
    refine ⟨fun open_ => congrArg Host.Outcome.next (handled.trans (if_pos ?_)),
      fun notAlive notEnrolling => congrArg Host.Outcome.next (handled.trans (if_neg ?_))⟩
    · rw [attempts]
      obtain state | state := open_ <;> (rw [state]; rfl)
    · rw [attempts]
      cases state : (s.station n).state <;> simp_all [StationState.attempts]
  iterate 4
    refine congrArg Host.Outcome.next ?_
    have handled := malformed bad room id
    rw [kind] at handled
    exact handled _
  all_goals exact congrArg Host.Outcome.next (State.deliver_other hm other ..)

/-- Settles O42: the first source of R166 that has a message, and the channel that takes it. -/
theorem sendStart : Obligations.SendStart := by
  refine ⟨fun s n => ?start, fun l j => ⟨rfl, rfl, List.length_take_le .., fun _ _ => rfl⟩,
    fun text => ⟨rfl, rfl, List.length_take_le ..⟩, fun r => ⟨rfl, rfl, List.length_take_le ..⟩⟩
  intro x sending ready
  have mayStart : x.mayStart = true ↔ ready := x.mayStart_iff
  have idle (rests : x.mayStart = false ∨ s.offered n = none) : exec (.sendStart n) s = .next s :=
    congrArg Host.Outcome.next (State.sendStarts_none rests)
  refine ⟨fun w go waiting => ?_, fun l j jobs go waiting enrolled lane head waits => ?_,
    fun text go waiting enrolled unoffered forward => ?_, fun unready => idle (.inl ?_), fun waiting none_ => idle (.inr ?_),
    State.offeredTicket_none_iff⟩
  · obtain ⟨result, -, -⟩ := State.sendStarts_some (mayStart.2 go) (State.offered_result waiting)
    refine congrArg Host.Outcome.next ((result w rfl).trans ?_)
    simp only [State.updateSend, State.updateStation, State.setStation_setStation, State.station_setStation_self] <;> rfl
  · have offer := (State.offered_enrolled waiting enrolled).1 l j (State.offeredTicket_some lane head waits)
    obtain ⟨-, ticket, -⟩ := State.sendStarts_some (mayStart.2 go) offer
    refine congrArg Host.Outcome.next ((ticket l rfl).trans ?_)
    simp only [sending, ← waiting] <;> rfl
  · have offer := ((State.offered_enrolled waiting enrolled).2 unoffered).trans (congrArg _ forward)
    obtain ⟨-, -, display⟩ := State.sendStarts_some (mayStart.2 go) offer
    refine congrArg Host.Outcome.next ((display rfl).trans ?_)
    simp only [sending, ← waiting] <;> rfl
  · exact Bool.eq_false_iff.2 (mt mayStart.1 unready)
  · by_cases enrolled : x.state = .enrolled
    · obtain ⟨unoffered, unforwarded⟩ := none_.resolve_left (not_not_intro enrolled)
      rw [(State.offered_enrolled waiting enrolled).2 unoffered, unforwarded]
      rfl
    · exact State.offered_outside waiting enrolled

end Sys2Proof.Settled

/-! PROOFS. The downstream frame: nothing due, the timers that count it, and its bytes; and an upstream record read back. -/

namespace Sys2Proof.Machine

/-! ## Nothing due (log entry 6) -/

section
variable {s : State}

theorem State.receiveEnds_idle {n : StationId} (fresh : (s.station n).receive.staleDue = false) : s.receiveEnds n = s :=
  if_neg (by rw [fresh]; decide)

theorem State.unitTimerEnds_idle {n : StationId} (runs : s.unitTimerDue n = false) : s.unitTimerEnds n = s :=
  if_neg (by rw [runs]; decide)

theorem State.gapEnds_idle {n : StationId} (runs : (s.station n).send.gapOver = false) : s.gapEnds n = s := by
  unfold State.gapEnds
  split
  next => rfl
  next => exact if_neg (by rw [runs]; decide)

theorem State.windowEnds_idle {n : StationId} (runs : (s.station n).windowDue = false) : s.windowEnds n = s :=
  if_neg (by rw [runs]; decide)

theorem State.motionExpires_idle {n : StationId} (runs : ∀ b, s.barrier n = some b → b.motionDue = false) :
    s.motionExpires n = s := by
  unfold State.motionExpires
  split
  next => rfl
  next b found => exact if_neg (by rw [runs b found]; decide)

theorem State.laneDue_idle {l : LaneId} (runs : ∀ k, (s.lane l).timedOut k = false) (waits : (s.queue l).waitOver = false) :
    s.laneDue l = s := by
  have ident : s.identWaitEnds l = s := if_neg (by rw [runs]; decide)
  have referral : s.referralEnds l = s := if_neg (by rw [runs]; decide)
  have weigh : s.weighEnds l = s := if_neg (by rw [runs]; decide)
  have outcome : s.endOutcomeWait l = s := if_neg (by rw [waits]; decide)
  have entry : s.entryEnds l = s := by
    unfold State.entryEnds
    split
    next => rfl
    next => exact if_neg (by rw [runs]; decide)
  rw [State.laneDue, ident, referral, entry, weigh, outcome]

theorem State.missSlots_idle (judged : s.frameInHand = none ∨ ∀ n, (s.slot n).awaited = false) : s.missSlots = s := by
  unfold State.missSlots
  split
  next => rfl
  next frame found =>
    have all := judged.resolve_left (by rw [found]; simp)
    exact forEach_id _ _ _ fun n _ => if_neg (by rw [all n]; decide)

theorem State.settleDue_idle (idle : s.NothingDue) : s.settleDue = s := by
  obtain ⟨resets, judged, superframe, period, clock, tares, stations, lanes, decks⟩ := idle
  have superframeEnd : s.superframeEnd = s := if_neg (by simp [State.superframeEnded, superframe])
  have periodEnd : s.periodEnd = s := if_neg (by rw [period]; decide)
  have second : s.clock.secondEnds = s.clock := by
    refine if_neg fun ends => ?_
    obtain ⟨set, full⟩ := ends
    exact absurd full (Nat.not_le.2 (clock set))
  have updates : s.updateTares = s := by rw [State.updateTares, tares]; rfl
  have stationDue : forEach allStations (fun n t => t.stationDue n) s = s := forEach_id _ _ _ fun n _ => by
    obtain ⟨fresh, unit, gap, window, motion, -⟩ := stations n
    rw [State.stationDue, State.receiveEnds_idle fresh, State.unitTimerEnds_idle unit, State.gapEnds_idle gap,
      State.windowEnds_idle window, State.motionExpires_idle motion]
  have laneDue : forEach allLanes (fun l t => t.laneDue l) s = s := forEach_id _ _ _ fun l _ => by
    obtain ⟨runs, waits⟩ := lanes l
    exact State.laneDue_idle runs waits
  have restDue : forEach allDecks (fun d t => t.restAttempt d) s = s := forEach_id _ _ _ fun d _ =>
    if_neg (by rw [decks d]; decide)
  have starts : forEach allStations (fun n t => t.sendStarts n) s = s := forEach_id _ _ _ fun n _ =>
    State.sendStarts_none (stations n).2.2.2.2.2
  unfold State.settleDue
  rw [State.takeResets_clear resets, State.missSlots_idle judged, superframeEnd, periodEnd]
  dsimp only
  rw [second]
  change forEach allStations (fun n t => t.sendStarts n) (forEach allDecks (fun d t => t.restAttempt d)
    (forEach allLanes (fun l t => t.laneDue l) (forEach allStations (fun n t => t.stationDue n) s))).updateTares = s
  rw [stationDue, laneDue, restDue, updates, starts]

end

/-! ## The fields of a record's bytes (R155–R158) -/

section
variable (c : Code) (echo : Bool) (m : BitVec 2) (p : Bool)

theorem firstByte_fields : let b0 : Byte := c ++ BitVec.ofBool echo ++ m ++ BitVec.ofBool p
    b0.extractLsb' 4 4 = c ∧ b0.getLsbD 3 = echo ∧ b0.extractLsb' 1 2 = m ∧ b0.getLsbD 0 = p := by
  revert c echo m p
  decide +kernel

theorem thirdByte_fields (a : BitVec 2) (group : Bool) (k : BitVec 5) : let b2 : Byte := a ++ BitVec.ofBool group ++ k
    b2.extractLsb' 6 2 = a ∧ b2.getLsbD 5 = group ∧ b2.extractLsb' 0 5 = k := by
  revert a group k
  decide +kernel

theorem flagByte_fields (c1 c2 c3 c4 : Bool) :
    let flags : Byte := 0#4 ++ BitVec.ofBool c4 ++ BitVec.ofBool c3 ++ BitVec.ofBool c2 ++ BitVec.ofBool c1
    flags.getLsbD 0 = c1 ∧ flags.getLsbD 1 = c2 ∧ flags.getLsbD 2 = c3 ∧ flags.getLsbD 3 = c4 ∧ flags.extractLsb' 4 4 = 0 := by
  revert c1 c2 c3 c4
  decide +kernel

theorem three_bytes_append (w : BitVec (8 + 8 + 8)) : w.extractLsb' 16 8 ++ w.extractLsb' 8 8 ++ w.extractLsb' 0 8 = w := by
  refine BitVec.eq_of_getLsbD_eq fun i inside => ?_
  simp only [BitVec.getLsbD_append, BitVec.getLsbD_extractLsb']
  obtain low | middle | high : i < 8 ∨ (8 ≤ i ∧ i < 16) ∨ 16 ≤ i := by omega
  · simp [low]
  · obtain ⟨above, below⟩ := middle
    simp [show ¬ i < 8 by omega, show i - 8 < 8 by omega, above]
  · simp [show ¬ i < 8 by omega, show ¬ i - 8 < 8 by omega, show i - 8 - 8 < 8 by omega, show 16 + (i - 8 - 8) = i by omega]

theorem signed24_countBytes {z : Int} (low : -8388608 ≤ z) (high : z ≤ 8388607) :
   signed24 ((BitVec.ofInt 24 z).extractLsb' 16 8) ((BitVec.ofInt 24 z).extractLsb' 8 8) ((BitVec.ofInt 24 z).extractLsb' 0 8) = z := by
  rw [signed24, three_bytes_append (BitVec.ofInt 24 z), BitVec.toInt_ofInt]
  exact Int.bmod_eq_of_le (by omega) (by omega)

theorem slotCheck_append (bytes : List Byte) (b : Byte) : slotCheck (bytes ++ [b]) = [7, 6, 5, 4, 3, 2, 1, 0].foldl
        (fun (check : Byte) (i : Nat) =>
          if check.getLsbD 7 = b.getLsbD i then check <<< 1 else (check <<< 1) ^^^ 0b00000111#8) (slotCheck bytes) := by
  have bit (check : Byte) (i : Nat) : slotCheckBit check (b.getLsbD i) =
      if check.getLsbD 7 = b.getLsbD i then check <<< 1 else (check <<< 1) ^^^ 0b00000111#8 := by
    rw [slotCheckBit, BitVec.msb_eq_getLsbD_last]
    simp only [beq_iff_eq]
  have last : (byteBits b).foldl slotCheckBit (slotCheck bytes) =
      [7, 6, 5, 4, 3, 2, 1, 0].foldl (fun check i => slotCheckBit check (b.getLsbD i)) (slotCheck bytes) := rfl
  rw [slotCheck, List.flatMap_append, List.foldl_append]
  simp only [← bit]
  rw [← last, List.flatMap_singleton]
  rfl

/-- The part of each element in a list of parts of one length. -/
theorem flatMap_part {α β : Type} {f : α → List β} {k : Nat} (length : ∀ x, (f x).length = k) (xs : List α) (i : Nat)
    (h : i < xs.length) : ((xs.flatMap f).drop (k * i)).take k = f xs[i] := by
  induction xs generalizing i with
  | nil => simp at h
  | cons x xs ih =>
    rw [List.flatMap_cons]
    cases i with
    | zero => simp [← length x]
    | succ i =>
      have past : k * (i + 1) = (f x).length + k * i := by rw [length]; ring
      rw [past, List.drop_length_add_append]
      simpa using ih i (by simpa using h)
end

theorem markOf_markValue (m : Mark) : markOf (markValue m) = some m := by cases m <;> rfl

theorem answerOf_answerValue (a : Answer) : answerOf (answerValue a) = a := by cases a <;> rfl

theorem slotNumber_toNat (n : StationId) : (slotNumber n).toNat = n.val + 1 := (eq_slotNumber_iff _ n).1 rfl

/-! ## The downstream frame (R138, R155) -/

theorem downstreamRecord_length (n : StationId) (command : Command) (echo : Bool) (u : UnitFields) (answer : Answer) :
    (downstreamRecord n command echo u answer).length = 4 := rfl

theorem syncWord_length (frame : Nat) : (syncWord frame).length = 2 := by
  rw [syncWord]
  split <;> rfl

section
variable (s : State)

theorem State.frameBytes_length : s.frameBytes.length = 99 := by
  have records : (allStations.flatMap s.recordOf).length = 96 := by
    rw [List.length_flatMap]
    simp only [State.recordOf, downstreamRecord_length]
    rfl
  rw [State.frameBytes, List.length_append, List.length_append, syncWord_length, records]
  rfl

theorem State.frameBytes_record (n : StationId) : (s.frameBytes.drop (3 + 4 * n.val)).take 4 = s.recordOf n := by
  have head : (syncWord s.nextFrame ++ [BitVec.ofNat 8 s.nextFrame]).length = 3 := by
    rw [List.length_append, syncWord_length]
    rfl
  have part := flatMap_part (f := s.recordOf) (k := 4) (fun _ => rfl) allStations n.val (by simp [allStations])
  rw [State.frameBytes, ← head, List.drop_length_add_append, part]
  simp [allStations]

end

/-- What a channel in SENDING shows of its message (R158, R164). -/
theorem Progress.shows_unit (p : Progress) : (p.unit = 0 → p.shows.unit = p.msg.kind)
    ∧ (p.unit = 1 → p.shows.unit = BitVec.ofNat 8 p.msg.body.length)
    ∧ ∀ i (h : i < p.msg.body.length), p.unit = i + 2 → p.shows.unit = p.msg.body[i] := by
  rw [Progress.shows, DownMessage.units]
  refine ⟨fun zero => by rw [zero]; rfl, fun one => by rw [one]; rfl, fun i inside at_ => ?_⟩
  rw [at_]
  simp [inside]

/-! ## An upstream record read back (R156, R157) -/

section
variable (n : StationId)

theorem unitFields_self (u : UnitFields) (bare : u.mark = .none → u.parity = false ∧ u.unit = 0) :
    unitFields u.mark u.parity u.unit = u := by
  obtain ⟨mark, parity, unit⟩ := u
  cases mark with
  | none =>
    obtain ⟨noParity, noUnit⟩ := bare rfl
    exact congrArg₂ (UnitFields.mk .none) noParity.symm noUnit.symm
  | first | next => rfl

theorem sampleGroupOf_bytes {g : SampleGroup} (number : g.sequence < 256) (c1 : validCount g.counts.c1 = true)
    (c2 : validCount g.counts.c2 = true) (c3 : validCount g.counts.c3 = true) (c4 : validCount g.counts.c4 = true) :
    sampleGroupOf g.bytes = some g := by
  obtain ⟨sequence, counts, saturated⟩ := g
  obtain ⟨low1, high1⟩ := (validCount_iff _).1 c1
  obtain ⟨low2, high2⟩ := (validCount_iff _).1 c2
  obtain ⟨low3, high3⟩ := (validCount_iff _).1 c3
  obtain ⟨low4, high4⟩ := (validCount_iff _).1 c4
  have own : (BitVec.ofNat 8 sequence).toNat = sequence := by
    rw [BitVec.toNat_ofNat]
    exact Nat.mod_eq_of_lt number
  obtain ⟨f0, f1, f2, f3, -⟩ := flagByte_fields saturated.c1 saturated.c2 saturated.c3 saturated.c4
  rw [SampleGroup.bytes]
  simp only [countBytes, List.cons_append, List.nil_append, sampleGroupOf, signed24_countBytes low1 high1,
    signed24_countBytes low2 high2, signed24_countBytes low3 high3, signed24_countBytes low4 high4, own, f0, f1, f2, f3]

theorem SampleGroup.bytes_length (g : SampleGroup) : g.bytes.length = 14 := rfl

/-- A whole record with its own check, number and mark is good, with the fields of its bytes. -/
theorem judgeSlot_good {n : StationId} {frame : Nat} {b0 b1 b2 : Byte} {group : List Byte} {mark : Mark}
    (length : group.length + 4 = recordLength b2) (number : (b2.extractLsb' 0 5).toNat = n.val + 1)
    (named : markOf (b0.extractLsb' 1 2) = some mark) (place : b2.getLsbD 5 = true → frame = 0) :
    judgeSlot n frame (preamble :: b0 :: b1 :: b2 :: (group ++ [slotCheck (b0 :: b1 :: b2 :: group)])) =
      .good { code := b0.extractLsb' 4 4, echo := b0.getLsbD 3, unit := unitFields mark (b0.getLsbD 0) b1,
              answer := answerOf (b2.extractLsb' 6 2), group := if b2.getLsbD 5 then sampleGroupOf group else none } := by
  have split_ : b0 :: b1 :: b2 :: (group ++ [slotCheck (b0 :: b1 :: b2 :: group)]) =
      (b0 :: b1 :: b2 :: group) ++ [slotCheck (b0 :: b1 :: b2 :: group)] := rfl
  have before : recordLength b2 - 1 = (b0 :: b1 :: b2 :: group).length := by
    rw [← length]
    rfl
  rw [judgeSlot_whole (by simp only [List.length_cons, List.length_append, List.length_nil]; omega), before, split_,
    List.take_left, List.getElem?_concat_length, number, named]
  simp only [ne_eq, not_true_eq_false, if_false, Option.elim_some]
  exact if_neg fun stray => stray.2 (place stray.1)

end

end Sys2Proof.Machine

namespace Sys2Proof.Settled
open Machine

/-- Settles O3: with nothing due the frame alone changes the state, each timer by its own count. -/
theorem downstreamFrame : Obligations.DownstreamFrame := by
  refine ⟨fun s idle => ?_, fun s => rfl⟩
  have framed : exec .downstreamFrame s = .next s.framePassed := by
    refine congrArg Host.Outcome.next ?_
    rw [State.downstreamFrame, State.settleDue_idle idle]
  rw [framed, State.framePassed]
  refine congrArg Host.Outcome.next ?_
  congr 1
  refine congrArg (fun f => Vector.map f s.stations) (funext fun x => ?_)
  obtain ⟨state, _, _, _, _, _, _, _, _, _, _, _, send, _, _⟩ := x
  obtain ⟨phase, _⟩ := send
  cases state <;> cases phase <;> rfl

/-- Settles O4: 24 records of four bytes behind the sync word and the number, each with the fields it was made of. -/
theorem frameLayout : Obligations.FrameLayout := by
  refine ⟨fun s _ => ⟨s.frameBytes_length, ?sync, ?number, fun n => ?record⟩, fun c => ⟨fun silent => ?silent, fun p sends msg => ?shows⟩,
    fun c => ?command, rfl, rfl, rfl, rfl, rfl, rfl, rfl, rfl, slotCheck_append⟩
  case sync =>
    rw [State.frameBytes, List.append_assoc, List.take_append_of_le_length (by rw [syncWord_length]), List.take_of_length_le
      (by rw [syncWord_length]), syncWord]
  case number =>
    rw [State.frameBytes, syncWord]
    split <;> rfl
  case record =>
    obtain ⟨code, echo, mark, parity⟩ := firstByte_fields (commandValue (s.slot n).command) (s.slot n).echo
      (markValue (s.station n).send.shows.mark) (s.station n).send.shows.parity
    obtain ⟨answer, bit5, number⟩ := thirdByte_fields (answerValue (s.station n).receive.answer) false (slotNumber n)
    exact ⟨_, _, _, _, s.frameBytes_record n, code, echo, mark, parity, rfl, answer, bit5,
      (congrArg _ number).trans (slotNumber_toNat n), rfl⟩
  case silent =>
    unfold SendChannel.shows
    split
    next sends _ => exact absurd sends silent
    next => rfl
  case shows =>
    have shown : c.shows = p.shows := by
      unfold SendChannel.shows
      rw [sends, msg]
    obtain ⟨first, second, later⟩ := p.shows_unit
    rw [shown]
    exact ⟨rfl, beq_iff_eq, first, second, later⟩
  case command => cases c <;> rfl

/-- Settles O5: the bytes of a record, the fields they hold, and their judging. -/
theorem upstreamRecordReadBack : Obligations.UpstreamRecordReadBack := by
  refine ⟨fun n r => ?layout, fun g => ?group, fun n frame r inFrame0 bare inRange => ?readBack⟩
  case layout =>
    obtain ⟨code, echo, mark, parity⟩ := firstByte_fields r.code r.echo (markValue r.unit.mark) r.unit.parity
    obtain ⟨answer, group, number⟩ := thirdByte_fields (answerValue r.answer) r.group.isSome (slotNumber n)
    refine ⟨_, _, _, ?_, code, echo, mark, parity, rfl, answer, group, (congrArg _ number).trans (slotNumber_toNat n)⟩
    rw [UpRecord.bytes]
    cases r.group <;> rfl
  case group =>
    obtain ⟨f0, f1, f2, f3, rest⟩ := flagByte_fields g.saturated.c1 g.saturated.c2 g.saturated.c3 g.saturated.c4
    exact ⟨_, rfl, f0, f1, f2, f3, rest⟩
  case readBack =>
    obtain ⟨code, echo, mark, parity⟩ := firstByte_fields r.code r.echo (markValue r.unit.mark) r.unit.parity
    obtain ⟨answer, group, number⟩ := thirdByte_fields (answerValue r.answer) r.group.isSome (slotNumber n)
    have named := (congrArg markOf mark).trans (markOf_markValue r.unit.mark)
    have length : ((r.group.map SampleGroup.bytes).getD []).length + 4 = if r.group.isSome then 18 else 4 := by
      cases r.group <;> rfl
    have good := judgeSlot_good (frame := frame) (b1 := r.unit.unit) (group := (r.group.map SampleGroup.bytes).getD [])
      (length.trans (by rw [recordLength, group])) ((congrArg _ number).trans (slotNumber_toNat n)) named
      (fun present => inFrame0 (group.symm.trans present))
    have held : (if r.group.isSome then sampleGroupOf ((r.group.map SampleGroup.bytes).getD []) else none) = r.group := by
      cases present : r.group with
      | none => rfl
      | some g =>
        obtain ⟨sequence, c1, c2, c3, c4⟩ := inRange g present
        exact sampleGroupOf_bytes sequence c1 c2 c3 c4
    refine good.trans ?_
    rw [code, echo, parity, answer, group, held, answerOf_answerValue, unitFields_self _ bare]

end Sys2Proof.Settled

/-! PROOFS. The lanes: entry into a lane state. -/

namespace Sys2Proof.Machine

@[simp] theorem State.reported_lane (s : State) (b : ReportBody) (l : LaneId) : (s.reported b).lane l = s.lane l := rfl

@[simp] theorem State.reported_slot (s : State) (b : ReportBody) (n : StationId) : (s.reported b).slot n = s.slot n := rfl

/-! ## Entry into a lane state (R59, R60) -/

section
variable {s : State} {l : LaneId} {r : LaneRecord}

theorem State.withdrawClaim_idle (unclaimed : (s.lane l).claim ≠ .waiting) (d : DeckId) : s.withdrawClaim l d = s :=
  if_neg unclaimed

/-- Entry is the same from the state in which the waiting claim is already withdrawn. -/
theorem State.enterLane_withdrawn (record : s.laneRecord l = some r) (waits : (s.lane l).claim = .waiting) (st : LaneState)
    (why : LaneReason) (read : Option IdentRead) :
    s.enterLane l st why read =
      ((s.setArbiter r.deck { s.arbiter r.deck with claims := (s.arbiter r.deck).claims.filter (· != l) }).setLane l
        { s.lane l with claim := .none }).enterLane l st why read := by
  have withdrawn : s.withdrawClaim l r.deck = (s.setArbiter r.deck { s.arbiter r.deck with
      claims := (s.arbiter r.deck).claims.filter (· != l) }).setLane l { s.lane l with claim := .none } := if_pos waits
  have again : (s.withdrawClaim l r.deck).withdrawClaim l r.deck = s.withdrawClaim l r.deck := by
    refine State.withdrawClaim_idle ?_ _
    rw [withdrawn, State.lane_setLane_self]
    simp
  have kept : (s.withdrawClaim l r.deck).laneRecord l = some r := by
    rw [withdrawn]
    exact record
  rw [← withdrawn]
  unfold State.enterLane
  rw [record, kept]
  dsimp only
  rw [again]

theorem State.freeReservation_none (unreserved : (s.lane l).reservation = none) : s.freeReservation l = s := by
  unfold State.freeReservation
  rw [unreserved]

/-- Entry into a state that frees is the same from the state in which the reservation is already freed. -/
theorem State.enterLane_freed {k : Nat} (record : s.laneRecord l = some r) (unclaimed : (s.lane l).claim ≠ .waiting)
    (held : (s.lane l).reservation = some k) {st : LaneState} (frees : st.frees = true) (why : LaneReason)
    (read : Option IdentRead) :
    s.enterLane l st why read = ((s.freeVisit l k).setLane l { s.lane l with reservation := none }).enterLane l st why read := by
  have sameLane (m : LaneId) : (s.freeVisit l k).lane m = s.lane m := State.freeVisit_lane ..
  have freed : s.freeReservation l = (s.freeVisit l k).setLane l { s.lane l with reservation := none } := by
    unfold State.freeReservation
    rw [held]
    dsimp only
    rw [State.updateLane, sameLane]
  have context : (s.freeReservation l).lane l = { s.lane l with reservation := none } := by
    rw [freed, State.lane_setLane_self]
  have again : (s.freeReservation l).freeReservation l = s.freeReservation l :=
    State.freeReservation_none (by rw [context])
  have still : (s.freeReservation l).withdrawClaim l r.deck = s.freeReservation l :=
    State.withdrawClaim_idle (by rw [context]; exact unclaimed) _
  have kept : (s.freeReservation l).laneRecord l = some r := by
    rw [State.laneRecord, State.laneTable_of_fixed (s.freeReservation_fixed l)]
    exact record
  rw [← freed]
  unfold State.enterLane
  rw [record, kept]
  dsimp only
  rw [State.withdrawClaim_idle unclaimed, still, if_pos frees, if_pos frees, again]

/-- With no claim to withdraw and no reservation to free, entry sets the context, the codes and the report. -/
theorem State.enterLane_plain (record : s.laneRecord l = some r) (unclaimed : (s.lane l).claim ≠ .waiting) {st : LaneState}
    (unreserved : (s.lane l).reservation = none ∨ st.frees = false) (why : LaneReason) (read : Option IdentRead) :
    s.enterLane l st why read = ((s.setLane l ((s.lane l).enters st r why.referral?)).setLaneCodes l r).post
      (.lane l st why (((s.lane l).enters st r why.referral?).vehicle.map Vehicle.ident) read) := by
  have freed : (if st.frees then s.freeReservation l else s) = s := by
    obtain none_ | keeps := unreserved
    · rw [State.freeReservation_none none_, ite_self]
    · rw [keeps]
      rfl
  unfold State.enterLane
  rw [record]
  dsimp only
  rw [State.withdrawClaim_idle unclaimed, freed, State.setLaneCodes_lane, State.updateLane, State.lane_setLane_self]

/-! ## The codes of the terminal and the reader (R60) -/

theorem State.setLaneCodes_none (bare : r.reader = none) :
    s.setLaneCodes l r = s.setCommand r.terminal (s.lane l).state.display := by
  unfold State.setLaneCodes
  rw [bare]

theorem State.setLaneCodes_some {n : StationId} (reader : r.reader = some n) : s.setLaneCodes l r =
    (s.setCommand r.terminal (s.lane l).state.display).setCommand n (s.lane l).state.readerCode := by
  unfold State.setLaneCodes
  rw [reader]
  rfl

theorem State.setCommand_slot (n m : StationId) (c : Command) : (s.setCommand n c).slot m =
    if n = m then { s.slot m with command := c } else s.slot m := by
  rw [State.setCommand, State.updateSlot, State.slot_setSlot]
  split
  next same => rw [same]
  next => rfl

/-- Only the command codes of the terminal and the reader are written. -/
theorem State.setLaneCodes_slots (apart : r.reader ≠ some r.terminal) :
    (s.setLaneCodes l r).slot r.terminal = { s.slot r.terminal with command := (s.lane l).state.display }
    ∧ (∀ n, r.reader = some n → (s.setLaneCodes l r).slot n = { s.slot n with command := (s.lane l).state.readerCode })
    ∧ (∀ n, n ≠ r.terminal → r.reader ≠ some n → (s.setLaneCodes l r).slot n = s.slot n)
    ∧ s.setLaneCodes l r = { s with slots := (s.setLaneCodes l r).slots } := by
  cases reader : r.reader with
  | none =>
    rw [State.setLaneCodes_none reader]
    refine ⟨?_, fun n same => ?_, fun n other _ => ?_, rfl⟩
    · rw [State.setCommand_slot, if_pos rfl]
    · cases same
    · rw [State.setCommand_slot, if_neg other.symm]
  | some m =>
    have distinct : m ≠ r.terminal := fun same => apart (reader.trans (congrArg some same))
    rw [State.setLaneCodes_some reader]
    refine ⟨?_, fun n same => ?_, fun n other unread => ?_, rfl⟩
    · rw [State.setCommand_slot, if_neg distinct, State.setCommand_slot, if_pos rfl]
    · cases same
      rw [State.setCommand_slot, if_pos rfl, State.setCommand_slot, if_neg distinct.symm]
    · rw [State.setCommand_slot, if_neg fun same => unread (congrArg some same), State.setCommand_slot, if_neg other.symm]

end

end Sys2Proof.Machine

namespace Sys2Proof.Settled
open Machine

/-- Settles O26: the claim and the reservation go first; the rest is the context, two command codes and one report. -/
theorem laneStateEntered : Obligations.LaneStateEntered := by
  refine ⟨fun s l st why read r record => ⟨fun waits => State.enterLane_withdrawn record waits st why read,
    fun k unclaimed held freeing => ?freed⟩, fun s l st why read r record unclaimed unreserved room apart => ?entered⟩
  case freed =>
    have frees : st.frees = true := by
      obtain rfl | rfl | rfl | rfl := freeing <;> rfl
    have same := State.enterLane_freed record unclaimed held frees why read
    intro t
    refine ⟨fun own => ?_, fun others => ?_⟩
    · obtain ⟨v, found, reserved, mine⟩ := own
      have removed : s.freeVisit l k = s.removeVisit k := by
        unfold State.freeVisit
        rw [found]
        exact if_pos ⟨reserved, mine⟩
      rw [same, removed]
      rfl
    · have kept : s.freeVisit l k = s := by
        unfold State.freeVisit
        split
        next => rfl
        next v found =>
          refine if_neg fun own => ?_
          exact (others v found).elim (fun notReserved => notReserved own.1) fun notMine => notMine own.2
      rw [same, kept]
  case entered =>
    intro c clears reason start t
    have keeps : (s.lane l).reservation = none ∨ st.frees = false := by
      refine unreserved.imp_right fun keeps => ?_
      obtain ⟨idle, refused, recover, closed⟩ := keeps
      cases st with
      | idle => exact absurd rfl idle
      | refused => exact absurd rfl refused
      | recover => exact absurd rfl recover
      | closed => exact absurd rfl closed
      | identify | referred | awaitDeck | entering | weighing | releasing | leaving | fault => rfl
    obtain ⟨terminal, reader, others, shape⟩ := (s.setLane l ((s.lane l).enters st r why.referral?)).setLaneCodes_slots (l := l) apart
    have reports := congrArg State.reports shape
    have entry : t = ((s.setLane l ((s.lane l).enters st r why.referral?)).setLaneCodes l r).reported
        (.lane l st why (((s.lane l).enters st r why.referral?).vehicle.map Vehicle.ident) read) :=
      (State.enterLane_plain record unclaimed keeps why read).trans
        (State.post_room (by rw [State.RoomForReport, reports]; exact room) _)
    have lane : t.lane l = (s.lane l).enters st r why.referral? := by
      rw [entry, State.reported_lane, State.setLaneCodes_lane, State.lane_setLane_self]
    have state : ((s.setLane l ((s.lane l).enters st r why.referral?)).lane l).state = st := by
      rw [State.lane_setLane_self]
      rfl
    have slots (n : StationId) : t.slot n = ((s.setLane l ((s.lane l).enters st r why.referral?)).setLaneCodes l r).slot n := by
      rw [entry, State.reported_slot]
    rw [state] at terminal reader
    refine ⟨lane.trans ?_, (slots _).trans (terminal.trans ?_), fun n named => (slots n).trans ((reader n named).trans ?_),
      fun n notTerminal notReader => (slots n).trans (others n notTerminal notReader), fun m other => ?_, ?_, ?_⟩
    · have limit (k : LaneTimerKind) (n : Nat) : start k n = some { kind := k, elapsed := 0, limit := n * Config.second } :=
        congrArg (fun n => some (LaneTimer.mk k 0 n)) (Nat.mul_comm 1000 n)
      simp only [limit]
      cases st with
      | referred => cases why <;> rfl
      | closed | recover | idle | identify | refused | awaitDeck | entering | weighing | releasing | leaving | fault => rfl
    · cases st <;> rfl
    · cases st <;> rfl
    · rw [entry, State.reported_lane, State.setLaneCodes_lane, State.lane_setLane, if_neg other.symm]
    · have vehicle : ((s.lane l).enters st r why.referral?).vehicle = if clears then none else c.vehicle := by
        cases st <;> rfl
      have now := congrArg State.now shape
      rw [entry, State.reported, reports, now, vehicle]
      cases clears <;> rfl
    · rw [entry, State.reported, shape]
      rfl

end Sys2Proof.Settled

/-! PROOFS. The deck hold: the grant, a claim made, a lane that sees its deck; and an ident read that reaches its lane. -/

namespace Sys2Proof.Machine

/-! ## What entry into a lane state leaves alone -/

section
variable (s : State) (l : LaneId)

theorem State.withdrawClaim_frame (d : DeckId) : s.withdrawClaim l d =
    { s with lanes := (s.withdrawClaim l d).lanes, arbiters := (s.withdrawClaim l d).arbiters } := by
  unfold State.withdrawClaim
  split <;> rfl

theorem State.freeReservation_frame : s.freeReservation l =
    { s with lanes := (s.freeReservation l).lanes, visits := (s.freeReservation l).visits } := by
  unfold State.freeReservation
  split
  next => rfl
  next k _ =>
    unfold State.freeVisit
    split
    next => rfl
    next => split <;> rfl

theorem State.setLaneCodes_frame (r : LaneRecord) : s.setLaneCodes l r = { s with slots := (s.setLaneCodes l r).slots } := by
  cases reader : r.reader with
  | none =>
    rw [State.setLaneCodes_none reader]
    rfl
  | some n =>
    rw [State.setLaneCodes_some reader]
    rfl

/-- Entry touches the lane, its claim, its reservation, two command codes and the reports; every other block stands. -/
theorem State.enterLane_decks (st : LaneState) (why : LaneReason) (read : Option IdentRead) :
    (s.enterLane l st why read).decks = s.decks ∧ (s.enterLane l st why read).stations = s.stations
    ∧ (s.enterLane l st why read).barriers = s.barriers ∧ (s.enterLane l st why read).queues = s.queues
    ∧ (s.enterLane l st why read).counter = s.counter ∧ (s.enterLane l st why read).nextVisitKey = s.nextVisitKey
    ∧ (s.enterLane l st why read).tareUpdates = s.tareUpdates := by
  unfold State.enterLane
  split
  next => exact ⟨rfl, rfl, rfl, rfl, rfl, rfl, rfl⟩
  next r record =>
    dsimp only
    rw [State.post_eq, State.setLaneCodes_frame, State.updateLane]
    cases st.frees
    · simp only [Bool.false_eq_true, if_false]
      rw [State.withdrawClaim_frame]
      exact ⟨rfl, rfl, rfl, rfl, rfl, rfl, rfl⟩
    · simp only [if_true]
      rw [State.freeReservation_frame, State.withdrawClaim_frame]
      exact ⟨rfl, rfl, rfl, rfl, rfl, rfl, rfl⟩

theorem State.enterLane_deck (st : LaneState) (why : LaneReason) (read : Option IdentRead) (d : DeckId) :
    (s.enterLane l st why read).deck d = s.deck d := by
  rw [State.deck, State.deck, (s.enterLane_decks l st why read).1]

theorem State.enterLane_present (st : LaneState) (why : LaneReason) (read : Option IdentRead) :
    ((s.enterLane l st why read).lane l).present = (s.lane l).present := by
  cases record : s.laneRecord l with
  | none => rw [State.enterLane_no_record record]
  | some r =>
    rw [State.enterLane_lane record, if_pos rfl]
    unfold LaneContext.entered LaneContext.withdrawn
    cases st <;> cases (s.lane l).claim <;> rfl

end

/-! ## The grant (R72) -/

section
variable {s : State} {d : DeckId} {l : LaneId} {r : LaneRecord}

theorem State.grantDeck_some {rest : List LaneId} (active : (s.deck d).state = .active) (unheld : (s.arbiter d).holder = none)
    (claims : (s.arbiter d).claims = l :: rest) : s.grantDeck d =
      (((s.setArbiter d { holder := some l, claims := rest }).setLane l { s.lane l with claim := .held }).enterLane l
        .entering (.event .granted)).askBarrier l .entry .raise := by
  have grant : s.grantable d = some l := (if_pos ⟨active, unheld⟩).trans (by rw [claims]; rfl)
  unfold State.grantDeck
  rw [grant]
  dsimp only
  rw [claims]
  rfl

theorem State.grantDeck_none (idle : (s.deck d).state ≠ .active ∨ (s.arbiter d).holder ≠ none ∨ (s.arbiter d).claims = []) :
    s.grantDeck d = s := by
  unfold State.grantDeck
  split
  next => rfl
  next m grant =>
    obtain ⟨active, unheld, rest, claims⟩ := State.grantable_some grant
    obtain resting | held | empty := idle
    · exact absurd active resting
    · exact absurd unheld held
    · rw [claims] at empty
      cases empty

theorem State.wakeDeckEvent_other (warm : (s.deck d).state ≠ .warmRest) (cold : (s.deck d).state ≠ .coldRest) :
    s.wakeDeckEvent d = s := by
  unfold State.wakeDeckEvent
  split
  next is => exact absurd is warm
  next is => exact absurd is cold
  next => rfl

theorem State.wakeDeckEvent_coldRest (state : (s.deck d).state = .coldRest) : s.wakeDeckEvent d = s.enterDeckState d .capturing := by
  unfold State.wakeDeckEvent
  rw [state]

theorem State.enterDeckState_state (s : State) (d : DeckId) (st : DeckState) : ((s.enterDeckState d st).deck d).state = st := by
  unfold State.enterDeckState
  rw [State.replaceReading_eq, State.deck_setDeck_self]
  have kept : ((s.setDeck d ((s.deck d).enters st (s.excited d))).commandDigitizer d).deck d = (s.deck d).enters st (s.excited d) := by
    unfold State.commandDigitizer
    split
    · exact State.deck_setDeck_self ..
    · exact State.deck_setDeck_self ..
  rw [kept]
  cases st <;> rfl

/-! ## What a lane makes of its deck (R73–R75, R78) -/

theorem State.deckFaultTest_eq (record : s.laneRecord l = some r) (waits : (s.lane l).state = .awaitDeck) : s.deckFaultTest l =
    if (s.deck r.deck).state = .fault then s.refer l .deckFault else s := by
  unfold State.deckFaultTest
  rw [record]
  simp only [waits, true_and]

theorem State.closingTest_positionTold (enters : (s.lane l).state = .entering) : s.closingTest l = s.positionTold l := by
  unfold State.positionTold
  rw [enters]

theorem State.enteringTest_pos (record : s.laneRecord l = some r) (enters : (s.lane l).state = .entering)
    (begins : (s.lane l).closing = false ∧ (s.lane l).departSeen = true ∧ (s.deck r.deck).occupancy = .occupied) :
    s.enteringTest l =
      ((s.setLane l { s.lane l with closing := true, timer := none }).askBarrier l .entry .lower).positionTold l := by
  obtain ⟨unclosed, seen, occupied⟩ := begins
  unfold State.enteringTest
  rw [record]
  refine (if_pos ⟨enters, by rw [unclosed]; decide, seen, occupied⟩).trans ?_
  refine State.closingTest_positionTold ?_
  rw [State.askBarrier_plantLanes, State.updateLane, State.lane_setLane_self]
  exact enters

theorem State.enteringTest_neg (record : s.laneRecord l = some r)
    (stays : (s.lane l).closing = true ∨ (s.lane l).departSeen = false ∨ (s.deck r.deck).occupancy = .empty) :
    s.enteringTest l = s := by
  unfold State.enteringTest
  rw [record]
  refine if_neg fun begins => ?_
  obtain ⟨-, unclosed, seen, occupied⟩ := begins
  obtain closing | unseen | empty := stays
  · exact unclosed closing
  · rw [unseen] at seen
    cases seen
  · rw [empty] at occupied
    cases occupied

theorem State.releasingTest_pos (record : s.laneRecord l = some r) (releases : (s.lane l).state = .releasing)
    (seen : (s.lane l).departSeen = true) (empty : (s.deck r.deck).occupancy = .empty) : s.releasingTest l =
      ((s.enterLane l .leaving (.event .deckEmpty)).askBarrier l .exit .lower).positionTold l := by
  unfold State.releasingTest
  rw [record]
  refine (if_pos ⟨releases, seen, empty⟩).trans ?_
  have leaves : (((s.enterLane l .leaving (.event .deckEmpty)).askBarrier l .exit .lower).lane l).state = .leaving := by
    rw [State.askBarrier_plantLanes, State.enterLane_lane record, if_pos rfl]
    rfl
  unfold State.enterLeaving State.positionTold
  rw [leaves]

theorem State.releasingTest_neg (record : s.laneRecord l = some r)
    (stays : (s.lane l).departSeen = false ∨ (s.deck r.deck).occupancy = .occupied) : s.releasingTest l = s := by
  unfold State.releasingTest
  rw [record]
  refine if_neg fun leaves => ?_
  obtain ⟨-, seen, empty⟩ := leaves
  obtain unseen | occupied := stays
  · rw [unseen] at seen
    cases seen
  · rw [occupied] at empty
    cases empty

end

/-! ## An ident read (R65, R66) -/

section
variable {s : State} {n : StationId} {l : LaneId} {r : LaneRecord} {x : IdentRead}

theorem State.identLane_none_iff : s.identLane n = none ↔
    ∀ l r, s.laneRecord l = some r → r.reader ≠ some n ∧ r.terminal ≠ n := by
  have nowhere (p : LaneRecord → Bool) : (s.lanesWhere p).head? = none ↔ ∀ l r, s.laneRecord l = some r → p r = false := by
    rw [List.head?_eq_none_iff, List.eq_nil_iff_forall_not_mem]
    simp only [State.mem_lanesWhere, not_exists, not_and, Bool.not_eq_true]
  rw [State.identLane, Option.or_eq_none_iff, State.laneOfReader, State.laneOfTerminal, nowhere, nowhere]
  simp only [beq_eq_false_iff_ne, ne_eq]
  exact ⟨fun both l r record => ⟨both.1 l r record, both.2 l r record⟩,
    fun each => ⟨fun l r record => (each l r record).1, fun l r record => (each l r record).2⟩⟩

theorem LaneContext.repeats_iff (c : LaneContext) (t : Text) :
    c.repeats t = true ↔ ∃ f, c.lastRead = some (t, f) ∧ f < 3000 := by
  simp only [LaneContext.repeats, Option.any_eq_true, Bool.and_eq_true, beq_iff_eq, decide_eq_true_eq, Config.repeatFrames]
  exact ⟨fun ⟨p, last, same, recent⟩ => ⟨p.2, by rw [last, ← same], recent⟩, fun ⟨f, last, recent⟩ => ⟨_, last, rfl, recent⟩⟩

theorem LaneContext.takesRead_iff (c : LaneContext) : c.takesRead = true ↔
    c.state = .identify ∨ (c.state = .referred ∧ c.reason = some .noIdent) := by
  simp [LaneContext.takesRead]

theorem State.identArrives_none (nowhere : s.identLane n = none) : s.identArrives n x = s.post (.noteRead none n x) := by
  unfold State.identArrives
  rw [nowhere]

theorem State.identArrives_repeat (lane : s.identLane n = some l) (repeats : (s.lane l).repeats x.ident = true) :
    s.identArrives n x = s := by
  unfold State.identArrives
  rw [lane]
  exact if_pos repeats

theorem State.identArrives_fresh (lane : s.identLane n = some l) (record : s.laneRecord l = some r)
    (fresh : (s.lane l).repeats x.ident = false) : s.identArrives n x =
      let t := s.setLane l { s.lane l with lastRead := some (x.ident, 0) }
      if (t.lane l).takesRead then
        (((t.updateLane l fun c => { c with timer := none }).deckRead r.deck).deckTold r.deck).makeDecision l x.ident none none
          (.event .identRead) (some x)
      else t.post (.noteRead (some l) n x) := by
  have kept : (s.updateLane l fun c => { c with lastRead := some (x.ident, 0) }).laneRecord l = some r := record
  unfold State.identArrives
  rw [lane]
  refine (if_neg (by rw [fresh]; decide)).trans ?_
  dsimp only
  rw [kept]
  rfl

theorem State.identArrives_stray (lane : s.identLane n = some l) (record : s.laneRecord l = some r)
    (fresh : (s.lane l).repeats x.ident = false) (stray : (s.lane l).takesRead = false) :
    s.identArrives n x = (s.setLane l { s.lane l with lastRead := some (x.ident, 0) }).post (.noteRead (some l) n x) := by
  refine (State.identArrives_fresh lane record fresh).trans (if_neg ?_)
  rw [State.lane_setLane_self]
  exact Bool.eq_false_iff.1 stray

theorem State.identArrives_decides (lane : s.identLane n = some l) (record : s.laneRecord l = some r)
    (fresh : (s.lane l).repeats x.ident = false) (takes : (s.lane l).takesRead = true) : s.identArrives n x =
      ((((s.setLane l { s.lane l with lastRead := some (x.ident, 0), timer := none }).deckRead r.deck).deckTold
        r.deck).makeDecision l x.ident none none (.event .identRead) (some x)) := by
  refine (State.identArrives_fresh lane record fresh).trans ((if_pos ?_).trans ?_)
  · rw [State.lane_setLane_self]
    exact takes
  · rw [State.updateLane, State.lane_setLane_self, State.setLane_setLane]

end

end Sys2Proof.Machine

namespace Sys2Proof.Settled
open Machine

/-- Settles O29: the oldest claim of a free deck, the claim that waits on it, and each lane state's own answer to the deck. -/
theorem deckGrant : Obligations.DeckGrant := by
  refine ⟨fun s d => ⟨fun l rest active unheld claims => congrArg _ (State.grantDeck_some active unheld claims),
      fun idle => congrArg _ (State.grantDeck_none idle), ?lanes⟩,
    fun s l r why read record => ?claim, fun s l r record => ?seen, fun s l why => ⟨fun absent => ?_, fun present => ?_⟩⟩
  case lanes =>
    have same : (allLanes.filter fun l => decide (∃ r, s.laneRecord l = some r ∧ r.deck = d)) = s.deckLanes d := by
      unfold State.deckLanes State.lanesWhere
      refine List.filter_congr fun l _ => ?_
      rw [Bool.eq_iff_iff]
      simp [Option.any_eq_true]
    rw [same]
    rfl
  case claim =>
    intro t claimed woken
    have deck : claimed.deck r.deck = s.deck r.deck := s.enterLane_deck l .awaitDeck why read r.deck
    have waits : s.awaitDeck l why read =
        if ((claimed.wakeDeckEvent r.deck).deck r.deck).state = .fault then (claimed.wakeDeckEvent r.deck).refer l .deckFault
        else (claimed.wakeDeckEvent r.deck).grantDeck r.deck := by
      unfold State.awaitDeck
      rw [record]
      rfl
    have wakes : claimed.wakeDeckEvent r.deck = woken := by
      unfold woken
      split
      next warm => exact State.wakeDeckEvent_warmRest ((congrArg _ deck).trans warm)
      next cold => exact State.wakeDeckEvent_coldRest ((congrArg _ deck).trans cold)
      all_goals exact State.wakeDeckEvent_other (by simp [*]) (by simp [*])
    refine ⟨fun fault => ?_, fun serves => ?_⟩
    · have still : claimed.wakeDeckEvent r.deck = claimed :=
        State.wakeDeckEvent_other (by rw [deck, fault]; decide) (by rw [deck, fault]; decide)
      rw [waits, still, deck, if_pos fault]
      rfl
    · have wakened : ((claimed.wakeDeckEvent r.deck).deck r.deck).state ≠ .fault := by
        unfold State.wakeDeckEvent
        split
        next => rw [State.enterDeckState_state]; decide
        next => rw [State.enterDeckState_state]; decide
        next => rw [deck]; exact serves
      rw [waits, if_neg wakened, wakes]
      rfl
  case seen =>
    have asks (st : LaneState) (state : (s.lane l).state = st) : s.deckSeen l = if st = .awaitDeck then s.deckFaultTest l
        else if st = .entering then s.enteringTest l else if st = .weighing then s.tryCapture l
        else if st = .releasing then s.releasingTest l else if st = .recover then s.testRecover l else s := by
      unfold State.deckSeen
      rw [state]
      cases st <;> rfl
    intro c deck
    refine ⟨fun state => ?_, fun state => ?_, fun state => asks _ state, fun state => ?_, fun state => asks _ state, fun state => ?_⟩
    · have answer := (asks _ state).trans (State.deckFaultTest_eq record state)
      exact ⟨fun fault => answer.trans (if_pos fault), fun serves => answer.trans (if_neg serves)⟩
    · exact ⟨fun unclosed seen occupied =>
          (asks _ state).trans (State.enteringTest_pos record state ⟨unclosed, seen, occupied⟩),
        fun stays => (asks _ state).trans (State.enteringTest_neg record stays)⟩
    · exact ⟨fun seen empty => (asks _ state).trans (State.releasingTest_pos record state seen empty),
        fun stays => (asks _ state).trans (State.releasingTest_neg record stays)⟩
    · obtain state | state | state | state | state | state | state := state <;> exact asks _ state
  · exact if_neg (by rw [s.enterLane_present, absent]; decide)
  · exact if_pos ((s.enterLane_present ..).trans present)

/-- Settles O30: no lane, a repeat within 3,000 frames, a stray read, and a read that decides. -/
theorem identReadHandled : Obligations.IdentReadHandled := by
  refine ⟨fun s n => ?lane, fun s n m rest x hm kind ident quality => ?read⟩
  case lane =>
    rw [State.identLane]
    cases s.laneOfReader n <;> rfl
  case read =>
    intro t
    have valid : x.wellFormed = true := by
      rw [IdentRead.wellFormed, ident]
      exact decide_eq_true quality
    have arrives : exec (.identRead n (.fits x)) s = .next (t.identArrives n x) := by
      refine congrArg Host.Outcome.next ?_
      rw [← kind]
      have reads : (Body.fits x).read IdentRead.wellFormed = some x := if_pos valid
      exact State.deliver_read hm reads ..
    refine ⟨fun unnamed room => ?_, fun l r lane record => ⟨fun f last recent => ?_, fun old => ?_⟩⟩
    · have nowhere : t.identLane n = none := State.identLane_none_iff.2 unnamed
      rw [arrives, State.identArrives_none nowhere, State.post_room (s := t) room]
    · rw [arrives, State.identArrives_repeat (s := t) lane ((LaneContext.repeats_iff ..).2 ⟨f, last, recent⟩)]
    · have fresh : (t.lane l).repeats x.ident = false := by
        rw [← Bool.not_eq_true, LaneContext.repeats_iff]
        rintro ⟨f, last, recent⟩
        exact absurd recent (Nat.not_lt.2 (old f last))
      have takes := LaneContext.takesRead_iff (s.lane l)
      refine ⟨fun notIdentify notReferred room => ?_, fun waits => ?_⟩
      · have stray : (t.lane l).takesRead = false := by
          rw [← Bool.not_eq_true]
          refine fun taken => ?_
          exact (takes.1 taken).elim notIdentify fun both => notReferred.elim (· both.1) (· both.2)
        rw [arrives, State.identArrives_stray (s := t) lane record fresh stray,
          State.post_room (s := t.setLane l { t.lane l with lastRead := some (x.ident, 0) }) room]
        rfl
      · rw [arrives, State.identArrives_decides (s := t) lane record fresh (takes.2 waits)]
        rfl

end Sys2Proof.Settled

/-! PROOFS. Admission: the lookup, the pending category, the yard check and the reservation. -/

namespace Sys2Proof.Machine

/-! ## What the decision looks up (R45, R66, R86) -/

section
variable {s : State} {t : Text}

theorem State.permits_iff (v : Vehicle) (c : CategoryNo) :
    s.permits v c = true ↔ c ∈ v.permitted ∧ (s.category c).enabled = true := by
  simp [State.permits]

theorem outVisitOf_iff (v : Visit) :
    (v.ident == t && v.state.out) = true ↔ v.ident = t ∧ (v.state = .open_ ∨ v.state = .ticketed) := by
  rw [Bool.and_eq_true, beq_iff_eq, out_iff]

theorem State.outVisit_none (absent : ∀ v ∈ s.visits, ¬ (v.ident = t ∧ (v.state = .open_ ∨ v.state = .ticketed))) :
    s.outVisit t = none :=
  List.find?_eq_none.2 fun v mem => mt (outVisitOf_iff v).1 (absent v mem)

theorem State.outVisit_first {before after : List Visit} {v : Visit} (table : s.visits = before ++ v :: after)
    (first : ∀ x ∈ before, ¬ (x.ident = t ∧ (x.state = .open_ ∨ x.state = .ticketed)))
    (own : v.ident = t ∧ (v.state = .open_ ∨ v.state = .ticketed)) : s.outVisit t = some v := by
  rw [State.outVisit, table, List.find?_append, List.find?_eq_none.2 fun x mem => mt (outVisitOf_iff x).1 (first x mem),
    Option.none_or]
  exact List.find?_cons_of_pos ((outVisitOf_iff v).2 own)

theorem State.inYard_iff : s.inYard t = true ↔
    ∃ x ∈ s.visits, x.ident = t ∧ (x.state = .reserved ∨ x.state = .open_ ∨ x.state = .ticketed) := by
  simp [State.inYard, standing_iff]

theorem State.passageFor_inbound {r : LaneRecord} (goesIn : r.direction = .inward ∨ (r.direction = .both ∧ s.outVisit t = none)) :
    s.passageFor r t = .inbound := by
  unfold State.passageFor
  obtain inward | ⟨both, nowhere⟩ := goesIn
  · rw [inward]
  · rw [both, nowhere]
    rfl

theorem State.passageFor_outbound {r : LaneRecord} (goesOut : r.direction = .outward ∨ (r.direction = .both ∧ s.outVisit t ≠ none)) :
    s.passageFor r t = .outbound := by
  unfold State.passageFor
  obtain outward | ⟨both, visit⟩ := goesOut
  · rw [outward]
  · rw [both]
    exact if_pos (Option.isSome_iff_ne_none.2 visit)

theorem State.passageFor_inbound_iff {r : LaneRecord} :
    s.passageFor r t = .inbound ↔ r.direction = .inward ∨ (r.direction = .both ∧ s.outVisit t = none) := by
  refine ⟨fun inbound => ?_, State.passageFor_inbound⟩
  by_contra goesOut
  have outbound : s.passageFor r t = .outbound := by
    refine State.passageFor_outbound ?_
    cases direction : r.direction <;> simp_all
  rw [outbound] at inbound
  cases inbound

/-! ## The end of a lookup (R66) -/

theorem State.lookupEnd_known {v : VehicleRecord} (r : LaneRecord) (known : s.lookup t = some v) :
    (v.status = .bars → s.lookupEnd r t = (v.vehicle, .refused))
    ∧ (v.status = .refers → s.lookupEnd r t = (v.vehicle, .referred .status))
    ∧ (v.status = .admits → s.lookupEnd r t = (v.vehicle, .goesOn)) := by
  unfold State.lookupEnd
  rw [known]
  exact ⟨fun status => by simp only [status], fun status => by simp only [status], fun status => by simp only [status]⟩

theorem State.lookupEnd_unknown (r : LaneRecord) (unknown : s.lookup t = none) :
    (r.unknownPolicy = .refer → s.lookupEnd r t = (bareVehicle t, .referred .unknown))
    ∧ (r.unknownPolicy = .admitCash → s.lookupEnd r t = (cashVehicle t r.cashCategory, .goesOn)) := by
  unfold State.lookupEnd
  rw [unknown]
  exact ⟨fun policy => by simp only [policy], fun policy => by simp only [policy]⟩

end

/-! ## The decision (R66, R67) -/

/-- Where a lane goes as its lookup ends. -/
def State.decides (s : State) (l : LaneId) (why : LaneReason) (read : Option IdentRead) : LookupEnd → State
  | .refused => s.enterLane l .refused why read
  | .referred reason => s.refer l reason read
  | .goesOn => s.yardCheck l why read

/-- The lane with its vehicle field set and no pending category. -/
def State.placed (s : State) (l : LaneId) (v : Vehicle) : State :=
  s.setLane l { s.lane l with vehicle := some v, pendingCategory := none }

theorem Vehicle.overridden_none (v : Vehicle) : v.overridden none none = v := rfl

theorem State.post_setLane (s : State) (b : ReportBody) (l : LaneId) (c : LaneContext) :
    (s.post b).setLane l c = (s.setLane l c).post b := by
  unfold State.post
  split
  next room => exact (if_pos room).symm
  next full => exact (if_neg full).symm

section
variable {s : State} {l : LaneId} {r : LaneRecord} {t : Text} {v : Vehicle} {out : LookupEnd} {account : Option Nat}
  {category : Option CategoryNo} {why : LaneReason} {read : Option IdentRead}

/-- The decision is the lookup, the pending category settled, what an ADMIT carries, and where the lookup sends the lane. -/
theorem State.makeDecision_eq (record : s.laneRecord l = some r) (ends : s.lookupEnd r t = (v, out)) :
    s.makeDecision l t account category why read =
      let u := (s.setLane l { s.lane l with vehicle := some v }).settlePending l fun v k =>
        out == .goesOn && s.passageFor r t == .inbound && s.permits v k
      (u.updateLane l fun c => { c with vehicle := c.vehicle.map fun v => v.overridden account category }).decides l why read out := by
  unfold State.makeDecision
  rw [record]
  dsimp only
  rw [ends]
  unfold State.decides
  cases out <;> rfl

theorem State.settlePending_none {takes : Vehicle → CategoryNo → Bool} (pending : (s.lane l).pendingCategory = none) :
    s.settlePending l takes = s := by
  unfold State.settlePending
  dsimp only
  rw [pending]
  split
  next some_ => cases some_
  next => rfl

theorem State.settlePending_some {takes : Vehicle → CategoryNo → Bool} {k : CategoryNo} (vehicle : (s.lane l).vehicle = some v)
    (pending : (s.lane l).pendingCategory = some k) : s.settlePending l takes =
      if takes v k then s.placed l { v with category := some k } else (s.placed l v).post (.laneKeyRefused l k) := by
  have cleared : s.updateLane l (fun c => { c with pendingCategory := none }) = s.placed l v := by
    rw [State.placed, ← vehicle]
    rfl
  unfold State.settlePending
  dsimp only
  rw [vehicle, pending]
  dsimp only
  rw [cleared]
  split
  next =>
    rw [State.placed, State.updateLane, State.lane_setLane_self, State.setLane_setLane]
    rfl
  next => rfl

/-- The decision by its pending category: none, one taken by an admitted inbound vehicle, or one refused with its report. -/
theorem State.makeDecision_cases (record : s.laneRecord l = some r) (ends : s.lookupEnd r t = (v, out)) :
    let decided := s.makeDecision l t account category why read
    ((s.lane l).pendingCategory = none → decided = (s.placed l (v.overridden account category)).decides l why read out)
    ∧ ∀ k, (s.lane l).pendingCategory = some k →
      (out = .goesOn → s.passageFor r t = .inbound → s.permits v k = true →
        decided = (s.placed l ({ v with category := some k }.overridden account category)).decides l why read out)
      ∧ (out ≠ .goesOn ∨ s.passageFor r t ≠ .inbound ∨ s.permits v k = false →
        decided = ((s.placed l (v.overridden account category)).post (.laneKeyRefused l k)).decides l why read out) := by
  have known : (s.setLane l { s.lane l with vehicle := some v }).lane l = { s.lane l with vehicle := some v } :=
    State.lane_setLane_self ..
  have turned (w : Vehicle) : ((s.setLane l { s.lane l with vehicle := some v }).placed l w).updateLane l
      (fun c => { c with vehicle := c.vehicle.map fun v => v.overridden account category }) =
      s.placed l (w.overridden account category) := by
    rw [State.placed, known, State.updateLane, State.lane_setLane_self, State.setLane_setLane, State.setLane_setLane]
    rfl
  rw [State.makeDecision_eq record ends]
  dsimp only
  refine ⟨fun none_ => ?_, fun k pending => ?_⟩
  · have unsettled : { s.lane l with vehicle := some (v.overridden account category) } =
        { s.lane l with vehicle := some (v.overridden account category), pendingCategory := none } := by rw [← none_]
    rw [State.settlePending_none (by rw [known]; exact none_), State.updateLane, known, State.setLane_setLane, State.placed,
      ← unsettled]
    rfl
  · have settled := State.settlePending_some (s := s.setLane l { s.lane l with vehicle := some v }) (l := l) (v := v) (k := k)
      (takes := fun v k => out == .goesOn && s.passageFor r t == .inbound && s.permits v k) (by rw [known]) (by rw [known]; exact pending)
    rw [settled]
    refine ⟨fun goes inbound permits => ?_, fun refused => ?_⟩
    · rw [if_pos (by rw [goes, inbound, permits]; rfl), turned]
    · have refuses : (out == .goesOn && s.passageFor r t == .inbound && s.permits v k) = false := by
        obtain stops | outbound | forbids := refused
        · simp [stops]
        · simp [outbound]
        · simp [forbids]
      rw [if_neg (by rw [refuses]; decide), State.updateLane, State.post_setLane, State.post_lane]
      exact congrArg (fun u : State => (u.post (.laneKeyRefused l k)).decides l why read out) (turned v)

/-! ## The yard check and the reservation (R67, R86) -/

theorem State.yardCheck_inbound (record : s.laneRecord l = some r) (vehicle : (s.lane l).vehicle = some v)
    (inbound : s.passageFor r v.ident = .inbound) : s.yardCheck l why read =
      let u := s.setLane l { s.lane l with passage := some .inbound }
      if s.inYard v.ident then u.refer l .alreadyInYard read
      else if !v.category.any (s.permits v) then u.refer l .category read
      else u.reserveAndWait l v why read := by
  unfold State.yardCheck
  rw [record, vehicle]
  dsimp only
  rw [inbound]
  rfl

theorem State.yardCheck_outbound (record : s.laneRecord l = some r) (vehicle : (s.lane l).vehicle = some v)
    (outbound : s.passageFor r v.ident = .outbound) :
    let u := s.setLane l { s.lane l with passage := some .outbound }
    (s.outVisit v.ident = none → s.yardCheck l why read = u.refer l .notInYard read)
    ∧ ∀ x, s.outVisit v.ident = some x →
      s.yardCheck l why read = (s.setLane l { s.lane l with passage := some .outbound, target := some x.key }).awaitDeck l why read := by
  have visit (c : LaneContext) : (s.setLane l c).outVisit v.ident = s.outVisit v.ident := rfl
  unfold State.yardCheck
  rw [record, vehicle]
  dsimp only
  rw [outbound]
  dsimp only
  rw [State.updateLane, visit]
  refine ⟨fun nowhere => ?_, fun x found => ?_⟩
  · rw [nowhere]
  · rw [found]
    dsimp only
    rw [State.updateLane, State.lane_setLane_self, State.setLane_setLane]

theorem State.reserveAndWait_full (full : 64 ≤ s.visits.length) : s.reserveAndWait l v why read = s.refer l .yardFull read :=
  if_pos (decide_eq_true full)

theorem State.reserveAndWait_room (room : s.visits.length < 64) :
    (s.inYard v.ident = true → s.reserveAndWait l v why read = s.refer l .alreadyInYard read)
    ∧ (s.inYard v.ident = false → s.reserveAndWait l v why read =
      (State.setLane { s with visits := s.visits ++ [newVisit s.nextVisitKey l v], nextVisitKey := s.nextVisitKey + 1 } l
        { s.lane l with reservation := some s.nextVisitKey }).awaitDeck l why read) := by
  have notFull : s.yardFull = false := decide_eq_false (Nat.not_le.2 room)
  unfold State.reserveAndWait State.reserveVisit
  rw [if_neg (by rw [notFull]; decide)]
  refine ⟨fun inside => ?_, fun outside => ?_⟩
  · rw [if_pos inside]
  · rw [if_neg (by rw [outside]; decide), if_neg (by rw [notFull]; decide)]
    rfl

end

end Sys2Proof.Machine

namespace Sys2Proof.Settled
open Machine

/-- Settles O31: the decision by its lookup and its pending category, and the yard check by its passage. -/
theorem admissionDecision : Obligations.AdmissionDecision := by
  refine ⟨fun s v c => State.permits_iff v c, fun s t => ⟨State.lookup_absent, fun before v after table first own => State.lookup_first table own first,
      State.outVisit_none, fun before v after => State.outVisit_first, State.inYard_iff⟩, fun v => rfl, fun key l v => rfl,
    fun s l r t why read k record pending room => ?pending, fun s l r t why read record none_ => ?bare⟩
  case pending =>
    intro inbound settled keyRefused bare cash goesOn
    have passage : s.passageFor r t = .inbound ↔ inbound := State.passageFor_inbound_iff
    have refused (v : Vehicle) : (s.placed l v).post (.laneKeyRefused l k) = keyRefused v :=
      State.post_room (s := s.placed l v) room _
    have goes (v : Vehicle) (ends : s.lookupEnd r t = (v, .goesOn)) : goesOn v := by
      obtain ⟨takes, refuses⟩ := (State.makeDecision_cases (account := none) (category := none) (why := why) (read := read)
        record ends).2 k pending
      refine ⟨fun goesIn permits => takes rfl (passage.2 goesIn) permits, fun against => ?_⟩
      rw [refuses (.inr (against.imp_left (mt passage.1))), refused]
      rfl
    have stops {v : Vehicle} {out : LookupEnd} (ends : s.lookupEnd r t = (v, out)) (stop : out ≠ .goesOn) :
        s.makeDecision l t none none why read = (keyRefused v).decides l why read out := by
      rw [((State.makeDecision_cases (account := none) (category := none) (why := why) (read := read) record ends).2 k
        pending).2 (.inl stop), ← refused]
      rfl
    refine ⟨fun v known status => goes _ ?_, fun unknown policy => goes _ ?_, fun v known status => ?_, fun v known status => ?_,
      fun unknown policy => ?_⟩
    · exact (s.lookupEnd_known r known).2.2 status
    · exact (s.lookupEnd_unknown r unknown).2 policy
    · exact stops ((s.lookupEnd_known r known).1 status) (by decide)
    · exact stops ((s.lookupEnd_known r known).2.1 status) (by decide)
    · exact stops ((s.lookupEnd_unknown r unknown).1 policy) (by decide)
  case bare =>
    intro known
    have placed (v : Vehicle) : s.placed l v = known v := by
      rw [State.placed, ← none_]
    have decides {v : Vehicle} {out : LookupEnd} (ends : s.lookupEnd r t = (v, out)) :
        s.makeDecision l t none none why read = (known v).decides l why read out := by
      rw [(State.makeDecision_cases (account := none) (category := none) (why := why) (read := read) record ends).1 none_, ← placed]
      rfl
    refine ⟨fun v known status => decides ((s.lookupEnd_known r known).1 status),
      fun v known status => decides ((s.lookupEnd_known r known).2.1 status),
      fun unknown policy => decides ((s.lookupEnd_unknown r unknown).1 policy),
      fun unknown policy => decides ((s.lookupEnd_unknown r unknown).2 policy),
      fun v known status => decides ((s.lookupEnd_known r known).2.2 status), fun v vehicle => ?_⟩
    intro passing
    refine ⟨fun goesIn => ?_, fun goesOut => State.yardCheck_outbound record vehicle (State.passageFor_outbound goesOut)⟩
    rw [State.yardCheck_inbound record vehicle (State.passageFor_inbound goesIn)]
    dsimp only
    refine ⟨fun inside => ?_, fun outside forbids => ?_, fun outside permits full => ?_, fun outside permits space => ?_⟩
    · exact if_pos (State.inYard_iff.2 inside)
    · exact (if_neg (by rw [outside]; decide)).trans (if_pos (by rw [forbids]; rfl))
    · refine (if_neg (by rw [outside]; decide)).trans ((if_neg (by rw [permits]; decide)).trans ?_)
      exact State.reserveAndWait_full (s := s.setLane l (passing .inbound)) full
    · refine (if_neg (by rw [outside]; decide)).trans ((if_neg (by rw [permits]; decide)).trans ?_)
      refine ((State.reserveAndWait_room (s := s.setLane l (passing .inbound)) space).2 outside).trans ?_
      rw [State.lane_setLane_self]
      exact congrArg (fun u : State => u.awaitDeck l why read) (State.setLane_setLane
        { s with visits := s.visits ++ [newVisit s.nextVisitKey l v], nextVisitKey := s.nextVisitKey + 1 } l (passing .inbound) _)

end Sys2Proof.Settled

/-! PROOFS. The category keys of a terminal, and ADMIT. -/

namespace Sys2Proof.Machine

/-! ## Category keys (R79) -/

section
variable {s : State} {l : LaneId} {n : StationId} {k : CategoryNo} {v : Vehicle}

theorem State.laneOfTerminal_none (unnamed : ∀ l r, s.laneRecord l = some r → r.terminal ≠ n) : s.laneOfTerminal n = none := by
  rw [State.laneOfTerminal, List.head?_eq_none_iff, List.eq_nil_iff_forall_not_mem]
  simpa [State.mem_lanesWhere] using unnamed

theorem State.keyArrives_none (nowhere : s.laneOfTerminal n = none) (x : KeyEntry) : s.keyArrives n x = s.post (.noteKey n x) := by
  unfold State.keyArrives
  rw [nowhere]

theorem State.keyArrives_call (lane : s.laneOfTerminal n = some l) : s.keyArrives n .callAttendant = s.post (.laneCallAttendant l) := by
  unfold State.keyArrives
  rw [lane]

theorem State.keyArrives_category (lane : s.laneOfTerminal n = some l) : s.keyArrives n (.category (k.val + 1)) = s.categoryKey l k := by
  unfold State.keyArrives
  rw [lane]
  dsimp only
  rw [categoryOf_succ]

theorem LaneContext.keyReplaces_iff (c : LaneContext) : c.keyReplaces = true ↔ c.passage = some .inbound
    ∧ (c.state = .awaitDeck ∨ c.state = .entering ∨ c.state = .weighing
      ∨ (c.state = .referred ∧ ∃ w, c.reason = some w ∧ w.beforeEntry = true)) := by
  rw [LaneContext.keyReplaces, Bool.and_eq_true, beq_iff_eq]
  refine and_congr_right fun _ => ?_
  cases c.state <;> simp [Option.any_eq_true]

theorem State.categoryKey_held (waits : (s.lane l).state = .identify) :
    s.categoryKey l k = s.setLane l { s.lane l with pendingCategory := some k } := if_pos waits

/-- A key that is taken is the vehicle's category, and lets a lane referred with CATEGORY go on. -/
theorem State.categoryKey_taken (elsewhere : (s.lane l).state ≠ .identify) (vehicle : (s.lane l).vehicle = some v)
    (replaces : (s.lane l).keyReplaces = true) (permits : s.permits v k = true) : s.categoryKey l k =
      let t := s.setLane l { s.lane l with vehicle := some { v with category := some k } }
      if (s.lane l).state = .referred ∧ (s.lane l).reason = some .category
      then t.reserveAndWait l { v with category := some k } (.event .keyEntry) none else t := by
  unfold State.categoryKey
  dsimp only
  rw [if_neg elsewhere, vehicle]
  exact if_pos ⟨replaces, permits⟩

theorem State.categoryKey_refused (elsewhere : (s.lane l).state ≠ .identify)
    (against : ∀ v, (s.lane l).vehicle = some v → (s.lane l).keyReplaces = true → s.permits v k = true → False) :
    s.categoryKey l k = s.post (.laneKeyRefused l k) := by
  unfold State.categoryKey
  dsimp only
  rw [if_neg elsewhere]
  split
  next => rfl
  next v vehicle => exact if_neg fun taken => against v vehicle taken.1 taken.2

end

/-! ## ADMIT (R69) -/

theorem ReferralReason.beforeEntry_iff (why : ReferralReason) : why.beforeEntry = true ↔
    why ∈ [.noIdent, .unknown, .status, .alreadyInYard, .category, .yardFull, .notInYard, .deckFault] := by
  cases why <;> decide

section
variable {s : State} {l : LaneId} {r : LaneRecord} {v : AdmitLoad} {why : ReferralReason}

/-- The fields an ADMIT needs for a reason. -/
theorem State.admitBad_false_iff : s.admitBad v r why = false ↔
    (∀ t, v.ident = some t → 1 ≤ t.length ∧ t.length ≤ 16 ∧ ∀ c ∈ t, identChar c = true)
    ∧ (∀ a, v.account = some a → 1 ≤ a ∧ a ≤ 999999)
    ∧ (∀ k, v.category = some k → ∃ c : CategoryNo, k = c.val + 1 ∧ (s.category c).enabled = true)
    ∧ (why = .noIdent → v.ident ≠ none) ∧ (why = .category → v.category ≠ none)
    ∧ (why = .unknown → v.category ≠ none ∨ r.cashCategory ≠ none) := by
  simp only [State.admitBad, Bool.or_eq_false_iff, and_assoc]
  refine and_congr ?ident (and_congr ?account (and_congr ?category ?needs))
  case ident =>
    cases v.ident with
    | none => simp
    | some t => simp [validIdent_iff]
  case account =>
    cases v.account with
    | none => simp
    | some a => simp [inRange_iff]
  case category =>
    cases v.category with
    | none => simp
    | some k => simp [Option.any_eq_true, categoryOf_iff]
  case needs =>
    cases why with
    | noIdent | category => simp [Option.isSome_iff_ne_none]
    | unknown =>
      simp only [Bool.and_eq_false_iff, Option.isNone_eq_false_iff, Option.isSome_iff_ne_none]
      simp
    | status | alreadyInYard | yardFull | notInYard | deckFault | entryIncomplete | noStable | inspect | negativeNet | tareMismatch
    | noTicketNumber => simp

/-- The point each reason goes on from, with the vehicle as the ADMIT leaves it (R69). -/
theorem State.admitGoesOn_cases :
    let category := v.category.bind categoryOf
    let t := s.overrideVehicle l v.account category
    let office : LaneReason := .event .officeAdmits
    s.admitGoesOn l r v .noIdent = s.makeDecision l (v.ident.getD []) v.account category office none
    ∧ s.admitGoesOn l r v .status = t.yardCheck l office none ∧ s.admitGoesOn l r v .alreadyInYard = t.yardCheck l office none
    ∧ s.admitGoesOn l r v .notInYard = (t.updateLane l fun c => { c with noVisit := true }).awaitDeck l office none
    ∧ s.admitGoesOn l r v .deckFault = t.awaitDeck l office none
    ∧ ∀ x, (t.lane l).vehicle = some x →
      s.admitGoesOn l r v .category = t.reserveAndWait l x office none ∧ s.admitGoesOn l r v .yardFull = t.reserveAndWait l x office none
      ∧ s.admitGoesOn l r v .unknown = (t.updateLane l fun c => { c with
          vehicle := some ((cashVehicle x.ident (category.or r.cashCategory)).overridden v.account none) }).yardCheck l office none := by
  refine ⟨rfl, rfl, rfl, rfl, rfl, fun x vehicle => ?_⟩
  unfold State.admitGoesOn
  dsimp only
  rw [vehicle]
  exact ⟨rfl, rfl, rfl⟩

theorem admitLane_outside (outside : v.lane = 0 ∨ 4 < v.lane) : admitLane v s = refuse s .bad := by
  simp only [admitLane, laneOf_none outside]

theorem admitLane_unreferred (named : v.lane = l.val + 1)
    (unreferred : s.laneRecord l = none ∨ (s.lane l).state ≠ .referred ∨ (s.lane l).reason = none) :
    admitLane v s = refuse s .bad := by
  simp only [admitLane, named, laneOf_succ]
  split
  next r why record reason =>
    refine if_pos (.inl ?_)
    obtain absent | other | none_ := unreferred
    · cases record.symm.trans absent
    · exact other
    · cases reason.symm.trans none_
  next => rfl

theorem admitLane_referred (named : v.lane = l.val + 1) (record : s.laneRecord l = some r)
    (referred : (s.lane l).state = .referred) (reason : (s.lane l).reason = some why) :
    admitLane v s = if ¬ why.beforeEntry ∨ s.admitBad v r why then refuse s .bad
      else if s.admitBusy l why then refuse s .busy
      else accept (s.admitGoesOn l r v why) .none := by
  simp only [admitLane, named, laneOf_succ, record, reason, referred]
  simp only [ne_eq, not_true_eq_false, false_or]

end

end Sys2Proof.Machine

namespace Sys2Proof.Settled
open Machine

/-- Settles O32: the call key, and a category key by the lane's state, its vehicle and what that is permitted. -/
theorem keyEntryHandled : Obligations.KeyEntryHandled := by
  intro s n m rest hm kind t
  have arrives {x : KeyEntry} (valid : x.wellFormed = true) : exec (.keyEntry n (.fits x)) s = .next (t.keyArrives n x) := by
    have reads : (Body.fits x).read KeyEntry.wellFormed = some x := if_pos valid
    refine congrArg Host.Outcome.next ?_
    rw [← kind]
    exact State.deliver_read hm reads ..
  refine ⟨fun room unnamed x valid => ?note, fun l lane => ⟨fun room => ?call, fun k => ?key⟩⟩
  case note =>
    rw [arrives valid, State.keyArrives_none (State.laneOfTerminal_none (s := t) unnamed), State.post_room (s := t) room]
  case call => rw [arrives rfl, State.keyArrives_call (s := t) lane, State.post_room (s := t) room]
  case key =>
    have number : (KeyEntry.category (k.val + 1)).wellFormed = true := (inRange_iff 1 16 _).2 ⟨by omega, by omega⟩
    have handled := (arrives number).trans (congrArg _ (State.keyArrives_category (s := t) (k := k) lane))
    refine ⟨fun waits => handled.trans (congrArg _ (State.categoryKey_held (s := t) waits)), fun v vehicle inbound permits =>
      ⟨fun before => ?_, fun referred reason => ?_⟩, fun room elsewhere against => ?_⟩
    · have elsewhere : (s.lane l).state ≠ .identify := by
        obtain state | state | state | ⟨state, -⟩ := before <;> (rw [state]; decide)
      have replaces : (s.lane l).keyReplaces = true := by
        refine (LaneContext.keyReplaces_iff _).2 ⟨inbound, before.imp_right (Or.imp_right (Or.imp_right fun referred => ?_))⟩
        obtain ⟨state, w, reason, early, -⟩ := referred
        exact ⟨state, w, reason, early⟩
      have notCategory : ¬ ((s.lane l).state = .referred ∧ (s.lane l).reason = some .category) := by
        rintro ⟨state, reason⟩
        obtain other | other | other | ⟨-, w, own, -, other⟩ := before
        · cases state.symm.trans other
        · cases state.symm.trans other
        · cases state.symm.trans other
        · exact other (Option.some.inj (own.symm.trans reason))
      refine handled.trans (congrArg _ ((State.categoryKey_taken (s := t) elsewhere vehicle replaces permits).trans ?_))
      exact if_neg notCategory
    · have replaces : (s.lane l).keyReplaces = true :=
        (LaneContext.keyReplaces_iff _).2 ⟨inbound, .inr (.inr (.inr ⟨referred, .category, reason, rfl⟩))⟩
      have elsewhere : (s.lane l).state ≠ .identify := by rw [referred]; decide
      refine handled.trans (congrArg _ ((State.categoryKey_taken (s := t) elsewhere vehicle replaces permits).trans ?_))
      exact if_pos ⟨referred, reason⟩
    · refine handled.trans (congrArg _ ((State.categoryKey_refused (s := t) elsewhere ?_).trans (State.post_room (s := t) room _)))
      intro v vehicle replaces permits
      obtain ⟨inbound, state⟩ := (LaneContext.keyReplaces_iff (s.lane l)).1 replaces
      have found : (s.lane l).vehicle = some v := vehicle
      have allowed : s.permits v k = true := permits
      obtain absent | outbound | ⟨w, own, forbids⟩ | stops := against
      · cases found.symm.trans absent
      · exact outbound inbound
      · cases found.symm.trans own
        cases forbids.symm.trans allowed
      · obtain waits | waits | waits | ⟨waits, w, reason, early⟩ := state
        · simp [waits] at stops
        · simp [waits] at stops
        · simp [waits] at stops
        · simp [waits, reason, early] at stops

/-- Settles O33: the fields an ADMIT may carry, the two reasons that still stand, and the point each reason goes on from. -/
theorem admitAnswers : Obligations.Admit := by
  refine ⟨fun x account category => ?overridden, fun s l r t account category why read record room => ?decision,
    fun s l x why read => ⟨State.reserveAndWait_full, State.reserveAndWait_room⟩, fun s h rest v hd => ⟨fun outside => ?noLane,
      fun l named unreferred => ?unreferred, fun l r why named record referred reason => ?request⟩⟩
  case overridden => cases account <;> cases category <;> rfl
  case decision =>
    intro inbound placed turned bare cash decided goesOn
    have passage : s.passageFor r t = .inbound ↔ inbound := State.passageFor_inbound_iff
    have refused {k : CategoryNo} (pending : (s.lane l).pendingCategory = some k) (v : Vehicle) :
        (s.placed l (v.overridden account category)).post (.laneKeyRefused l k) = turned v := by
      have turn : turned v = (placed v).reported (.laneKeyRefused l k) := by
        unfold turned
        rw [pending]
      rw [turn]
      exact State.post_room (s := placed v) (room (by rw [pending]; simp)) _
    have bareTurn (pending : (s.lane l).pendingCategory = none) (v : Vehicle) :
        s.placed l (v.overridden account category) = turned v := by
      unfold turned
      rw [pending]
      rfl
    have against {v : Vehicle} {out : LookupEnd} (ends : s.lookupEnd r t = (v, out))
        (stops : ∀ k, (s.lane l).pendingCategory = some k →
          out ≠ .goesOn ∨ s.passageFor r t ≠ .inbound ∨ s.permits v k = false) :
        decided = (turned v).decides l why read out := by
      obtain ⟨none_, some_⟩ := State.makeDecision_cases (account := account) (category := category) (why := why) (read := read)
        record ends
      cases pending : (s.lane l).pendingCategory with
      | none => exact (none_ pending).trans (by rw [bareTurn pending])
      | some k => exact ((some_ k pending).2 (stops k pending)).trans (by rw [refused pending])
    have goes (v : Vehicle) (ends : s.lookupEnd r t = (v, .goesOn)) : goesOn v := by
      refine ⟨fun k pending goesIn permits => ?_, fun refuses => against ends fun k pending => .inr ?_⟩
      · exact ((State.makeDecision_cases record ends).2 k pending).1 rfl (passage.2 goesIn) permits
      · exact (refuses k pending).imp_left (mt passage.1)
    have stops {out : LookupEnd} (stop : out ≠ .goesOn) {v : Vehicle} (ends : s.lookupEnd r t = (v, out)) :
        decided = (turned v).decides l why read out := against ends fun _ _ => .inl stop
    refine ⟨fun v known status => goes _ ((s.lookupEnd_known r known).2.2 status),
      fun unknown policy => goes _ ((s.lookupEnd_unknown r unknown).2 policy),
      fun v known status => stops (out := .refused) (by decide) ((s.lookupEnd_known r known).1 status),
      fun v known status => stops (out := .referred .status) (by decide) ((s.lookupEnd_known r known).2.1 status),
      fun unknown policy => stops (out := .referred .unknown) (by decide) ((s.lookupEnd_unknown r unknown).1 policy)⟩
  case noLane => exact exec_served rfl hd (admitLane_outside outside) rfl
  case unreferred => exact exec_served rfl hd (admitLane_unreferred named unreferred) rfl
  case request =>
    have request := admitLane_referred named record referred reason
    intro serves
    have wellFormed (category : Option CategoryNo) (all : serves category) :
        category = v.category.bind categoryOf ∧ why.beforeEntry = true ∧ s.admitBad v r why = false := by
      obtain ⟨early, ident, account, number, enabled, noIdent, noCategory, unknown⟩ := all
      refine ⟨?_, (ReferralReason.beforeEntry_iff why).2 early, State.admitBad_false_iff.2 ⟨ident, account, fun k own => ?_, noIdent,
        noCategory, unknown⟩⟩
      · rw [number]
        cases category <;> simp
      · cases category with
        | none =>
          rw [number] at own
          cases own
        | some c =>
          rw [number] at own
          exact ⟨c, (Option.some.inj own).symm, enabled c rfl⟩
    have served (early : why.beforeEntry = true) (good : s.admitBad v r why = false) : serves (v.category.bind categoryOf) := by
      obtain ⟨ident, account, category, noIdent, noCategory, unknown⟩ := State.admitBad_false_iff.1 good
      refine ⟨(ReferralReason.beforeEntry_iff why).1 early, ident, account, ?_, fun c named => ?_, noIdent, noCategory, unknown⟩
      · cases number : v.category with
        | none => rfl
        | some k =>
          obtain ⟨c, same, -⟩ := category k number
          simp [same]
      · cases number : v.category with
        | none => simp [number] at named
        | some k =>
          obtain ⟨d, same, enabled⟩ := category k number
          simp [number, same] at named
          exact named ▸ enabled
    have bad (none_ : ∀ category, ¬ serves category) : exec (.admitLane (.fits v)) s = .next (s.replied h rest .bad .none) := by
      refine exec_served rfl hd (request.trans (if_pos ?_)) rfl
      by_contra good
      rw [not_or, not_not, Bool.not_eq_true] at good
      exact none_ _ (served good.1 good.2)
    refine ⟨fun wrong => bad fun category all => ?wrong, bad, fun category all => ?accepted⟩
    case wrong =>
      obtain ⟨-, early, good⟩ := wellFormed category all
      obtain ⟨-, ident, account, number, enabled, noIdent, noCategory, unknown⟩ := all
      obtain late | ⟨a, own, range⟩ | ⟨k, own, range⟩ | ⟨c, own, disabled⟩ | ⟨is, absent⟩ | ⟨is, absent⟩ | ⟨is, absent, cashless⟩
        | ⟨t, own, form⟩ := wrong
      · cases late.symm.trans early
      · obtain ⟨low, high⟩ := account a own
        omega
      · rw [number] at own
        cases category with
        | none => cases own
        | some c =>
          have same : c.val + 1 = k := Option.some.inj own
          omega
      · rw [number] at own
        cases category with
        | none => cases own
        | some d =>
          have same : d = c := Fin.ext (Nat.succ.inj (Option.some.inj own))
          cases disabled.symm.trans (same ▸ enabled d rfl)
      · exact noIdent is absent
      · exact noCategory is absent
      · exact (unknown is).elim (· absent) (· cashless)
      · obtain ⟨some_, short, chars⟩ := ident t own
        obtain empty | long | ⟨c, mem, foreign⟩ := form
        · rw [empty] at some_
          cases some_
        · omega
        · cases foreign.symm.trans (chars c mem)
    case accepted =>
      obtain ⟨category_, early, good⟩ := wellFormed category all
      intro changed t office
      have goesOn (calm : s.admitBusy l why = false) : exec (.admitLane (.fits v)) s =
          .next ((s.admitGoesOn l r v why).replied h rest .ok .none) := by
        refine exec_served rfl hd (request.trans ((if_neg ?_).trans (if_neg ?_))) (State.buffer_of_fixed (s.admitGoesOn_fixed ..))
        · rw [early, good]
          decide
        · rw [calm]
          decide
      have continues {u : State} (calm : s.admitBusy l why = false) (same : s.admitGoesOn l r v why = u) :
          exec (.admitLane (.fits v)) s = .next (u.replied h rest .ok .none) := (goesOn calm).trans (by rw [same])
      have overridden : s.overrideVehicle l v.account (v.category.bind categoryOf) = t := by rw [← category_]; rfl
      have vehicle : (t.lane l).vehicle = (s.lane l).vehicle.map changed := by
        unfold t
        rw [State.lane_setLane_self]
      obtain ⟨noIdent, status, inYard, notInYard, deckFault, withVehicle⟩ := State.admitGoesOn_cases (s := s) (l := l) (r := r) (v := v)
      refine ⟨fun stands => ?busy, fun ident is own => ?noIdent, fun is => ?status, fun is => ?alreadyInYard, fun x own is => ?reserves,
        fun is => ?notInYard, fun is => ?deckFault, fun x is own => ?unknown⟩
      case busy =>
        have busy : s.admitBusy l why = true := by
          obtain ⟨rfl, x, own, inside⟩ | ⟨rfl, full⟩ := stands
          · simp [State.admitBusy, own, inside]
          · exact decide_eq_true full
        refine exec_served rfl hd (request.trans ((if_neg ?_).trans (if_pos busy))) rfl
        rw [early, good]
        decide
      case noIdent =>
        subst is
        refine continues rfl (noIdent.trans ?_)
        rw [own, category_]
        rfl
      case status =>
        subst is
        exact continues rfl (status.trans (by rw [overridden]))
      case alreadyInYard =>
        obtain ⟨rfl, outside⟩ := is
        refine continues ?_ (inYard.trans (by rw [overridden]))
        cases own : (s.lane l).vehicle with
        | none => simp [State.admitBusy, own]
        | some x => simpa [State.admitBusy, own] using outside x own
      case reserves =>
        have changedVehicle : (t.lane l).vehicle = some (changed x) := vehicle.trans (by rw [own]; rfl)
        rw [← overridden] at changedVehicle
        obtain ⟨byCategory, byRoom, -⟩ := withVehicle _ changedVehicle
        obtain rfl | ⟨rfl, space⟩ := is
        · exact continues rfl (byCategory.trans (by rw [overridden]))
        · exact continues (decide_eq_false (Nat.not_le.2 space)) (byRoom.trans (by rw [overridden]))
      case notInYard =>
        subst is
        exact continues rfl (notInYard.trans (by rw [overridden]; rfl))
      case deckFault =>
        subst is
        exact continues rfl (deckFault.trans (by rw [overridden]))
      case unknown =>
        intro given cash
        subst is
        have changedVehicle : (t.lane l).vehicle = some (changed x) := vehicle.trans (by rw [own]; rfl)
        rw [← overridden] at changedVehicle
        obtain ⟨-, -, byCash⟩ := withVehicle _ changedVehicle
        have asCash : (cashVehicle (changed x).ident ((v.category.bind categoryOf).or r.cashCategory)).overridden v.account none = cash := by
          rw [← category_]
          unfold cash given
          cases category <;> rfl
        refine continues rfl (byCash.trans ?_)
        rw [asCash, overridden, State.updateLane]
        unfold t
        rw [State.lane_setLane_self, State.setLane_setLane]

end Sys2Proof.Settled

/-! PROOFS. Recovery, and the requests that enable, resume and disable a lane. -/

namespace Sys2Proof.Machine

theorem State.deckLanes_eq (s : State) (d : DeckId) :
    s.deckLanes d = allLanes.filter fun l => decide (∃ r, s.laneRecord l = some r ∧ r.deck = d) := by
  unfold State.deckLanes State.lanesWhere
  refine List.filter_congr fun l _ => ?_
  rw [Bool.eq_iff_iff]
  simp [Option.any_eq_true]

/-! ## The conditions of recovery (R63, R81) -/

section
variable {s : State} {l : LaneId} {r : LaneRecord}

theorem State.stationsEnrolled_iff : s.stationsEnrolled r = true ↔
    ∀ n ∈ [r.entryBarrier, r.exitBarrier, r.terminal] ++ r.reader.toList, (s.station n).state = .enrolled := by
  cases reader : r.reader <;> simp [State.stationsEnrolled, State.enrolled, reader, and_assoc]

theorem State.barrierStopped_iff (n : StationId) :
    s.barrierStopped n = true ↔ ∃ b, s.barrier n = some b ∧ (b.state = .fault ∨ b.state = .manual) := by
  simp [State.barrierStopped, Option.any_eq_true, outOfService_iff]

theorem State.barriersServe_iff :
    s.barriersServe r = true ↔ s.barrierStopped r.entryBarrier = false ∧ s.barrierStopped r.exitBarrier = false := by
  simp [State.barriersServe]

theorem State.barrierDown_iff (n : StationId) : s.barrierDown n = true ↔ ∃ b, s.barrier n = some b ∧ b.told = .down := by
  simp [State.barrierDown, Option.any_eq_true]

theorem State.heldByOther_iff (d : DeckId) : s.heldByOther l d = true ↔ ∃ m, m ≠ l ∧ (s.arbiter d).holder = some m := by
  simp only [State.heldByOther, Option.any_eq_true, bne_iff_ne]
  exact ⟨fun ⟨m, held, other⟩ => ⟨m, other, held⟩, fun ⟨m, other, held⟩ => ⟨m, held, other⟩⟩

theorem State.recovered_iff : s.recovered l r = true ↔ (s.lane l).state = .recover ∧ s.stationsEnrolled r = true
    ∧ s.barriersServe r = true ∧ (s.barrierDown r.entryBarrier = true ∧ s.barrierDown r.exitBarrier = true)
    ∧ s.heldByOther l r.deck = false ∧ ((s.arbiter r.deck).holder = some l → (s.deck r.deck).occupancy = .empty) := by
  have hold : (!s.holds l r.deck || (s.deck r.deck).occupancy == .empty) = true ↔
      ((s.arbiter r.deck).holder = some l → (s.deck r.deck).occupancy = .empty) := by
    rw [Bool.or_eq_true, Bool.not_eq_true', ← Bool.not_eq_true, State.holds_iff, beq_iff_eq, ← Decidable.imp_iff_not_or]
  simp only [State.recovered, State.bothDown, Bool.and_eq_true, beq_iff_eq, hold, Bool.not_eq_true', and_assoc]

theorem State.testRecover_stays (record : s.laneRecord l = some r) (stays : s.recovered l r = false) : s.testRecover l = s := by
  unfold State.testRecover
  rw [record]
  exact if_neg (by rw [stays]; decide)

theorem State.testRecover_free (record : s.laneRecord l = some r) (recovers : s.recovered l r = true)
    (unheld : (s.arbiter r.deck).holder ≠ some l) : s.testRecover l = s.enterIdle l (.event .recovered) := by
  unfold State.testRecover
  rw [record]
  exact (if_pos recovers).trans (if_neg (mt (s.holds_iff l r.deck).1 unheld))

theorem State.clearHold_held {d : DeckId} (held : (s.arbiter d).holder = some l) :
    s.clearHold l d = (s.setArbiter d { s.arbiter d with holder := none }).setLane l { s.lane l with claim := .none } :=
  if_pos ((s.holds_iff l d).2 held)

theorem State.clearHold_unheld {d : DeckId} (unheld : (s.arbiter d).holder ≠ some l) : s.clearHold l d = s :=
  if_neg (mt (s.holds_iff l d).1 unheld)

theorem State.testRecover_held (record : s.laneRecord l = some r) (recovers : s.recovered l r = true)
    (held : (s.arbiter r.deck).holder = some l) : s.testRecover l =
      (((s.setArbiter r.deck { s.arbiter r.deck with holder := none }).setLane l { s.lane l with claim := .none }).enterIdle l
        (.event .recovered)).afterRelease r.deck := by
  unfold State.testRecover
  rw [record]
  exact (if_pos recovers).trans ((if_pos ((s.holds_iff l r.deck).2 held)).trans (by rw [State.clearHold_held held]))

theorem State.recoverFree_unheld (record : s.laneRecord l = some r) (unheld : (s.arbiter r.deck).holder ≠ some l) :
    s.recoverFree l = s.testRecover l := by
  have free : ¬ s.holds l r.deck = true := mt (s.holds_iff l r.deck).1 unheld
  unfold State.recoverFree
  rw [record]
  obtain recovers | stays := Bool.eq_false_or_eq_true (s.recovered l r)
  · rw [State.testRecover_free record recovers unheld]
    exact if_pos ⟨recovers, free⟩
  · rw [State.testRecover_stays record stays]
    exact if_neg fun both => by rw [stays] at both; cases both.1

theorem State.recoverFree_held (record : s.laneRecord l = some r) (held : (s.arbiter r.deck).holder = some l) :
    s.recoverFree l = s := by
  unfold State.recoverFree
  rw [record]
  exact if_neg fun both => both.2 ((s.holds_iff l r.deck).2 held)

theorem State.askRecovery_eq (record : s.laneRecord l = some r) (recovers : (s.lane l).state = .recover) : s.askRecovery l =
    if s.heldByOther l r.deck then s else (s.askBarrier l .entry .lower).askBarrier l .exit .lower := by
  unfold State.askRecovery
  rw [record]
  cases held : s.heldByOther l r.deck <;> simp [recovers, held]

/-- A request leaves a barrier out of service as it is, and everything but barriers and command codes stands. -/
theorem State.askBarrier_stopped (role : BarrierRole) (m : Motion) {n : StationId} (stopped : s.barrierStopped n = true) :
    (s.askBarrier l role m).barrierStopped n = true := by
  unfold State.askBarrier
  split
  next => exact stopped
  next r _ =>
    split
    next => exact stopped
    next b found =>
      split
      next =>
        by_cases own : r.barrierAt role = n
        · rw [own] at found ⊢
          have out : b.outOfService = true := by simpa [State.barrierStopped, found] using stopped
          have kept : b.applyMotion m r.motionLimit = b := if_pos out
          rw [kept]
          simp [State.barrierStopped, State.putBarrier, out]
        · simpa [State.barrierStopped, State.putBarrier, State.barrier_setBarrier, own] using stopped
      next => exact stopped

theorem State.askBarrier_stations (role : BarrierRole) (m : Motion) : (s.askBarrier l role m).stations = s.stations := by
  unfold State.askBarrier
  repeat' split
  all_goals rfl

theorem State.askRecovery_stopped {n : StationId} (stopped : s.barrierStopped n = true) :
    (s.askRecovery l).barrierStopped n = true := by
  unfold State.askRecovery
  split
  next => exact stopped
  next =>
    split
    next => exact State.askBarrier_stopped _ _ (State.askBarrier_stopped _ _ stopped)
    next => exact stopped

theorem State.askRecovery_stations : (s.askRecovery l).stations = s.stations := by
  unfold State.askRecovery
  repeat' split
  all_goals simp [State.askBarrier_stations]

/-- A lane stays in RECOVER while a station of it is not ENROLLED or a barrier of it is stopped. -/
theorem State.enterRecover_state (record : s.laneRecord l = some r) (why : LaneReason)
    (waits : s.stationsEnrolled r = false ∨ s.barrierStopped r.entryBarrier = true ∨ s.barrierStopped r.exitBarrier = true) :
    ((s.enterRecover l why).lane l).state = .recover := by
  have entered : ((s.enterLane l .recover why).lane l).state = .recover := by
    rw [State.enterLane_lane record, if_pos rfl]
    rfl
  obtain ⟨-, stations, barriers, -⟩ := s.enterLane_decks l .recover why none
  have kept : ((s.enterLane l .recover why).askRecovery l).laneRecord l = some r := by
    rw [State.laneRecord, State.laneTable_of_fixed (State.askRecovery_fixed ..), State.laneTable_of_fixed (State.enterLane_fixed ..)]
    exact record
  have sameStation (n : StationId) : ((s.enterLane l .recover why).askRecovery l).station n = s.station n := by
    rw [State.station, State.askRecovery_stations, stations, State.station]
  have stopped {n : StationId} (stop : s.barrierStopped n = true) :
      ((s.enterLane l .recover why).askRecovery l).barrierStopped n = true := by
    refine State.askRecovery_stopped ?_
    rw [State.barrierStopped, State.barrier, barriers]
    exact stop
  have stays : ((s.enterLane l .recover why).askRecovery l).recovered l r = false := by
    rw [← Bool.not_eq_true, State.recovered_iff, State.barriersServe_iff]
    rintro ⟨-, enrolled, ⟨entry, exit⟩, -⟩
    obtain unready | stop | stop := waits
    · have same := State.stationsEnrolled_iff.1 enrolled
      simp only [sameStation] at same
      rw [State.stationsEnrolled_iff.2 same] at unready
      cases unready
    · rw [stopped stop] at entry
      cases entry
    · rw [stopped stop] at exit
      cases exit
  rw [State.enterRecover, State.testRecover_stays kept stays, State.askRecovery_lane]
  exact entered

/-! ## The requests (R62, R81, R82) -/

theorem enableLane_outside {m : Nat} (outside : m = 0 ∨ 4 < m) : enableLane m s = refuse s .bad := by
  simp only [enableLane, laneOf_none outside]

theorem enableLane_bare (bare : s.laneRecord l = none) : enableLane (l.val + 1) s = refuse s .bad := by
  simp only [enableLane, laneOf_succ, bare]
  rfl

theorem enableLane_eq (record : s.laneRecord l = some r) : enableLane (l.val + 1) s =
    if (s.lane l).state ≠ .closed then refuse s .busy else accept (s.enterRecover l (.event .enabled)) .none := by
  simp only [enableLane, laneOf_succ, record]
  rfl

theorem resumeLane_outside {m : Nat} (outside : m = 0 ∨ 4 < m) : resumeLane m s = refuse s .bad := by
  simp only [resumeLane, laneOf_none outside]

theorem resumeLane_bare (bare : s.laneRecord l = none) : resumeLane (l.val + 1) s = refuse s .bad := by
  simp only [resumeLane, laneOf_succ, bare]

theorem resumeLane_eq (record : s.laneRecord l = some r) : resumeLane (l.val + 1) s =
    if (s.lane l).state ≠ .fault then refuse s .bad
    else if !s.stationsEnrolled r || !s.barriersServe r then refuse s .busy
    else accept (s.enterRecover l (.event .resumed)) .none := by
  simp only [resumeLane, laneOf_succ, record]

theorem disableLane_outside {m : Nat} (outside : m = 0 ∨ 4 < m) : disableLane m s = refuse s .bad := by
  simp only [disableLane, laneOf_none outside]

theorem disableLane_bare (bare : s.laneRecord l = none) : disableLane (l.val + 1) s = refuse s .busy := by
  simp only [disableLane, laneOf_succ, bare]

theorem disableLane_eq (record : s.laneRecord l = some r) : disableLane (l.val + 1) s =
    if (s.lane l).state.disables then accept (s.closeLane l r) .none else refuse s .busy := by
  simp only [disableLane, laneOf_succ, record]

theorem LaneState.disables_iff (st : LaneState) : st.disables = true ↔ st = .idle ∨ st = .recover ∨ st = .fault := by
  cases st <;> decide

end

end Sys2Proof.Machine

namespace Sys2Proof.Settled
open Machine

/-- Settles O27: the three requests by record and state, and the conditions a lane in RECOVER waits for. -/
theorem laneService : Obligations.LaneService := by
  intro s h rest
  refine ⟨fun hd => ⟨fun m outside => exec_served rfl hd (enableLane_outside outside) rfl, fun l =>
      ⟨fun bare => exec_served rfl hd (enableLane_bare bare) rfl, fun r record => ⟨fun open_ => ?_, fun closed => ?_⟩⟩⟩,
    fun hd => ⟨fun m outside => exec_served rfl hd (resumeLane_outside outside) rfl, fun l bare =>
      exec_served rfl hd (resumeLane_bare bare) rfl, fun l r record => ?resume⟩,
    fun hd => ⟨fun m outside => exec_served rfl hd (disableLane_outside outside) rfl, fun l bare =>
      exec_served rfl hd (disableLane_bare bare) rfl, fun l r record => ?disable⟩,
    fun l r record => ?recovery, fun d => ?_⟩
  · exact exec_served rfl hd ((enableLane_eq record).trans (if_pos open_)) rfl
  · exact exec_served rfl hd ((enableLane_eq record).trans (if_neg (not_not_intro closed)))
      (State.buffer_of_fixed (s.enterRecover_fixed ..))
  case resume =>
    intro ready
    have answers : (!s.stationsEnrolled r || !s.barriersServe r) = true ↔ ¬ ready := by
      rw [← Bool.not_and, Bool.not_eq_true', ← Bool.not_eq_true, Bool.and_eq_true, State.barriersServe_iff]
    refine ⟨fun other => exec_served rfl hd ((resumeLane_eq record).trans (if_pos other)) rfl, fun fault unready => ?_,
      fun fault all => ?_⟩
    · exact exec_served rfl hd ((resumeLane_eq record).trans ((if_neg (not_not_intro fault)).trans (if_pos (answers.2 unready)))) rfl
    · exact exec_served rfl hd ((resumeLane_eq record).trans ((if_neg (not_not_intro fault)).trans
        (if_neg (mt answers.1 (not_not_intro all))))) (State.buffer_of_fixed (s.enterRecover_fixed ..))
  case disable =>
    refine ⟨fun idle recover fault => ?_, fun disables => ?_⟩
    · refine exec_served rfl hd ((disableLane_eq record).trans (if_neg ?_)) rfl
      rw [LaneState.disables_iff]
      exact fun any => any.elim idle fun any => any.elim recover fault
    · have closes := (disableLane_eq record).trans (if_pos ((LaneState.disables_iff _).2 disables))
      have answered {u : State} (closed : s.closeLane l r = u) :
          exec (.disableLane (.fits (l.val + 1))) s = .next (u.replied h rest .ok .none) := by
        rw [← closed]
        exact exec_served rfl hd closes (State.buffer_of_fixed (s.closeLane_fixed ..))
      refine ⟨fun unheld => answered ?_, fun held => answered ?_⟩
      · rw [State.closeLane, State.clearHold_unheld unheld]
        exact if_neg (mt (s.holds_iff l r.deck).1 unheld)
      · rw [State.closeLane, State.clearHold_held held]
        exact if_pos ((s.holds_iff l r.deck).2 held)
  case recovery =>
    intro stations stops down other
    have enrolled : s.stationsEnrolled r = true ↔ stations := State.stationsEnrolled_iff
    have serves : s.barriersServe r = true ↔ ¬ stops := by
      rw [State.barriersServe_iff, ← Bool.not_eq_true, ← Bool.not_eq_true, State.barrierStopped_iff, State.barrierStopped_iff, ← not_or]
      refine not_congr ⟨?_, ?_⟩
      · rintro (⟨b, found, stop⟩ | ⟨b, found, stop⟩)
        · exact ⟨_, b, .inl rfl, found, stop⟩
        · exact ⟨_, b, .inr rfl, found, stop⟩
      · rintro ⟨n, b, rfl | rfl, found, stop⟩
        · exact .inl ⟨b, found, stop⟩
        · exact .inr ⟨b, found, stop⟩
    have partner : s.heldByOther l r.deck = true ↔ other := State.heldByOther_iff r.deck
    refine ⟨enrolled, fun n => State.barrierStopped_iff n, fun why waits => State.enterRecover_state record why ?_, fun _ => rfl,
      fun recovers => ?_, fun stays => State.testRecover_stays record ?_, fun recovers allEnrolled serve entryDown exitDown => ?_,
      State.recoverFree_unheld record, State.recoverFree_held record⟩
    · obtain missing | ⟨n, b, named, found, stop⟩ := waits
      · exact .inl (eq_false_of_ne_true (mt enrolled.1 missing))
      · have stopped := (State.barrierStopped_iff n).2 ⟨b, found, stop⟩
        obtain rfl | rfl := named
        · exact .inr (.inl stopped)
        · exact .inr (.inr stopped)
    · have asks := State.askRecovery_eq record recovers
      exact ⟨fun held => asks.trans (if_pos (partner.2 held)), fun free => asks.trans (if_neg (mt partner.1 free))⟩
    · rw [← Bool.not_eq_true, State.recovered_iff, enrolled, serves, State.barrierDown_iff, State.barrierDown_iff]
      rintro ⟨recovers, allEnrolled, serve, ⟨entryDown, exitDown⟩, alone, empty⟩
      rcases stays with wrong | wrong | wrong | wrong | wrong | wrong | ⟨held, occupied⟩
      · exact wrong recovers
      · exact wrong allEnrolled
      · exact serve wrong
      · exact wrong entryDown
      · exact wrong exitDown
      · rw [partner.2 wrong] at alone
        cases alone
      · rw [empty held] at occupied
        cases occupied
    · have recovered (alone : ¬ other) (empty : (s.arbiter r.deck).holder = some l → (s.deck r.deck).occupancy = .empty) :
          s.recovered l r = true :=
        State.recovered_iff.2 ⟨recovers, enrolled.2 allEnrolled, serves.2 serve,
          ⟨(State.barrierDown_iff _).2 entryDown, (State.barrierDown_iff _).2 exitDown⟩,
          eq_false_of_ne_true (mt partner.1 alone), empty⟩
      refine ⟨fun free => ?_, fun held empty => ?_⟩
      · have unheld : (s.arbiter r.deck).holder ≠ some l := by
          rw [free]
          simp
        refine State.testRecover_free record (recovered ?_ fun held => absurd held unheld) unheld
        rintro ⟨m, -, held⟩
        rw [free] at held
        cases held
      · refine State.testRecover_held record (recovered ?_ fun _ => empty) held
        rintro ⟨m, differs, holds⟩
        exact differs (Option.some.inj (holds.symm.trans held))
  · rw [← State.deckLanes_eq]
    rfl

end Sys2Proof.Settled

/-! PROOFS. The capture, its steps and checks, and the requests that retry and release a referred lane. -/

namespace Sys2Proof.Machine

section
variable {s : State} {l : LaneId} {r : LaneRecord} {w : Weight} {k : Nat} {v : Visit}

/-! ## When a lane captures (R70) -/

/-- The conditions of a capture of the value `x` of the deck's reading record. -/
def State.Captures (s : State) (l : LaneId) (r : LaneRecord) (x : Int) : Prop :=
  (s.lane l).state = .weighing ∧ (s.deck r.deck).state = .active
    ∧ (s.arbiter r.deck).holder = some l ∧ (s.deck r.deck).reading.state = .stable ∧ (s.deck r.deck).reading.value = some x
    ∧ (∃ k, (s.deck r.deck).record = some k ∧ ((1000 * k.occupancyThreshold * k.division : Nat) : Int) ≤ x)
    ∧ ∀ n, (n = r.entryBarrier ∨ n = r.exitBarrier) → ∃ b, s.barrier n = some b ∧ b.told = .down

theorem State.bothDown_iff : s.bothDown r = true ↔
    ∀ n, (n = r.entryBarrier ∨ n = r.exitBarrier) → ∃ b, s.barrier n = some b ∧ b.told = .down := by
  simp [State.bothDown, State.barrierDown_iff]

theorem State.captureReady_iff : s.captureReady l r = true ↔ ∃ x, s.Captures l r x := by
  simp only [State.captureReady, State.Captures, Bool.and_eq_true, beq_iff_eq, State.holds_iff, State.bothDown_iff,
    Option.any_eq_true, decide_eq_true_eq]
  constructor
  · rintro ⟨⟨⟨⟨⟨weighs, active⟩, held⟩, down⟩, stable⟩, k, record, x, value, reached⟩
    exact ⟨x, weighs, active, held, stable, value, ⟨k, record, reached⟩, down⟩
  · rintro ⟨x, weighs, active, held, stable, value, ⟨k, record, reached⟩, down⟩
    exact ⟨⟨⟨⟨⟨weighs, active⟩, held⟩, down⟩, stable⟩, k, record, x, value, reached⟩

theorem State.tryCapture_waits (record : s.laneRecord l = some r) (waits : ∀ x, ¬ s.Captures l r x) : s.tryCapture l = s := by
  unfold State.tryCapture
  rw [record]
  exact if_neg (mt State.captureReady_iff.1 (not_exists.2 waits))

theorem State.tryCapture_captures (record : s.laneRecord l = some r) {x : Int} (ready : s.Captures l r x) :
    s.tryCapture l = s.capture l r x := by
  unfold State.tryCapture
  rw [record]
  refine (if_pos (State.captureReady_iff.2 ⟨x, ready⟩)).trans ?_
  obtain ⟨-, -, -, -, value, -⟩ := ready
  rw [value]

/-! ## The target visit, the steps and the checks (R76, R77) -/

theorem State.liveTarget_isNone_iff (target : (s.lane l).target = some k) :
    (s.liveTarget l).isNone = true ↔ ∀ v, s.visit k = some v → v.state ≠ .open_ ∧ v.state ≠ .ticketed := by
  rw [State.liveTarget, target, Option.bind_some]
  cases found : s.visit k <;> simp [Option.filter_some, out_iff, not_or]

theorem State.findsGone_iff : s.findsGone l = true ↔ (s.lane l).passage = some .outbound
    ∧ ∃ k, (s.lane l).target = some k ∧ ∀ v, s.visit k = some v → v.state ≠ .open_ ∧ v.state ≠ .ticketed := by
  rw [State.findsGone, Bool.and_eq_true, Bool.and_eq_true, beq_iff_eq, Option.isSome_iff_exists, and_assoc]
  refine and_congr_right fun _ => ⟨?_, ?_⟩
  · rintro ⟨⟨k, target⟩, missing⟩
    exact ⟨k, target, (State.liveTarget_isNone_iff target).1 missing⟩
  · rintro ⟨k, target, missing⟩
    exact ⟨⟨k, target⟩, (State.liveTarget_isNone_iff target).2 missing⟩

theorem State.captureSteps_inbound {x : Vehicle} (inbound : (s.lane l).passage = some .inbound)
    (vehicle : (s.lane l).vehicle = some x) : s.captureSteps l =
      if x.tarePolicy = .weighEach then [.inspect, .commit true] else [.netCheck, .inspect, .numberCheck, .commit true] := by
  unfold State.captureSteps
  simp only [inbound, vehicle, Option.any_some, beq_iff_eq]

theorem State.captureSteps_outbound (outbound : (s.lane l).passage = some .outbound)
    (live : s.liveTarget l = some v) : s.captureSteps l =
      if v.state = .open_ then [.netCheck, .numberCheck, .commit true] else [.tareCheck, .commit true] := by
  unfold State.captureSteps
  simp only [outbound, live]

theorem State.captureSteps_untargeted (outbound : (s.lane l).passage = some .outbound)
    (untargeted : (s.lane l).target = none) : s.captureSteps l = [.commit true] := by
  unfold State.captureSteps
  simp only [outbound, State.liveTarget_none untargeted]

theorem State.numberReady_iff : s.numberReady = true ↔ ∃ k, s.counter = .valid k := by
  unfold State.numberReady
  cases s.counter <;> simp [TicketCounter.take]

theorem State.netCheck_inbound {x : Vehicle} {t : Nat} (inbound : (s.lane l).passage = some .inbound)
    (vehicle : (s.lane l).vehicle = some x) (tare : x.storedTare = some t) :
    s.checkFails l r w .netCheck = if w.kg < t then some .negativeNet else none := by
  simp only [State.checkFails, inbound, vehicle, tare, Option.bind_eq_bind, Option.bind_some, Option.pure_def, Option.any_some, decide_eq_true_eq]

theorem State.netCheck_outbound {g : Weight} (outbound : (s.lane l).passage = some .outbound) (live : s.liveTarget l = some v)
    (gross : v.gross = some g) :
    s.checkFails l r w .netCheck = if g.kg - w.kg < 0 then some .negativeNet else none := by
  simp only [State.checkFails, outbound, live, gross, Option.any_some, decide_eq_true_eq]

theorem State.inspect_fails {x : Vehicle} {c : CategoryNo} (vehicle : (s.lane l).vehicle = some x)
    (category : x.category = some c) :
    s.checkFails l r w .inspect = if (s.category c).inspect = true then some .inspect else none := by
  simp only [State.checkFails, vehicle, category, Option.any_some]

theorem State.numberCheck_fails : s.checkFails l r w .numberCheck = if s.numberReady then none else some .noTicketNumber := rfl

theorem State.tareCheck_fails {t : Nat} {e : DeckRecord} (live : s.liveTarget l = some v) (tare : v.storedTare = some t)
    (loaded : (s.deck r.deck).record = some e) : s.checkFails l r w .tareCheck =
      if (w.kg - t).natAbs ≤ r.tareTolerance * e.division then none else some .tareMismatch := by
  have division : s.division r.deck = e.division := by
    unfold State.division
    rw [loaded]
    rfl
  simp only [State.checkFails, live, tare, division, Option.bind_eq_bind, Option.bind_some, Option.pure_def, Option.any_some,
    decide_eq_true_eq]

/-- A step that finds the target visit gone, check or commit, goes on without it. -/
theorem runSteps_gone (gone : s.findsGone l = true) (why : LaneReason) (x : CaptureStep) (steps : List CaptureStep) :
    runSteps l r w why (x :: steps) s = (s.targetGone l).enterReleasing l why := by
  cases x with
  | commit pass => exact (runSteps_commit ..).trans (if_pos gone)
  | netCheck | inspect | numberCheck | tareCheck => exact (runSteps_check l r w why (by simp) steps s).trans (if_pos gone)

theorem runSteps_commits (there : s.findsGone l = false) (why : LaneReason) (pass : Bool) (steps : List CaptureStep) :
    runSteps l r w why (.commit pass :: steps) s = (s.commitCapture l w pass).enterReleasing l why :=
  (runSteps_commit ..).trans (if_neg (by rw [there]; decide))

theorem runSteps_checks (there : s.findsGone l = false) (why : LaneReason) {x : CaptureStep} (check : ∀ pass, x ≠ .commit pass)
    (steps : List CaptureStep) : runSteps l r w why (x :: steps) s =
      (s.checkFails l r w x).elim (runSteps l r w why steps s) (s.refer l) :=
  (runSteps_check l r w why check steps s).trans (if_neg (by rw [there]; decide))

theorem State.targetGone_room (room : s.RoomForReport) : s.targetGone l =
    (s.setLane l { s.lane l with target := none, noVisit := true }).reported
      (.visitGone l ((s.lane l).vehicle.map Vehicle.ident)) :=
  State.post_room (s := s.setLane l _) room _

theorem State.resumeCapture_captured (captured : (s.lane l).captured = some w) (steps : List CaptureStep) :
    s.resumeCapture l r steps = runSteps l r w (.event .officeReleases) steps s := by
  unfold State.resumeCapture
  rw [captured]

/-! ## The requests RETRY and RELEASE (R75, R77) -/

theorem retryLane_bad {m : Nat} (unnamed : s.referredLane m = none) : retryLane m s = refuse s .bad := by
  simp only [retryLane, unnamed]

theorem retryLane_named {m : Nat} {why : ReferralReason} (named : s.referredLane m = some (l, r, why)) : retryLane m s =
    if why = .noStable then accept (s.enterWeighing l (.event .officeRetries)) .none else refuse s .bad := by
  simp only [retryLane, named]

theorem releaseLane_bad {m : Nat} (unnamed : s.referredLane m = none) : releaseLane m s = refuse s .bad := by
  simp only [releaseLane, unnamed]

theorem State.referredLane_unreasoned (unreasoned : (s.lane l).reason = none) : s.referredLane (l.val + 1) = none := by
  simp only [State.referredLane, laneOf_succ, unreasoned]
  split
  · contradiction
  · rfl

/-- Before entry there is nothing to release; after it the reason says where the passage goes on. -/
theorem releaseLane_named {m : Nat} {why : ReferralReason} (named : s.referredLane m = some (l, r, why)) :
    (why.beforeEntry = true → releaseLane m s = refuse s .bad)
    ∧ (why = .entryIncomplete → releaseLane m s = accept (s.releaseEntry l) .none)
    ∧ (why = .noStable → releaseLane m s = accept (s.releaseUnweighed l) .none)
    ∧ (why = .inspect → releaseLane m s = accept (s.resumeCapture l r (stepsAfter .inspect (s.captureSteps l))) .none)
    ∧ (why = .negativeNet → releaseLane m s =
      accept ((s.setLane l { s.lane l with negativeReleased := true }).resumeCapture l r
        (stepsAfter .netCheck (s.captureSteps l))) .none)
    ∧ (why = .tareMismatch → releaseLane m s = accept (s.resumeCapture l r [.commit false]) .none)
    ∧ (why = .noTicketNumber → releaseLane m s =
      if s.numberStillMissing l then refuse s .busy else accept (s.resumeCapture l r [.numberCheck, .commit true]) .none) := by
  simp only [releaseLane, named]
  refine ⟨fun before => ?_, ?_, ?_, ?_, ?_, ?_, ?_⟩
  · cases why with
    | noIdent | unknown | status | alreadyInYard | category | yardFull | notInYard | deckFault => rfl
    | entryIncomplete | noStable | inspect | negativeNet | tareMismatch | noTicketNumber => cases before
  all_goals
    rintro rfl
    rfl

/-- The entry a RELEASE makes begins its closing phase and tests its end at once (log entry 20). -/
theorem State.releaseEntry_eq (record : s.laneRecord l = some r) : s.releaseEntry l =
    (((s.enterLane l .entering (.event .officeReleases)).setLane l
      { (s.enterLane l .entering (.event .officeReleases)).lane l with closing := true, timer := none }).askBarrier l .entry
        .lower).positionTold l := by
  refine State.closingTest_positionTold ?_
  rw [State.askBarrier_plantLanes, State.updateLane, State.lane_setLane_self, State.enterLane_lane record, if_pos rfl]
  rfl

/-- The exit without a weight, once the reservation is freed. -/
theorem State.releaseUnweighed_eq {u : State} (freed : s.freeReservation l = u) (room : u.RoomForReport) :
    s.releaseUnweighed l =
      ((u.reported (.noStable l ((s.lane l).vehicle.map Vehicle.ident))).enterLane l .releasing
        (.event .officeReleases)).askBarrier l .exit .raise := by
  unfold State.releaseUnweighed
  rw [freed, State.post_room room]
  rfl

theorem State.freeReservation_some {u : State} (held : (s.lane l).reservation = some k) (freed : s.freeVisit l k = u)
    (lanes : u.lane l = s.lane l) : s.freeReservation l = u.setLane l { s.lane l with reservation := none } := by
  unfold State.freeReservation
  rw [held]
  dsimp only
  rw [freed, State.updateLane, lanes]

theorem State.freeVisit_reserved (found : s.visit k = some v) (reserved : v.state = .reserved) (own : v.entryLane = l) :
    s.freeVisit l k = s.removeVisit k := by
  unfold State.freeVisit
  rw [found]
  exact if_pos ⟨reserved, own⟩

theorem State.freeVisit_kept (other : ∀ v, s.visit k = some v → v.state ≠ .reserved ∨ v.entryLane ≠ l) : s.freeVisit l k = s := by
  unfold State.freeVisit
  split
  next => rfl
  next v found =>
    refine if_neg fun both => ?_
    obtain state | lane := other v found
    · exact state both.1
    · exact lane both.2

end

end Sys2Proof.Machine

namespace Sys2Proof.Settled
open Machine

/-- Settles O34: when a lane captures, what its steps and checks do, and the two requests by the referral reason. -/
theorem releaseAndRetry : Obligations.ReleaseAndRetry := by
  refine ⟨fun s l r record => ?captures, fun s l => ?steps, fun s l r w => ?checks, fun s l r w why steps => ?runs,
    fun s h rest => ⟨fun hd => ⟨fun m outside => exec_served rfl hd (retryLane_bad (State.referredLane_outside outside)) rfl,
      fun l r record => ?retry⟩, fun hd =>
      ⟨fun m outside => exec_served rfl hd (releaseLane_bad (State.referredLane_outside outside)) rfl,
        fun l r record => ⟨fun other => exec_served rfl hd (releaseLane_bad (State.referredLane_other other)) rfl,
          fun why referred reason => ?release⟩⟩⟩⟩
  case captures =>
    intro reading ready
    refine ⟨fun waits => State.tryCapture_waits record waits, fun x captures room => ?_⟩
    intro c t
    have frozen : (s.setLane l { s.lane l with captured := some c, negativeReleased := false, timer := none }).post
        (.capture l ((s.lane l).vehicle.map Vehicle.ident) (s.lane l).passage c) = t := State.post_room (s := s.setLane l _) room _
    rw [State.tryCapture_captures record captures, ← frozen]
    unfold State.capture State.updateLane
    dsimp only
    simp only [State.lane_setLane_self]
    rfl
  case steps =>
    refine ⟨fun v inbound vehicle => ?_, fun k v outbound target found => ?_, State.captureSteps_untargeted, fun x steps =>
      ⟨if_pos rfl, fun y other => if_neg fun same => other same.symm⟩⟩
    · have which := State.captureSteps_inbound inbound vehicle
      exact ⟨fun each => which.trans (if_pos each), fun stored => which.trans (if_neg stored)⟩
    · refine ⟨fun isOpen => ?_, fun ticketed => ?_⟩
      · rw [State.captureSteps_outbound outbound (State.liveTarget_some target found ((out_iff _).2 (.inl isOpen))), if_pos isOpen]
      · rw [State.captureSteps_outbound outbound (State.liveTarget_some target found ((out_iff _).2 (.inr ticketed))),
          if_neg (by rw [ticketed]; decide)]
  case checks =>
    refine ⟨fun v t inbound vehicle tare => State.netCheck_inbound inbound vehicle tare,
      fun v c vehicle category => State.inspect_fails vehicle category,
      fun valid => State.numberCheck_fails.trans (if_pos (State.numberReady_iff.2 valid)),
      fun none_ => State.numberCheck_fails.trans (if_neg (mt State.numberReady_iff.1 (not_exists.2 none_))),
      fun k v outbound target found => ⟨fun g isOpen gross => ?_, fun t e ticketed tare loaded => ?_⟩⟩
    · exact State.netCheck_outbound outbound (State.liveTarget_some target found ((out_iff _).2 (.inl isOpen))) gross
    · exact State.tareCheck_fails (State.liveTarget_some target found ((out_iff _).2 (.inr ticketed))) tare loaded
  case runs =>
    refine ⟨State.findsGone_iff, fun x gone room => ?_, fun present => ?_⟩
    · rw [runSteps_gone (State.findsGone_iff.2 gone), State.targetGone_room room]
      rfl
    · have there : s.findsGone l = false := eq_false_of_ne_true (mt State.findsGone_iff.1 present)
      refine ⟨fun pass => runSteps_commits there why pass steps, fun x check => ?_⟩
      have checks := runSteps_checks (r := r) (w := w) there why (x := x)
        (by rintro pass rfl; simp at check) steps
      exact ⟨fun y fails => checks.trans (by rw [fails]; rfl), fun passes => checks.trans (by rw [passes]; rfl)⟩
  case retry =>
    refine ⟨fun not => ?_, fun referred reason => ?_⟩
    · by_cases referred : (s.lane l).state = .referred
      · have other := not.resolve_left (not_not_intro referred)
        cases reason : (s.lane l).reason with
        | none => exact exec_served rfl hd (retryLane_bad (State.referredLane_unreasoned reason)) rfl
        | some why =>
          refine exec_served rfl hd ((retryLane_named (State.referredLane_succ record referred reason)).trans (if_neg ?_)) rfl
          exact fun same => other (reason.trans (congrArg some same))
      · exact exec_served rfl hd (retryLane_bad (State.referredLane_other referred)) rfl
    · exact exec_served rfl hd ((retryLane_named (State.referredLane_succ record referred reason)).trans (if_pos rfl))
        (State.buffer_of_fixed (s.enterWeighing_fixed ..))
  case release =>
    obtain ⟨before, entry, unweighed, inspect, negative, mismatch, number⟩ :=
      releaseLane_named (State.referredLane_succ record referred reason)
    have answered {t u : State} (accepts : releaseLane (l.val + 1) s = accept t .none) (same : t = u) (kept : t.fixed = s.fixed) :
        exec (.releaseLane (.fits (l.val + 1))) s = .next (u.replied h rest .ok .none) :=
      same ▸ exec_served rfl hd accepts (State.buffer_of_fixed kept)
    refine ⟨fun early => exec_served rfl hd (before early) rfl,
      fun incomplete => answered (entry incomplete) (State.releaseEntry_eq record) (s.releaseEntry_fixed l),
      fun noStable room unreserved => answered (unweighed noStable)
        (State.releaseUnweighed_eq (State.freeReservation_none unreserved) room) (s.releaseUnweighed_fixed l),
      fun k noStable room held => ?_, fun noNumber there missing => ?_, fun w captured there => ⟨fun why => ?_, fun why => ?_,
        fun why => ?_, fun valid why => ?_⟩⟩
    · intro freed released
      refine ⟨?_, fun other => ?_⟩
      · rintro ⟨v, found, reserved, own⟩
        exact answered (unweighed noStable) (State.releaseUnweighed_eq (u := { freed with visits := s.visits.filter fun x => x.key != k })
          (State.freeReservation_some held (State.freeVisit_reserved found reserved own) rfl) room)
          (s.releaseUnweighed_fixed l)
      · exact answered (unweighed noStable) (State.releaseUnweighed_eq (u := freed)
          (State.freeReservation_some held (State.freeVisit_kept other) rfl) room)
          (s.releaseUnweighed_fixed l)
    · refine exec_served rfl hd ((number noNumber).trans (if_pos ?_)) rfl
      rw [State.numberStillMissing, there, eq_false_of_ne_true (mt State.numberReady_iff.1 (not_exists.2 missing))]
      rfl
    · exact answered (inspect why) (State.resumeCapture_captured captured _) (s.resumeCapture_fixed ..)
    · exact answered (mismatch why) ((State.resumeCapture_captured captured _).trans (runSteps_commits there _ _ _))
        (s.resumeCapture_fixed ..)
    · exact answered (negative why) (State.resumeCapture_captured (by rw [State.lane_setLane_self]; exact captured) _)
        ((State.resumeCapture_fixed ..).trans rfl)
    · have ready := State.numberReady_iff.2 valid
      refine answered ((number why).trans (if_neg ?_)) ?_ (s.resumeCapture_fixed l r [.numberCheck, .commit true])
      · rw [State.numberStillMissing, ready, Bool.not_true, Bool.and_false]
        decide
      · rw [State.resumeCapture_captured captured, runSteps_checks there _ (by simp), State.numberCheck_fails, if_pos ready]
        exact runSteps_commits (r := r) there _ true []

end Sys2Proof.Settled

/-! PROOFS. A slot that becomes ALIVE or SILENT, and what the loss of its station does. -/

namespace Sys2Proof.Machine

section
variable {s : State} {n : StationId}

/-! ## A station without a role, and the lanes that name a station (R80, R147) -/

theorem State.laneOfTerminal_record {l : LaneId} (lane : s.laneOfTerminal n = some l) :
    ∃ r, s.laneRecord l = some r ∧ r.terminal = n := by
  obtain ⟨r, record, terminal⟩ := (mem_lanesWhere ..).1 (List.mem_of_head? lane)
  exact ⟨r, record, beq_iff_eq.1 terminal⟩

/-- A station has no role when no deck and no lane names it. -/
theorem State.role_none (roleless : s.role n = none) : s.deckOfDigitizer n = none
    ∧ (s.lanesWhere fun r => r.namesBarrier n) = [] ∧ s.laneOfReader n = none ∧ s.laneOfTerminal n = none := by
  unfold State.role at roleless
  split at roleless
  · cases roleless
  next digitizer =>
    split at roleless
    · cases roleless
    next barrier =>
      split at roleless
      · cases roleless
      next reader =>
        have terminal : s.laneOfTerminal n = none := by
          rw [Option.eq_none_iff_forall_ne_some]
          intro l lane
          obtain ⟨r, record, -⟩ := State.laneOfTerminal_record lane
          rw [lane, Option.bind_some, record] at roleless
          cases roleless
        exact ⟨by simpa using digitizer, by simpa using barrier, by simpa using reader, terminal⟩

theorem LaneRecord.names_iff (r : LaneRecord) : r.names n = true ↔
    (r.entryBarrier = n ∨ r.exitBarrier = n ∨ r.terminal = n ∨ r.reader = some n) := by
  simp [LaneRecord.names, LaneRecord.namesBarrier, or_assoc]

theorem State.lanesOfStation_eq (s : State) (n : StationId) : s.lanesOfStation n =
    allLanes.filter fun l => decide (∃ r, s.laneRecord l = some r ∧
      (r.entryBarrier = n ∨ r.exitBarrier = n ∨ r.terminal = n ∨ r.reader = some n)) := by
  refine List.filter_congr fun l _ => ?_
  rw [← Bool.coe_iff_coe, Option.any_eq_true, decide_eq_true_iff]
  simp only [LaneRecord.names_iff]

theorem State.lanesOfStation_roleless (roleless : s.role n = none) : s.lanesOfStation n = [] := by
  obtain ⟨-, barriers, readers, terminals⟩ := State.role_none roleless
  have none_ {p : LaneRecord → Bool} {l : LaneId} {r : LaneRecord} (empty : s.lanesWhere p = []) (record : s.laneRecord l = some r) :
      p r ≠ true := fun holds => by
    have listed := (mem_lanesWhere s p l).2 ⟨r, record, holds⟩
    rw [empty] at listed
    cases listed
  rw [State.lanesOfStation, List.eq_nil_iff_forall_not_mem]
  intro l named
  obtain ⟨r, record, names⟩ := (mem_lanesWhere ..).1 named
  rw [LaneRecord.names, Bool.or_eq_true, Bool.or_eq_true] at names
  obtain (barrier | terminal) | reader := names
  · exact none_ barriers record barrier
  · exact none_ (List.head?_eq_none_iff.1 terminals) record terminal
  · exact none_ (List.head?_eq_none_iff.1 readers) record reader

/-! ## The loss of an ENROLLED station (R170, R177) -/

/-- An ENROLLED station becomes LOST with its report and drops its forward with another. -/
def State.reportedLost (s : State) (n : StationId) (restarted : Bool) : State :=
  let a : State := (s.setStation n
    { s.station n with state := .lost, wasLost := true, pages := [], window := 0, forward := none }).reported (.lost n restarted)
  if (s.station n).forward = none then a else a.reported (.messageDropped n .displayText)

/-- The ticket queue of the lane whose terminal it is, if any, is then flushed and its channels are reset. -/
def State.channelsReset (s : State) (n : StationId) (lane : Option LaneId) : State :=
  let c : State := match lane with
    | none => s
    | some l => s.flushQueue l .terminalLost
  c.setStation n { c.station n with
    receive := { phase := .idle, answer := .none, candidate := none, lastTaken := none, stale := 0 }
    send := { (c.station n).send with
      phase := .idle, message := none, timer := 0, gap := 0, noneSeen := false, waiting := none, noneHeard := 0 } }

theorem State.reportedLost_unforwarded (unforwarded : (s.station n).forward = none) (restarted : Bool) :
    s.reportedLost n restarted =
      (s.setStation n { s.station n with state := .lost, wasLost := true, pages := [], window := 0 }).reported
        (.lost n restarted) :=
  (if_pos unforwarded).trans (congrArg (fun f => (s.setStation n
    { s.station n with state := .lost, wasLost := true, pages := [], window := 0, forward := f }).reported (.lost n restarted))
    unforwarded.symm)

theorem State.dropForward_lost (restarted : Bool) (room : s.reports.length < 31) :
    ((s.setStation n { s.station n with state := .lost, wasLost := true, pages := [], window := 0 }).post
      (.lost n restarted)).dropForward n = s.reportedLost n restarted := by
  have first : s.RoomForReport := Nat.lt_succ_of_lt room
  rw [State.post_room (s := s.setStation n _) first]
  have here (x : Station) : ((s.setStation n x).reported (.lost n restarted)).station n = x := State.station_setStation_self ..
  unfold State.dropForward
  rw [here]
  cases held : (s.station n).forward with
  | none =>
    exact (State.reportedLost_unforwarded held restarted).symm
  | some x =>
    have again (y z : Station) : ((s.setStation n y).reported (.lost n restarted)).setStation n z =
        (s.setStation n z).reported (.lost n restarted) :=
      congrArg (fun t : State => t.reported (.lost n restarted)) (s.setStation_setStation n y z)
    dsimp only
    rw [held, State.updateStation, here, again]
    refine (State.post_room (s := (s.setStation n _).reported _) ?_ _).trans (if_neg (by rw [held]; simp)).symm
    unfold State.RoomForReport State.reported
    rw [List.length_append]
    exact Nat.succ_lt_succ room

theorem State.terminalLost_reset : (s.terminalLost n).updateStation n Station.channelsLost =
    s.channelsReset n (s.laneOfTerminal n) := by
  unfold State.terminalLost State.channelsReset
  cases s.laneOfTerminal n <;> rfl

theorem State.enrolledLost_eq (restarted : Bool) (room : s.reports.length < 31) : s.enrolledLost n restarted =
    ((((s.reportedLost n restarted).channelsReset n (s.laneOfTerminal n)).deckLost n).barrierLost n).lanesSeeLost n := by
  have lane : (s.reportedLost n restarted).laneOfTerminal n = s.laneOfTerminal n := by
    unfold State.reportedLost
    dsimp only
    split <;> rfl
  unfold State.enrolledLost
  rw [← lane, ← State.terminalLost_reset, ← State.dropForward_lost restarted room]
  rfl

/-- With no role there is no deck, no barrier record and no lane to be told. -/
theorem State.told_roleless (roleless : s.role n = none) (unrecorded : s.barrier n = none) :
    ((s.deckLost n).barrierLost n).lanesSeeLost n = s := by
  obtain ⟨digitizer, -, -, terminal⟩ := State.role_none roleless
  have deck : s.deckLost n = s := by
    unfold State.deckLost
    rw [digitizer]
  have barrier : s.barrierLost n = s := by
    unfold State.barrierLost
    rw [unrecorded]
  rw [deck, barrier, State.lanesSeeLost, State.lanesOfStation_roleless roleless, State.presenceLost, terminal]
  rfl

theorem State.enrolledLost_roleless (roleless : s.role n = none) (unrecorded : s.barrier n = none)
    (unforwarded : (s.station n).forward = none) (room : s.RoomForReport) (restarted : Bool) : s.enrolledLost n restarted =
      (s.setStation n { (s.station n).channelsLost with state := .lost, wasLost := true, pages := [], window := 0 }).reported
        (.lost n restarted) := by
  have here (x : Station) : ((s.setStation n x).reported (.lost n restarted)).station n = x := State.station_setStation_self ..
  have again (y z : Station) : ((s.setStation n y).reported (.lost n restarted)).setStation n z =
      (s.setStation n z).reported (.lost n restarted) :=
    congrArg (fun t : State => t.reported (.lost n restarted)) (s.setStation_setStation n y z)
  obtain ⟨-, -, -, terminal⟩ := State.role_none roleless
  have forward (x : Station) (dropped : x.forward = none) :
      ((s.setStation n x).reported (.lost n restarted)).dropForward n = (s.setStation n x).reported (.lost n restarted) := by
    unfold State.dropForward
    rw [here, dropped]
  have queue (x : Station) :
      ((s.setStation n x).reported (.lost n restarted)).terminalLost n = (s.setStation n x).reported (.lost n restarted) := by
    have lane : ((s.setStation n x).reported (.lost n restarted)).laneOfTerminal n = none := terminal
    unfold State.terminalLost
    rw [lane]
  have posted : (s.updateStation n fun x => { x with state := .lost, wasLost := true, pages := [], window := 0 }).post
      (.lost n restarted) = (s.setStation n { s.station n with state := .lost, wasLost := true, pages := [], window := 0 }).reported
        (.lost n restarted) := State.post_room (s := s.setStation n _) room _
  unfold State.enrolledLost
  dsimp only
  rw [posted, forward { s.station n with state := .lost, wasLost := true, pages := [], window := 0 } unforwarded, queue, State.updateStation, here, again]
  exact State.told_roleless (s := (s.setStation n _).reported _) roleless unrecorded

/-! ## The change of presence itself (R142, R143) -/

theorem State.slotAlive_due (silent : (s.slot n).alive = false) (good : (s.slot n).goodRun = 3) : s.slotAlive n =
    (s.setSlot n { s.slot n with alive := true }).stationAlive n :=
  if_pos (by rw [LoopSlot.aliveDue, silent, good]; decide)

theorem State.slotSilent_due (alive : (s.slot n).alive = true) (bad : (s.slot n).badRun = 6) : s.slotSilent n =
    (s.setSlot n { s.slot n with alive := false, taken := none, lastCode := none }).stationSilent n :=
  if_pos (by rw [LoopSlot.silentDue, alive, bad]; decide)

theorem State.stationAlive_attempts (away : (s.station n).state = .silent ∨ (s.station n).state = .lost) :
    s.stationAlive n = s.setStation n { s.station n with state := .alive, window := 0, pages := [] } := by
  unfold State.stationAlive
  obtain state | state := away <;> (rw [state]; rfl)

theorem State.stationSilent_silenced
    (there : (s.station n).state = .alive ∨ (s.station n).state = .enrolling ∨ (s.station n).state = .rejected) :
    s.stationSilent n = s.setStation n (s.station n).silenced := by
  unfold State.stationSilent
  obtain state | state | state := there <;> (rw [state]; rfl)

theorem State.stationSilent_enrolled (enrolled : (s.station n).state = .enrolled) :
    s.stationSilent n = s.enrolledLost n false := by
  unfold State.stationSilent
  rw [enrolled]

/-- The deck of a lost digitizer goes WAITING with its window cleared, and its lanes are told (R33). -/
theorem State.deckLost_waiting {d : DeckId} (digitizer : s.deckOfDigitizer n = some d)
    (configured : (s.deck d).state ≠ .unconfigured) (runs : (s.deck d).state ≠ .waiting) :
    s.deckLost n = ((s.setDeck d { (s.deck d).windowCleared (s.excited d) with judged := .invalid }).enterDeckState d
      .waiting).deckTold d := by
  have lost : s.digitizerLost n =
      (s.setDeck d { (s.deck d).windowCleared (s.excited d) with judged := .invalid }).enterDeckState d .waiting := by
    unfold State.digitizerLost
    rw [digitizer]
    exact if_neg (not_or.2 ⟨configured, runs⟩)
  unfold State.deckLost
  rw [digitizer]
  dsimp only
  rw [lost]

theorem State.lanesSeeLost_eq : s.lanesSeeLost n = (allLanes.filter fun l => decide (∃ r, s.laneRecord l = some r ∧
      (r.entryBarrier = n ∨ r.exitBarrier = n ∨ r.terminal = n ∨ r.reader = some n))).foldl
    (fun t l => t.laneFault l (.stationLost n)) (s.presenceLost n) := by
  rw [← State.lanesOfStation_eq]
  rfl

end

end Sys2Proof.Machine

namespace Sys2Proof.Settled
open Machine

/-- Settles O8: a slot's change of presence, the loss of its station, and what its deck and lanes make of it. -/
theorem slotPresenceChanges : Obligations.SlotPresenceChanges := by
  refine fun s n => ⟨fun silent good away => ?_, fun alive bad => ⟨fun there => ?_, fun enrolled roleless unrecorded kept room => ?_,
      fun enrolled room => ?_⟩, fun d digitizer configured runs => State.deckLost_waiting digitizer configured runs, ?_⟩
  · refine congrArg Host.Outcome.next ((State.slotAlive_due silent good).trans ?_)
    exact State.stationAlive_attempts (s := s.setSlot n _) away
  · refine congrArg Host.Outcome.next ((State.slotSilent_due alive bad).trans ?_)
    exact State.stationSilent_silenced (s := s.setSlot n _) there
  · refine congrArg Host.Outcome.next ((State.slotSilent_due alive bad).trans ?_)
    rw [State.stationSilent_enrolled (s := s.setSlot n _) enrolled]
    exact State.enrolledLost_roleless (s := s.setSlot n _) roleless unrecorded kept room false
  · refine congrArg Host.Outcome.next ((State.slotSilent_due alive bad).trans ?_)
    rw [State.stationSilent_enrolled (s := s.setSlot n _) enrolled, State.enrolledLost_eq (s := s.setSlot n _) false room]
    rfl
  · rw [State.lanesSeeLost_eq, State.presenceLost]
    cases s.laneOfTerminal n <;> rfl

end Sys2Proof.Settled

/-! PROOFS. Ticket queues flushed: the jobs that leave them, the visits they close and the reports of both. -/

namespace Sys2Proof.Machine

section
variable {s t u : State} {k : Nat} {o : PrintOutcome}

/-! ## The outcome of a job in its visit (R133, R134) -/

/-- The record of a visit with the outcome of its ticket: one that was CLOSING closes. -/
def Visit.settled (o : PrintOutcome) (now : Option Nat) (v : Visit) : Visit :=
  if v.state = .closing then { v with outcome := some o, state := .closed, closeTime := now } else { v with outcome := some o }

theorem Visit.settled_closing {v : Visit} (closing : v.state = .closing) (o : PrintOutcome) (now : Option Nat) :
    v.settled o now = { v with outcome := some o, state := .closed, closeTime := now } := if_pos closing

theorem Visit.settled_settled (o : PrintOutcome) (now : Option Nat) (v : Visit) :
    (v.settled o now).settled o now = v.settled o now := by
  unfold Visit.settled
  by_cases closing : v.state = .closing <;> simp [closing]

theorem State.updateVisit_missing (missing : s.visit k = none) (f : Visit → Visit) : s.updateVisit k f = s := by
  have others : s.visits.map (fun v => if v.key = k then f v else v) = s.visits := by
    refine (List.map_congr_left fun x mem => if_neg ?_).trans s.visits.map_id'
    simpa using List.find?_eq_none.1 missing x mem
  unfold State.updateVisit
  rw [others]

theorem State.visit_updateVisit_other {m : Nat} (other : m ≠ k) {f : Visit → Visit} (key : ∀ x, (f x).key = x.key) :
    (s.updateVisit k f).visit m = s.visit m := by
  unfold State.updateVisit State.visit
  dsimp only
  induction s.visits with
  | nil => rfl
  | cons x xs ih =>
    rw [List.map_cons, List.find?_cons, List.find?_cons, ih]
    by_cases named : x.key = k
    · have differs : (x.key == m) = false := beq_false_of_ne (named ▸ other.symm)
      rw [if_pos named, key, differs]
    · rw [if_neg named]

/-- An outcome settles the visit its job's link names, and posts VISIT-CLOSED when it was CLOSING. -/
theorem State.writeOutcome_settles (settles : o ≠ .pending) (k : Nat) : ∃ bs : List ReportBody, bs.length ≤ 1
    ∧ s.writeOutcome k o = ({ s with visits := (s.writeOutcome k o).visits } : State).posted bs
    ∧ (∀ m, (s.writeOutcome k o).visitPosition m = s.visitPosition m)
    ∧ (∀ m, (s.writeOutcome k o).visit m = if m = k then (s.visit m).map (Visit.settled o s.now) else s.visit m)
    ∧ ∀ v, s.visit k = some v → v.state = .closing → .visitClosed (s.visitPosition k) (v.settled o s.now) ∈ bs := by
  have spread {w : State} {f : Visit → Visit} (key : ∀ x, (f x).key = x.key) (visits : w.visits = (s.updateVisit k f).visits)
      (own : ∀ v, s.visit k = some v → f v = v.settled o s.now) (m : Nat) :
      w.visit m = if m = k then (s.visit m).map (Visit.settled o s.now) else s.visit m := by
    rw [State.visit, visits, ← State.visit]
    by_cases same : m = k
    · subst same
      rw [if_pos rfl]
      cases found : s.visit m with
      | none => rw [State.updateVisit_missing found, found, Option.map_none]
      | some v => rw [State.visit_updateVisit found _ key, own v found, Option.map_some]
    · rw [if_neg same, State.visit_updateVisit_other same key]
  cases found : s.visit k with
  | none =>
    have same : s.writeOutcome k o = s := by
      unfold State.writeOutcome
      rw [State.updateVisit_missing found]
      dsimp only
      rw [found]
    rw [same]
    refine ⟨[], Nat.zero_le 1, rfl, fun _ => rfl, spread (f := id) (fun _ => rfl) ?_ ?_, ?_⟩
    · rw [State.updateVisit_missing found]
    · intro v there
      rw [found] at there
      cases there
    · intro v there
      cases there
  | some v =>
    by_cases closing : v.state = .closing
    · rw [State.writeOutcome_closes found closing settles]
      refine ⟨[.visitClosed (s.visitPosition k) (v.settled o s.now)], Nat.le_refl 1, ?_, fun m => ?_,
        spread (f := fun x => { x with outcome := some o, state := .closed, closeTime := s.now }) (fun _ => rfl)
          (State.post_visits ..) ?_, ?_⟩
      · rw [Visit.settled_closing closing, State.post_visits]
        rfl
      · rw [State.visitPosition_post]
        exact State.visitPosition_updateVisit (fun x => { x with outcome := some o, state := .closed, closeTime := s.now })
          (fun _ => rfl) m
      · intro w there
        cases found.symm.trans there
        exact (Visit.settled_closing closing ..).symm
      · intro w same _
        cases same
        exact List.mem_singleton.2 rfl
    · rw [State.writeOutcome_stays found closing]
      refine ⟨[], Nat.zero_le 1, rfl, State.visitPosition_updateVisit _ fun _ => rfl,
        spread (f := fun x => { x with outcome := some o }) (fun _ => rfl) rfl ?_, ?_⟩
      · intro w there
        cases found.symm.trans there
        exact (if_neg closing).symm
      · intro w same closes
        cases same
        exact absurd closes closing

/-! ## Jobs that leave their queues (R134, R136) -/

/-- Each job of a queue with the number of jobs behind it. -/
def leaving : List TicketJob → List (TicketJob × Nat)
  | [] => []
  | j :: jobs => (j, jobs.length) :: leaving jobs

theorem leaving_length (jobs : List TicketJob) : (leaving jobs).length = jobs.length := by
  induction jobs with
  | nil => rfl
  | cons j jobs ih => rw [leaving, List.length_cons, ih, List.length_cons]

theorem mem_leaving_split (before : List TicketJob) (j : TicketJob) (after : List TicketJob) :
    (j, after.length) ∈ leaving (before ++ j :: after) := by
  induction before with
  | nil => exact List.mem_cons_self
  | cons x xs ih => exact List.mem_cons_of_mem _ ih

theorem mem_leaving {j : TicketJob} {jobs : List TicketJob} (mem : j ∈ jobs) : ∃ n, (j, n) ∈ leaving jobs := by
  obtain ⟨before, after, rfl⟩ := List.append_of_mem mem
  exact ⟨_, mem_leaving_split before j after⟩

/-- From `s` to `t` the jobs `js` left their queues with the outcome `o`: their visits are settled, the reports of both stand
while there is room, and only queues, stations, visits and reports changed. -/
structure State.Leaves (o : PrintOutcome) (js : List (TicketJob × Nat)) (s t : State) : Prop where
  frame : t = { s with queues := t.queues, stations := t.stations, visits := t.visits, reports := t.reports,
                       dropped := t.dropped, overrun := t.overrun }
  position : ∀ m, t.visitPosition m = s.visitPosition m
  visit : ∀ m, t.visit m = if m ∈ js.map (fun j => j.1.visit) then (s.visit m).map (Visit.settled o s.now) else s.visit m
  reports : s.reports.length + 2 * js.length ≤ 32 → ∃ bs : List ReportBody, bs.length ≤ 2 * js.length
    ∧ t.reports = s.reports ++ bs.map (fun b => { body := b, stamp := s.now })
    ∧ (∀ j ∈ js, .ticketOutcome j.1.number j.1.lane j.1.terminal o j.2 ∈ bs)
    ∧ ∀ j ∈ js, ∀ v, s.visit j.1.visit = some v → v.state = .closing →
      .visitClosed (s.visitPosition j.1.visit) (v.settled o s.now) ∈ bs

theorem State.Leaves.now {js : List (TicketJob × Nat)} (h : s.Leaves o js t) : t.now = s.now := by
  have clock : t.clock = s.clock := by rw [h.frame]
  rw [State.now, clock, State.now]

/-- With no job to leave, queues and stations may change. -/
theorem State.Leaves.none (same : t = { s with queues := t.queues, stations := t.stations }) : s.Leaves o [] t where
  frame := by rw [same]
  position _ := by rw [same]; rfl
  visit _ := by rw [same]; rfl
  reports _ := ⟨[], Nat.le_refl 0, by rw [same, List.map_nil, List.append_nil], by simp, by simp⟩

theorem State.Leaves.trans {js ks : List (TicketJob × Nat)} (first : s.Leaves o js t) (second : t.Leaves o ks u) :
    s.Leaves o (js ++ ks) u where
  frame := by rw [second.frame, first.frame]
  position m := (second.position m).trans (first.position m)
  visit m := by
    have again (x : Option Visit) : (x.map (Visit.settled o s.now)).map (Visit.settled o s.now) = x.map (Visit.settled o s.now) := by
      cases x with
      | none => rfl
      | some v => exact congrArg some (Visit.settled_settled ..)
    rw [second.visit, first.visit, first.now]
    simp only [List.map_append, List.mem_append]
    by_cases here : m ∈ js.map fun j => j.1.visit
    · by_cases there : m ∈ ks.map fun j => j.1.visit
      · simp only [here, there, or_self, if_true, again]
      · simp only [here, there, true_or, if_true, if_false]
    · simp only [here, if_false, false_or]
  reports room := by
    rw [List.length_append] at room ⊢
    obtain ⟨bs, few, reports, outcomes, closes⟩ := first.reports (by omega)
    obtain ⟨cs, few', reports', outcomes', closes'⟩ := second.reports (by
      rw [reports, List.length_append, List.length_map]
      omega)
    refine ⟨bs ++ cs, by rw [List.length_append]; omega, ?_, fun j mem => ?_, fun j mem v found closing => ?_⟩
    · rw [reports', reports, first.now, List.map_append, List.append_assoc]
    · exact List.mem_append.2 ((List.mem_append.1 mem).imp (outcomes j) (outcomes' j))
    · by_cases here : j.1.visit ∈ js.map fun j => j.1.visit
      · obtain ⟨i, mem', same⟩ := List.mem_map.1 here
        rw [← same] at found ⊢
        exact List.mem_append_left _ (closes i mem' v found closing)
      · have later := (List.mem_append.1 mem).resolve_left fun mem => here (List.mem_map_of_mem mem)
        have kept : t.visit j.1.visit = some v := by rw [first.visit, if_neg here, found]
        have posted := closes' j later v kept closing
        rw [first.position, first.now] at posted
        exact List.mem_append_right _ posted

theorem State.jobLeaves_leaves {l : LaneId} {j : TicketJob} {jobs : List TicketJob} (settles : o ≠ .pending)
    (head : (s.queue l).jobs = j :: jobs) : s.Leaves o [(j, jobs.length)] (s.jobLeaves l o) := by
  let r : ReportBody := .ticketOutcome j.number j.lane j.terminal o jobs.length
  let q : State := (s.setQueue l { jobs := jobs, phase := .waiting }).post r
  have visits : q.visits = s.visits := State.post_visits ..
  have now : q.now = s.now := State.post_now ..
  obtain ⟨bs, few, written, position, visit, closes⟩ := State.writeOutcome_settles (s := q) settles j.visit
  rw [State.jobLeaves_eq head]
  refine ⟨?_, fun m => (position m).trans (State.visitPosition_post ..), fun m => (visit m).trans ?_, fun room => ?_⟩
  · have queued : q = { s with queues := q.queues, reports := q.reports, overrun := q.overrun, dropped := q.dropped } := by
      rw [show q = _ from State.post_eq ..]
      rfl
    rw [written, State.posted_eq, queued]
  · rw [State.visit, visits, ← State.visit, now]
    simp only [List.map_singleton, List.mem_singleton]
  · have room : s.reports.length + 2 ≤ 32 := room
    have first : q.reports = s.reports ++ [{ body := r, stamp := s.now }] :=
      congrArg State.reports (State.post_room (s := s.setQueue l _) (show s.reports.length < 32 by omega) r)
    have posted : (q.writeOutcome j.visit o).reports = q.reports ++ bs.map fun b => { body := b, stamp := q.now } := by
      rw [written]
      refine congrArg State.reports (State.posted_room (s := { q with visits := _ }) ?_)
      rw [show ({ q with visits := (q.writeOutcome j.visit o).visits } : State).reports = _ from first, List.length_append,
        List.length_singleton]
      omega
    refine ⟨r :: bs, Nat.succ_le_succ few, ?_, ?_, ?_⟩
    · exact posted.trans (by rw [first, now, List.append_assoc]; rfl)
    · intro i mem
      cases List.mem_singleton.1 mem
      exact List.mem_cons_self
    · intro i mem v found closing
      cases List.mem_singleton.1 mem
      have posts := closes v (by rw [State.visit, visits]; exact found) closing
      rw [State.visitPosition, visits, now] at posts
      exact List.mem_cons_of_mem _ posts

theorem State.writeOutcome_queues (settles : o ≠ .pending) :
    (s.writeOutcome k o).queues = s.queues ∧ (s.writeOutcome k o).stations = s.stations := by
  obtain ⟨bs, -, written, -⟩ := State.writeOutcome_settles (s := s) settles k
  rw [written, State.posted_eq]
  exact ⟨rfl, rfl⟩

section
variable {l : LaneId} {why : NotPrinted}

theorem State.jobLeaves_queues {j : TicketJob} {jobs : List TicketJob} (settles : o ≠ .pending)
    (head : (s.queue l).jobs = j :: jobs) : (s.jobLeaves l o).queues = s.queues.set l { jobs := jobs, phase := .waiting }
      ∧ (s.jobLeaves l o).stations = s.stations := by
  obtain ⟨queues, stations⟩ := State.writeOutcome_queues (s := (s.setQueue l { jobs := jobs, phase := .waiting }).post
    (.ticketOutcome j.number j.lane j.terminal o jobs.length)) (k := j.visit) settles
  rw [State.jobLeaves_eq head, queues, stations, State.post_queues, State.post_stations]
  exact ⟨rfl, rfl⟩

/-- All jobs of a queue leave it, head first. -/
theorem State.jobsLeave (settles : o ≠ .pending) {jobs : List TicketJob} (queued : (s.queue l).jobs = jobs) :
    s.Leaves o (leaving jobs) (forEach jobs (fun _ t => t.jobLeaves l o) s)
    ∧ (forEach jobs (fun _ t => t.jobLeaves l o) s).stations = s.stations
    ∧ ∀ m, (forEach jobs (fun _ t => t.jobLeaves l o) s).queue m =
      if m = l then (if jobs = [] then s.queue l else { jobs := [], phase := .waiting }) else s.queue m := by
  induction jobs generalizing s with
  | nil =>
    refine ⟨State.Leaves.none rfl, rfl, fun m => ?_⟩
    rw [forEach_nil, if_pos rfl]
    split
    next same => rw [same]
    next => rfl
  | cons j jobs ih =>
    obtain ⟨queues, stations⟩ := State.jobLeaves_queues settles queued
    have own (m : LaneId) : (s.jobLeaves l o).queue m = if m = l then { jobs := jobs, phase := .waiting } else s.queue m := by
      have set := State.queue_setQueue s l m { jobs := jobs, phase := .waiting }
      rw [State.queue, State.setQueue] at set
      rw [State.queue, queues, set]
      simp only [eq_comm]
    obtain ⟨rest, kept, left⟩ := ih (s := s.jobLeaves l o) (by rw [own, if_pos rfl])
    rw [forEach_cons]
    refine ⟨(State.jobLeaves_leaves settles queued).trans rest, kept.trans stations, fun m => ?_⟩
    rw [left, own, own, if_pos rfl, if_neg (List.cons_ne_nil j jobs)]
    split
    · split
      next none_ => rw [none_]
      next => rfl
    · rfl

/-! ## A queue flushed (R136, R137) -/

theorem State.flushQueue_empty (empty : (s.queue l).jobs = []) (why : NotPrinted) : s.flushQueue l why = s := by
  simp only [State.flushQueue, empty, forEach_nil]

theorem State.flushQueue_head {j : TicketJob} {jobs : List TicketJob} (head : (s.queue l).jobs = j :: jobs) (why : NotPrinted) :
    s.flushQueue l why =
      forEach (j :: jobs) (fun _ t => t.jobLeaves l (.notPrinted why)) (s.withdrawTicket j.terminal l) := by
  have kept : ((s.withdrawTicket j.terminal l).queue l).jobs = j :: jobs := head
  simp only [State.flushQueue, head, kept]

/-- The channel of a station sends no ticket of a lane. -/
def State.SendsNoTicket (n : StationId) (l : LaneId) (s : State) : Prop :=
  ∀ p, (s.station n).send.message = some p → p.msg.source ≠ .ticket l

theorem State.withdrawTicket_sends (n : StationId) (l m : LaneId) (x : StationId)
    (quiet : s.SendsNoTicket x m ∨ (x = n ∧ m = l)) : (s.withdrawTicket n l).SendsNoTicket x m := by
  intro p sends
  unfold State.withdrawTicket at sends
  rw [State.updateStation, State.station_setStation] at sends
  by_cases same : n = x
  · rw [if_pos same] at sends
    split at sends
    next => cases sends
    next other =>
      subst same
      obtain quiet | ⟨-, rfl⟩ := quiet
      · exact quiet p sends
      · rw [sends, Option.any_some, beq_iff_eq] at other
        exact other
  · rw [if_neg same] at sends
    obtain quiet | ⟨rfl, -⟩ := quiet
    · exact quiet p sends
    · exact absurd rfl same

/-- A flush lets all jobs of its queue leave, and withdraws the ticket being sent. -/
theorem State.flushQueue_leaves (s : State) (l : LaneId) (why : NotPrinted) :
    s.Leaves (.notPrinted why) (leaving (s.queue l).jobs) (s.flushQueue l why)
    ∧ (∀ m, (s.flushQueue l why).queue m =
      if m = l then (if (s.queue l).jobs = [] then s.queue l else { jobs := [], phase := .waiting }) else s.queue m)
    ∧ ∀ x m, (s.SendsNoTicket x m ∨ (m = l ∧ ∃ j jobs, (s.queue l).jobs = j :: jobs ∧ x = j.terminal)) →
      (s.flushQueue l why).SendsNoTicket x m := by
  cases jobs : (s.queue l).jobs with
  | nil =>
    rw [State.flushQueue_empty jobs]
    refine ⟨State.Leaves.none rfl, fun m => ?_, fun x m quiet => quiet.resolve_right ?_⟩
    · rw [if_pos rfl]
      split
      next same => rw [same]
      next => rfl
    · rintro ⟨-, j, rest, absent, -⟩
      cases absent
  | cons j rest =>
    rw [State.flushQueue_head jobs]
    obtain ⟨leaves, stations, queue⟩ := State.jobsLeave (s := s.withdrawTicket j.terminal l) (l := l) (o := .notPrinted why)
      (by simp) jobs
    have withdrawn : s.Leaves (.notPrinted why) [] (s.withdrawTicket j.terminal l) := State.Leaves.none rfl
    refine ⟨withdrawn.trans leaves, fun m => queue m, fun x m quiet => ?_⟩
    have sends := State.withdrawTicket_sends (s := s) j.terminal l m x (quiet.imp id (by
      rintro ⟨same, i, _, head, terminal⟩
      cases head
      exact ⟨terminal, same⟩))
    intro p message
    rw [State.station, stations] at message
    exact sends p message

/-- The flush of several queues. -/
theorem State.flushes_leave (why : NotPrinted) {ls : List LaneId} (nodup : ls.Nodup) (s : State) :
    s.Leaves (.notPrinted why) (ls.flatMap fun l => leaving (s.queue l).jobs) (forEach ls (fun l t => t.flushQueue l why) s)
    ∧ (∀ m, (forEach ls (fun l t => t.flushQueue l why) s).queue m =
      if m ∈ ls ∧ (s.queue m).jobs ≠ [] then { jobs := [], phase := .waiting } else s.queue m)
    ∧ ∀ l j jobs, (l ∈ ls ∧ (s.queue l).jobs = j :: jobs) ∨ s.SendsNoTicket j.terminal l →
      (forEach ls (fun l t => t.flushQueue l why) s).SendsNoTicket j.terminal l := by
  induction ls generalizing s with
  | nil => exact ⟨State.Leaves.none rfl, fun m => (if_neg (by simp)).symm, fun l j jobs quiet => quiet.resolve_left (by simp)⟩
  | cons l ls ih =>
    obtain ⟨fresh, nodup⟩ := List.nodup_cons.1 nodup
    obtain ⟨leaves, queue, sends⟩ := State.flushQueue_leaves s l why
    obtain ⟨rest, left, quiet⟩ := ih nodup (s.flushQueue l why)
    have later (m : LaneId) (mem : m ∈ ls) : (s.flushQueue l why).queue m = s.queue m := by
      rw [queue, if_neg (by rintro rfl; exact fresh mem)]
    have same : ls.flatMap (fun m => leaving ((s.flushQueue l why).queue m).jobs) = ls.flatMap fun m => leaving (s.queue m).jobs :=
      List.flatMap_congr fun m mem => by rw [later m mem]
    rw [same] at rest
    rw [forEach_cons, List.flatMap_cons]
    refine ⟨leaves.trans rest, fun m => ?_, fun m j jobs given => quiet m j jobs ?_⟩
    · rw [left]
      by_cases mem : m ∈ ls
      · simp only [later m mem, mem, List.mem_cons, or_true, true_and]
      · rw [if_neg fun both => mem both.1, queue]
        by_cases own : m = l
        · subst own
          by_cases empty : (s.queue m).jobs = [] <;> simp [empty]
        · rw [if_neg own, if_neg fun both => (List.mem_cons.1 both.1).elim own mem]
    · obtain ⟨mem, head⟩ | already := given
      · by_cases own : m = l
        · exact .inr (sends _ _ (.inr ⟨own, j, jobs, own ▸ head, rfl⟩))
        · have mem := (List.mem_cons.1 mem).resolve_left own
          exact .inl ⟨mem, by rw [later m mem, head]⟩
      · exact .inr (sends _ _ (.inl already))

end

end

end Sys2Proof.Machine

/-! PROOFS. The blocks take a yard reset. -/

namespace Sys2Proof.Machine

section
variable {s t u : State} {l m : LaneId} {r : LaneRecord}

/-! ## What lanes that act leave alone -/

/-- From `s` to `t` lanes, their decks' holds and barriers acted: what they do not change stands, reports were added, visits
were at most removed, and a barrier out of service stays so. -/
structure State.LanesRun (s t : State) : Prop where
  fixed : t.fixed = s.fixed
  stations : t.stations = s.stations
  queues : t.queues = s.queues
  counter : t.counter = s.counter
  reports : s.reports <+: t.reports
  visits : ∀ k, s.visit k = none → t.visit k = none
  stopped : ∀ n, s.barrierStopped n = true → t.barrierStopped n = true

theorem State.LanesRun.refl (s : State) : s.LanesRun s :=
  ⟨rfl, rfl, rfl, rfl, List.prefix_rfl, fun _ => id, fun _ => id⟩

theorem State.LanesRun.trans (first : s.LanesRun t) (second : t.LanesRun u) : s.LanesRun u where
  fixed := second.fixed.trans first.fixed
  stations := second.stations.trans first.stations
  queues := second.queues.trans first.queues
  counter := second.counter.trans first.counter
  reports := first.reports.trans second.reports
  visits k := second.visits k ∘ first.visits k
  stopped n := second.stopped n ∘ first.stopped n

theorem State.LanesRun.laneRecord (h : s.LanesRun t) (l : LaneId) : t.laneRecord l = s.laneRecord l := by
  rw [State.laneRecord, State.laneTable_of_fixed h.fixed, State.laneRecord]

theorem State.LanesRun.forEach {α : Type} (xs : List α) {f : α → State → State} (step : ∀ (x : α) (t : State), t.LanesRun (f x t)) (s : State) :
    s.LanesRun (forEach xs f s) :=
  forEach_keeps s.LanesRun xs f (fun x _ t run => run.trans (step x t)) s (.refl s)

theorem State.post_prefix (s : State) (b : ReportBody) : s.reports <+: (s.post b).reports := by
  rcases s.post_cases b with ⟨_, same⟩ | ⟨_, same⟩
  · rw [same]
    exact List.prefix_append ..
  · rw [same]

theorem State.freeVisit_visit (l : LaneId) (j k : Nat) : (s.freeVisit l j).visit k = s.visit k ∨ (s.freeVisit l j).visit k = none := by
  unfold State.freeVisit
  split
  next => exact .inl rfl
  next v _ =>
    split
    · refine (Decidable.em (k = j)).symm.imp (fun other => ?_) (fun same => ?_)
      · unfold State.removeVisit State.visit
        rw [List.find?_filter]
        congr 1
        funext x
        by_cases named : x.key = k
        · simp [named, other]
        · simp [named]
      · subst same
        unfold State.removeVisit State.visit
        rw [List.find?_filter, List.find?_eq_none]
        simp
    · exact .inl rfl

theorem State.freeReservation_visit (l : LaneId) (k : Nat) :
    (s.freeReservation l).visit k = s.visit k ∨ (s.freeReservation l).visit k = none := by
  unfold State.freeReservation
  split
  next => exact .inl rfl
  next j _ => exact s.freeVisit_visit l j k

/-- Entry leaves the visits as freeing its reservation, if it frees, leaves them. -/
theorem State.enterLane_visits (record : s.laneRecord l = some r) (st : LaneState) (why : LaneReason) (read : Option IdentRead) :
    (s.enterLane l st why read).visits = if st.frees then (s.freeReservation l).visits else s.visits := by
  have claimless : ((s.withdrawClaim l r.deck).freeReservation l).visits = (s.freeReservation l).visits := by
    have lane : ((s.withdrawClaim l r.deck).lane l).reservation = (s.lane l).reservation := by
      rw [State.withdrawClaim_lane, if_pos rfl]
      unfold LaneContext.withdrawn
      split <;> rfl
    have visit (k : Nat) : (s.withdrawClaim l r.deck).visit k = s.visit k := by rw [State.withdrawClaim_frame]; rfl
    unfold State.freeReservation
    rw [lane]
    split
    next => rw [State.withdrawClaim_frame]
    next k _ =>
      have freed : ((s.withdrawClaim l r.deck).freeVisit l k).visits = (s.freeVisit l k).visits := by
        unfold State.freeVisit
        rw [visit]
        split
        next => rw [State.withdrawClaim_frame]
        next =>
          split
          · rw [State.withdrawClaim_frame]
            rfl
          · rw [State.withdrawClaim_frame]
      exact freed
  unfold State.enterLane
  rw [record]
  dsimp only
  rw [State.post_visits, State.setLaneCodes_frame, State.updateLane]
  cases st.frees
  · simp only [Bool.false_eq_true, if_false]
    rw [State.withdrawClaim_frame]
    rfl
  · simp only [if_true]
    exact claimless

theorem State.enterLane_visit (st : LaneState) (why : LaneReason) (read : Option IdentRead) (k : Nat) :
    (s.enterLane l st why read).visit k = s.visit k ∨ (s.enterLane l st why read).visit k = none := by
  cases record : s.laneRecord l with
  | none => exact .inl (by rw [State.enterLane_no_record record])
  | some r =>
    rw [State.visit, State.enterLane_visits record]
    cases st.frees
    · exact .inl rfl
    · exact s.freeReservation_visit l k

theorem State.LanesRun.enterLane (s : State) (l : LaneId) (st : LaneState) (why : LaneReason) (read : Option IdentRead) :
    s.LanesRun (s.enterLane l st why read) := by
  obtain ⟨-, stations, barriers, queues, counter, -⟩ := s.enterLane_decks l st why read
  refine ⟨State.enterLane_fixed .., stations, queues, counter, ?_, fun k missing => ?_, fun n stopped => ?_⟩
  · unfold State.enterLane
    split
    next => exact List.prefix_rfl
    next r _ =>
      dsimp only
      refine List.IsPrefix.trans ?_ (State.post_prefix _ _)
      rw [State.setLaneCodes_frame, State.updateLane]
      cases st.frees
      · simp only [Bool.false_eq_true, if_false]
        rw [State.withdrawClaim_frame]
        exact List.prefix_rfl
      · simp only [if_true]
        rw [State.freeReservation_frame, State.withdrawClaim_frame]
        exact List.prefix_rfl
  · obtain same | gone := s.enterLane_visit (l := l) st why read k
    · exact same.trans missing
    · exact gone
  · rw [State.barrierStopped, State.barrier, barriers]
    exact stopped

theorem State.LanesRun.askBarrier (s : State) (l : LaneId) (role : BarrierRole) (motion : Motion) :
    s.LanesRun (s.askBarrier l role motion) := by
  have rest : (s.askBarrier l role motion).queues = s.queues ∧ (s.askBarrier l role motion).counter = s.counter
      ∧ (s.askBarrier l role motion).reports = s.reports ∧ (s.askBarrier l role motion).visits = s.visits := by
    unfold State.askBarrier
    repeat' split
    all_goals exact ⟨rfl, rfl, rfl, rfl⟩
  obtain ⟨queues, counter, reports, visits⟩ := rest
  refine ⟨State.askBarrier_fixed .., State.askBarrier_stations .., queues, counter, reports ▸ List.prefix_rfl, fun k missing => ?_,
    fun n => State.askBarrier_stopped role motion⟩
  rw [State.visit, visits]
  exact missing

theorem State.LanesRun.askRecovery (s : State) (l : LaneId) : s.LanesRun (s.askRecovery l) := by
  unfold State.askRecovery
  split
  next => exact .refl s
  next =>
    split
    · exact (LanesRun.askBarrier s l .entry .lower).trans (.askBarrier _ l .exit .lower)
    · exact .refl s

theorem State.LanesRun.enterIdle (s : State) (l : LaneId) (why : LaneReason) : s.LanesRun (s.enterIdle l why) := by
  unfold State.enterIdle
  dsimp only
  split
  · exact (LanesRun.enterLane ..).trans (.enterLane ..)
  · exact .enterLane ..

theorem State.LanesRun.recoverFree (s : State) (l : LaneId) : s.LanesRun (s.recoverFree l) := by
  unfold State.recoverFree
  split
  next => exact .refl s
  next =>
    split
    · exact .enterIdle ..
    · exact .refl s

/-- A change of claims, holders and lanes alone. -/
theorem State.LanesRun.claims {arbiters : Vector Arbiter 4} {lanes : Vector LaneContext 4} :
    s.LanesRun { s with arbiters := arbiters, lanes := lanes } :=
  ⟨rfl, rfl, rfl, rfl, List.prefix_rfl, fun _ => id, fun _ => id⟩

theorem State.LanesRun.grantDeck (s : State) (d : DeckId) : s.LanesRun (s.grantDeck d) := by
  unfold State.grantDeck
  split
  next => exact .refl s
  next l _ => exact (LanesRun.claims.trans (.enterLane ..)).trans (.askBarrier ..)

theorem State.LanesRun.afterRelease (s : State) (d : DeckId) : s.LanesRun (s.afterRelease d) :=
  (LanesRun.forEach _ (fun l t => (LanesRun.askRecovery t l).trans (.recoverFree _ l)) s).trans (.grantDeck _ d)

theorem State.LanesRun.clearHold (s : State) (l : LaneId) (d : DeckId) : s.LanesRun (s.clearHold l d) := by
  unfold State.clearHold
  split
  · exact .claims
  · exact .refl s

theorem State.LanesRun.testRecover (s : State) (l : LaneId) : s.LanesRun (s.testRecover l) := by
  unfold State.testRecover
  split
  next => exact .refl s
  next =>
    split
    · split
      · exact ((LanesRun.clearHold ..).trans (.enterIdle ..)).trans (.afterRelease ..)
      · exact .enterIdle ..
    · exact .refl s

/-! ## Lanes that rest while the others test -/

/-- A CLOSED lane, or one in RECOVER with a station not ENROLLED or a barrier out of service. -/
def State.Rests (s : State) (l : LaneId) : Prop :=
  (s.lane l).state = .closed ∨ ((s.lane l).state = .recover ∧ ∃ r, s.laneRecord l = some r ∧
    (s.stationsEnrolled r = false ∨ s.barrierStopped r.entryBarrier = true ∨ s.barrierStopped r.exitBarrier = true))

/-- Lanes acted from `s` to `t`; no claim waits, and the lanes that rest stand as they were, with the holds they have. -/
structure State.Rested (s t : State) : Prop where
  run : s.LanesRun t
  claims : ∀ d, (t.arbiter d).claims = []
  lane : ∀ l, s.Rests l → t.lane l = s.lane l ∧ ∀ d, (s.arbiter d).holder = some l → (t.arbiter d).holder = some l

theorem State.Rests.recovered (rests : s.Rests l) (record : s.laneRecord l = some r) : s.recovered l r = false := by
  rw [← Bool.not_eq_true, State.recovered_iff, State.barriersServe_iff]
  rintro ⟨recovers, enrolled, ⟨entry, exit⟩, -⟩
  obtain closed | ⟨-, r', record', unready⟩ := rests
  · rw [closed] at recovers
    cases recovers
  · cases record.symm.trans record'
    simp [enrolled, entry, exit] at unready

theorem State.LanesRun.stationsEnrolled (run : s.LanesRun t) (r : LaneRecord) : t.stationsEnrolled r = s.stationsEnrolled r := by
  unfold State.stationsEnrolled State.enrolled State.station
  rw [run.stations]

theorem State.LanesRun.rests (run : s.LanesRun t) (lane : t.lane l = s.lane l) (rests : s.Rests l) : t.Rests l := by
  unfold State.Rests
  rw [lane]
  refine rests.imp id fun ⟨recovers, r, record, unready⟩ => ⟨recovers, r, (run.laneRecord l).trans record, ?_⟩
  exact unready.imp ((run.stationsEnrolled r).trans ·) (Or.imp (run.stopped _) (run.stopped _))

theorem State.Rested.refl (quiet : ∀ d, (s.arbiter d).claims = []) : s.Rested s :=
  ⟨.refl s, quiet, fun _ _ => ⟨rfl, fun _ => id⟩⟩

theorem State.Rested.trans (first : s.Rested t) (second : t.Rested u) : s.Rested u := by
  refine ⟨first.run.trans second.run, second.claims, fun l rests => ?_⟩
  obtain ⟨lane, holder⟩ := first.lane l rests
  obtain ⟨lane', holder'⟩ := second.lane l (first.run.rests lane rests)
  exact ⟨lane'.trans lane, fun d => holder' d ∘ holder d⟩

theorem State.Rested.forEach {α : Type} (xs : List α) {f : α → State → State}
    (step : ∀ (x : α) (t : State), (∀ d, (t.arbiter d).claims = []) → t.Rested (f x t)) (quiet : ∀ d, (s.arbiter d).claims = []) :
    s.Rested (forEach xs f s) :=
  forEach_keeps s.Rested xs f (fun x _ t rested => rested.trans (step x t rested.claims)) s (.refl quiet)

theorem State.enterLane_hold (s : State) (l : LaneId) (st : LaneState) (why : LaneReason) (read : Option IdentRead) (d : DeckId) :
    ((s.enterLane l st why read).arbiter d).holder = (s.arbiter d).holder
    ∧ ((s.arbiter d).claims = [] → ((s.enterLane l st why read).arbiter d).claims = []) := by
  cases record : s.laneRecord l with
  | none =>
    rw [State.enterLane_no_record record]
    exact ⟨rfl, id⟩
  | some r =>
    rw [State.enterLane_arbiter record]
    unfold State.withdrawClaim
    split
    · rw [State.updateLane_arbiter, State.arbiter_setArbiter]
      split
      next same =>
        subst same
        exact ⟨rfl, fun empty => by rw [empty]; rfl⟩
      next => exact ⟨rfl, id⟩
    · exact ⟨rfl, id⟩

theorem State.askRecovery_arbiters (s : State) (l : LaneId) : (s.askRecovery l).arbiters = s.arbiters := by
  unfold State.askRecovery State.askBarrier
  repeat' split
  all_goals rfl

theorem State.Rested.askRecovery (quiet : ∀ d, (s.arbiter d).claims = []) (l : LaneId) : s.Rested (s.askRecovery l) := by
  have arbiter (d : DeckId) : (s.askRecovery l).arbiter d = s.arbiter d := by
    rw [State.arbiter, State.askRecovery_arbiters, State.arbiter]
  exact ⟨.askRecovery s l, fun d => (arbiter d).symm ▸ quiet d,
    fun m _ => ⟨State.askRecovery_lane .., fun d held => (arbiter d).symm ▸ held⟩⟩

theorem State.enterIdle_hold (s : State) (l : LaneId) (why : LaneReason) (d : DeckId) :
    ((s.enterIdle l why).arbiter d).holder = (s.arbiter d).holder
    ∧ ((s.arbiter d).claims = [] → ((s.enterIdle l why).arbiter d).claims = []) := by
  obtain ⟨holder, claims⟩ := s.enterLane_hold l .idle why none d
  obtain ⟨holder', claims'⟩ := (s.enterLane l .idle why).enterLane_hold l .identify (.event .presenceArrive) none d
  unfold State.enterIdle
  dsimp only
  split
  · exact ⟨holder'.trans holder, claims' ∘ claims⟩
  · exact ⟨holder, claims⟩

theorem State.Rested.enterIdle (quiet : ∀ d, (s.arbiter d).claims = []) (acts : ¬ s.Rests l) (why : LaneReason) :
    s.Rested (s.enterIdle l why) := by
  refine ⟨.enterIdle s l why, fun d => (s.enterIdle_hold l why d).2 (quiet d), fun m rests => ?_⟩
  have other : l ≠ m := fun same => acts (same ▸ rests)
  refine ⟨State.enterIdle_lane_other other s why, fun d held => ?_⟩
  rw [(s.enterIdle_hold l why d).1]
  exact held

theorem State.Rested.recoverFree (quiet : ∀ d, (s.arbiter d).claims = []) (l : LaneId) : s.Rested (s.recoverFree l) := by
  unfold State.recoverFree
  split
  next => exact .refl quiet
  next r record =>
    split
    next recovers =>
      refine .enterIdle quiet (fun rests => ?_) _
      rw [rests.recovered record] at recovers
      cases recovers.1
    next => exact .refl quiet

theorem State.Rested.afterRelease (quiet : ∀ d, (s.arbiter d).claims = []) (d : DeckId) : s.Rested (s.afterRelease d) := by
  have told : s.Rested (Machine.forEach (s.deckLanes d) (fun l t => (t.askRecovery l).recoverFree l) s) :=
    Rested.forEach _ (f := fun l t => (t.askRecovery l).recoverFree l) (fun l t quiet => (Rested.askRecovery quiet l).trans
      (.recoverFree (Rested.askRecovery quiet l).claims l)) quiet
  unfold State.afterRelease
  rw [State.grantDeck_none (.inr (.inr (told.claims d)))]
  exact told

theorem State.Rested.clearHold (quiet : ∀ d, (s.arbiter d).claims = []) (acts : ¬ s.Rests l) (d : DeckId) :
    s.Rested (s.clearHold l d) := by
  unfold State.clearHold
  split
  next holds =>
    have arbiter (e : DeckId) : (((s.setArbiter d { s.arbiter d with holder := none }).updateLane l fun c =>
        { c with claim := .none }).arbiter e) = if d = e then { s.arbiter d with holder := none } else s.arbiter e := by
      rw [State.updateLane_arbiter, State.arbiter_setArbiter]
    refine ⟨.claims, fun e => ?_, fun m rests => ?_⟩
    · rw [arbiter]
      split
      · exact quiet d
      · exact quiet e
    · have other : l ≠ m := fun same => acts (same ▸ rests)
      refine ⟨?_, fun e held => ?_⟩
      · rw [State.lane_updateLane, if_neg other]
        rfl
      · rw [arbiter]
        split
        next same =>
          subst same
          exact absurd (Option.some.inj (((s.holds_iff l d).1 holds).symm.trans held)) other
        next => exact held
  next => exact .refl quiet

theorem State.clearHold_rests (d : DeckId) : (s.clearHold l d).Rests l ↔ s.Rests l := by
  unfold State.clearHold
  split
  · unfold State.Rests
    rw [State.lane_updateLane, if_pos rfl]
    exact Iff.rfl
  · exact Iff.rfl

theorem State.Rested.testRecover (quiet : ∀ d, (s.arbiter d).claims = []) (l : LaneId) : s.Rested (s.testRecover l) := by
  unfold State.testRecover
  split
  next => exact .refl quiet
  next r record =>
    split
    next recovers =>
      have acts : ¬ s.Rests l := fun rests => by
        rw [rests.recovered record] at recovers
        cases recovers
      split
      · have cleared := Rested.clearHold quiet acts r.deck
        have idle := Rested.enterIdle cleared.claims (mt (State.clearHold_rests r.deck).1 acts) (.event .recovered)
        exact (cleared.trans idle).trans (.afterRelease idle.claims r.deck)
      · exact .enterIdle quiet acts _
    next => exact .refl quiet

/-! ## All lanes enter RECOVER (R83) -/

theorem mem_allLanes (l : LaneId) : l ∈ allLanes := by
  revert l
  decide

/-- The lanes of a list enter RECOVER one by one. -/
def State.recoverLanes (ls : List LaneId) (s : State) : State :=
  forEach ls (fun l t => t.enterLane l .recover (.event .yardReset)) s

theorem State.recoverLanes_run (ls : List LaneId) (s : State) : s.LanesRun (s.recoverLanes ls) :=
  LanesRun.forEach ls (fun l t => LanesRun.enterLane t l _ _ _) s

theorem State.recoverLanes_holder (ls : List LaneId) (s : State) (d : DeckId) :
    ((s.recoverLanes ls).arbiter d).holder = (s.arbiter d).holder :=
  forEach_keeps (fun t => (t.arbiter d).holder = (s.arbiter d).holder) ls _
    (fun l _ t same => (t.enterLane_hold l _ _ _ d).1.trans same) s rfl

theorem State.recoverLanes_lane {ls : List LaneId} (nodup : ls.Nodup) (s : State) (l : LaneId) :
    (s.recoverLanes ls).lane l = if l ∈ ls then
      (s.laneRecord l).elim (s.lane l) (fun r => (s.lane l).entered .recover r none) else s.lane l := by
  have at_ := forEach_pointwise (fun t l => (t.lane l, t.laneRecord l)) (fun l t => t.enterLane l .recover (.event .yardReset))
    (fun l => ((s.laneRecord l).elim (s.lane l) (fun r => (s.lane l).entered .recover r none), s.laneRecord l)) s nodup
    (fun t x y away => Prod.ext (State.enterLane_lane_other t away.symm ..) (State.enterLane_laneRecord ..))
    (fun t x _ kept => by
      obtain ⟨lane, record⟩ := Prod.mk.inj kept
      refine Prod.ext ?_ ((State.enterLane_laneRecord ..).trans record)
      dsimp only
      cases loaded : s.laneRecord x with
      | none => rw [State.enterLane_no_record (record.trans loaded), lane, Option.elim_none]
      | some r => rw [State.enterLane_lane (record.trans loaded), if_pos rfl, lane, Option.elim_some]; rfl) l
  have lane := congrArg Prod.fst at_
  refine lane.trans ?_
  split <;> rfl

theorem LaneContext.entered_recover_vehicle (c : LaneContext) (r : LaneRecord) : (c.entered .recover r none).vehicle = none := by
  unfold LaneContext.entered LaneContext.withdrawn
  cases c.claim <;> rfl

/-- Entry into a state ends with its report. -/
theorem State.enterLane_reports (record : s.laneRecord l = some r) (room : s.RoomForReport) (st : LaneState) (why : LaneReason)
    (read : Option IdentRead) : (s.enterLane l st why read).reports = s.reports ++
      [{ body := .lane l st why (((s.lane l).entered st r why.referral?).vehicle.map Vehicle.ident) read, stamp := s.now }] := by
  have posted : ∃ x : State, s.enterLane l st why read = x.post (.lane l st why ((x.lane l).vehicle.map Vehicle.ident) read)
      ∧ x.reports = s.reports ∧ x.now = s.now := by
    unfold State.enterLane
    rw [record]
    refine ⟨_, rfl, ?_⟩
    rw [State.setLaneCodes_frame, State.updateLane]
    cases st.frees
    · simp only [Bool.false_eq_true, if_false]
      rw [State.withdrawClaim_frame]
      exact ⟨rfl, rfl⟩
    · simp only [if_true]
      rw [State.freeReservation_frame, State.withdrawClaim_frame]
      exact ⟨rfl, rfl⟩
  obtain ⟨x, entered, reports, now⟩ := posted
  have lane : x.lane l = (s.lane l).entered st r why.referral? := by
    rw [← State.post_lane, ← entered, State.enterLane_lane record, if_pos rfl]
  rw [entered, lane, State.post_room (by rw [State.RoomForReport, reports]; exact room), State.reported, reports, now]

/-- The lanes with a record report RECOVER, in their order and with no ident (R22 of the log, R60). -/
theorem State.recoverLanes_reports (ls : List LaneId) (s : State) (room : s.reports.length + ls.length ≤ 32) :
    (s.recoverLanes ls).reports = s.reports ++ (ls.filter fun l => (s.laneRecord l).isSome).map
      fun l => { body := .lane l .recover (.event .yardReset) none none, stamp := s.now } := by
  induction ls generalizing s with
  | nil => simp [State.recoverLanes]
  | cons l ls ih =>
    rw [List.length_cons] at room
    have run := LanesRun.enterLane s l .recover (.event .yardReset) none
    have now : (s.enterLane l .recover (.event .yardReset)).now = s.now := by
      rw [State.now, State.clock_of_fixed run.fixed, State.now]
    have first : (s.enterLane l .recover (.event .yardReset)).reports = s.reports ++ ([l].filter fun l =>
        (s.laneRecord l).isSome).map fun l => { body := .lane l .recover (.event .yardReset) none none, stamp := s.now } := by
      cases record : s.laneRecord l with
      | none => rw [State.enterLane_no_record record, List.filter_singleton]; simp [record]
      | some r =>
        rw [State.enterLane_reports record (show s.reports.length < 32 by omega),
          show LaneReason.referral? (.event .yardReset) = none from rfl, LaneContext.entered_recover_vehicle]
        simp [record]
    have rest := ih (s.enterLane l .recover (.event .yardReset)) (by
      rw [first, List.length_append, List.length_map]
      have := List.length_filter_le (fun l => (s.laneRecord l).isSome) [l]
      rw [List.length_singleton] at this
      omega)
    simp only [run.laneRecord, now, first] at rest
    refine rest.trans ?_
    rw [List.append_assoc, ← List.map_append, ← List.filter_append, List.singleton_append]

/-- A record RESERVED by one of the lanes leaves the table. -/
theorem State.recoverLanes_visit {ls : List LaneId} (mem : l ∈ ls) {k : Nat} {v : Visit} (record : s.laneRecord l = some r)
    (held : (s.lane l).reservation = some k) (found : s.visit k = some v) (reserved : v.state = .reserved)
    (own : v.entryLane = l) : (s.recoverLanes ls).visit k = none := by
  induction ls generalizing s with
  | nil => cases mem
  | cons m ls ih =>
    have step : s.recoverLanes (m :: ls) = (s.enterLane m .recover (.event .yardReset)).recoverLanes ls := rfl
    rw [step]
    have gone (none_ : (s.enterLane m .recover (.event .yardReset)).visit k = none) :
        ((s.enterLane m .recover (.event .yardReset)).recoverLanes ls).visit k = none :=
      (State.recoverLanes_run ls _).visits k none_
    by_cases same : m = l
    · subst same
      refine gone ?_
      have freed : (s.freeReservation m).visits = s.visits.filter fun x => x.key != k := by
        rw [State.freeReservation_some held (State.freeVisit_reserved found reserved own) rfl]
        rfl
      rw [State.visit, State.enterLane_visits record, show LaneState.recover.frees = true from rfl, if_pos rfl, freed,
        List.find?_filter, List.find?_eq_none]
      simp
    · obtain kept | none_ := s.enterLane_visit (l := m) .recover (.event .yardReset) none k
      · exact ih ((List.mem_cons.1 mem).resolve_left (Ne.symm same))
          ((State.enterLane_laneRecord ..).trans record) (by rw [State.enterLane_lane_other s same]; exact held) (kept.trans found)
      · exact gone none_

/-- The lanes that a yard reset moves. -/
def State.movedLanes (s : State) : List LaneId := allLanes.filter fun l => (s.lane l).state != .closed

theorem State.movedLanes_nodup (s : State) : s.movedLanes.Nodup := List.Nodup.filter _ (by decide)

theorem State.mem_movedLanes : l ∈ s.movedLanes ↔ (s.lane l).state ≠ .closed := by
  rw [State.movedLanes, List.mem_filter, bne_iff_ne]
  exact and_iff_right (mem_allLanes l)

theorem State.recoverLanes_moved (s : State) (record : s.laneRecord l = some r) (moves : (s.lane l).state ≠ .closed) :
    (s.recoverLanes s.movedLanes).lane l = (s.lane l).entered .recover r none := by
  rw [State.recoverLanes_lane s.movedLanes_nodup, if_pos (State.mem_movedLanes.2 moves), record, Option.elim_some]

theorem State.recoverLanes_closed (s : State) (closed : (s.lane l).state = .closed) :
    (s.recoverLanes s.movedLanes).lane l = s.lane l := by
  rw [State.recoverLanes_lane s.movedLanes_nodup, if_neg fun mem => State.mem_movedLanes.1 mem closed]

/-- Once all of them are in RECOVER no claim waits. -/
theorem State.recoverLanes_claims (law : s.HoldLaw) (d : DeckId) : ((s.recoverLanes s.movedLanes).arbiter d).claims = [] := by
  have kept : KeepsLaws s (s.recoverLanes s.movedLanes) :=
    (KeepsLaws.refl s).forEach _ _ fun l _ _ h => h.enterStop l _ _ none (.inr rfl)
  obtain ⟨-, claims, -, states⟩ := kept.hold law
  rw [List.eq_nil_iff_forall_not_mem]
  intro l claimed
  obtain ⟨waits, deck⟩ := (claims d l).1 claimed
  have awaits := (states l).1 waits
  rw [(State.recoverLanes_run ..).laneRecord] at deck
  obtain ⟨r, record, -⟩ := Option.map_eq_some_iff.1 deck
  by_cases closed : (s.lane l).state = .closed
  · rw [State.recoverLanes_closed s closed, closed] at awaits
    cases awaits
  · rw [State.recoverLanes_moved s record closed] at awaits
    cases awaits

/-- The tests that follow. -/
theorem State.resetLanesYard_rested (law : s.HoldLaw) : (s.recoverLanes s.movedLanes).Rested s.resetLanesYard :=
  Rested.forEach s.movedLanes (f := fun l t => (t.askRecovery l).testRecover l) (fun l _ quiet =>
    (Rested.askRecovery quiet l).trans (.testRecover (Rested.askRecovery quiet l).claims l)) (State.recoverLanes_claims law)

theorem State.resetLanesYard_run (s : State) : s.LanesRun s.resetLanesYard :=
  (State.recoverLanes_run ..).trans
    (LanesRun.forEach s.movedLanes (fun l t => (LanesRun.askRecovery t l).trans (.testRecover _ l)) _)

end

end Sys2Proof.Machine

namespace Sys2Proof.Settled
open Machine

/-- Settles O55: each block's own part of a yard reset; the flush of the four queues and the RECOVER of the lanes through what
they leave alone. -/
theorem blocksTakeYardReset : Obligations.BlocksTakeYardReset := by
  refine fun s => ⟨fun d due => ?_, fun due => congrArg Host.Outcome.next ((if_pos due).trans ?_), fun due =>
    congrArg Host.Outcome.next (if_pos due), fun l why => ⟨fun empty => State.flushQueue_empty empty why, fun j jobs head =>
      State.flushQueue_head head why⟩, fun due => ?tickets, fun due => ?lanes⟩
  · intro e cleared
    exact congrArg Host.Outcome.next (if_pos due)
  · have same : (fun v : Visit => v.state != .reserved) = fun v => decide (v.state ≠ .reserved) := by
      funext v
      rw [Bool.eq_iff_iff]
      simp
    rw [← same]
    rfl
  case tickets =>
    let t₀ : State := { s with resetsDue := { s.resetsDue with tickets := false } }
    have taken : exec .ticketYardReset s = .next (forEach allLanes (fun l t => t.flushQueue l .reset) t₀) :=
      congrArg Host.Outcome.next (if_pos due)
    have nested : forEach allLanes (fun l t => t.flushQueue l .reset) t₀ = (((t₀.flushQueue 0 .reset).flushQueue 1
      .reset).flushQueue 2 .reset).flushQueue 3 .reset := by
      simp only [allLanes, forEach_cons, forEach_nil]
    obtain ⟨leaves, queue, sends⟩ := State.flushes_leave .reset (ls := allLanes) (by decide) t₀
    generalize forEach allLanes (fun l t => t.flushQueue l .reset) t₀ = t at taken nested leaves queue sends
    have member (l : LaneId) {x : TicketJob × Nat} (mem : x ∈ leaving (s.queue l).jobs) :
        x ∈ allLanes.flatMap fun l => leaving (t₀.queue l).jobs := List.mem_flatMap.2 ⟨l, mem_allLanes l, mem⟩
    refine ⟨t, taken, nested, fun l => ?_, fun l j jobs head => sends l j jobs (.inl ⟨mem_allLanes l, head⟩),
      fun l j v mem found => ?_, fun room => ?_, leaves.frame⟩
    · rw [queue]
      have kept : t₀.queue l = s.queue l := rfl
      by_cases empty : (s.queue l).jobs = []
      · rw [if_neg fun both => both.2 empty, kept, if_pos empty]
        exact ⟨empty, rfl⟩
      · rw [if_pos ⟨mem_allLanes l, empty⟩, if_neg empty]
        exact ⟨rfl, rfl⟩
    · obtain ⟨n, listed⟩ := mem_leaving mem
      refine ⟨v.settled (.notPrinted .reset) s.now, ?_, ?_⟩
      · rw [leaves.visit, if_pos (List.mem_map_of_mem (member l listed))]
        exact congrArg (Option.map _) found
      · unfold Visit.settled
        by_cases closing : v.state = .closing
        · rw [if_pos closing, if_pos closing]
          exact ⟨rfl, rfl, fun _ => rfl⟩
        · rw [if_neg closing, if_neg closing]
          exact ⟨rfl, rfl, fun closes => absurd closes closing⟩
    · have few : (allLanes.flatMap fun l => leaving (t₀.queue l).jobs).length = (s.queue 0).jobs.length
          + ((s.queue 1).jobs.length + ((s.queue 2).jobs.length + (s.queue 3).jobs.length)) := by
        simp only [allLanes, List.flatMap_cons, List.flatMap_nil, List.length_append, leaving_length, List.append_nil]
        rfl
      obtain ⟨bs, -, reports, outcomes, closes⟩ := leaves.reports (by
        rw [few]
        show s.reports.length + _ ≤ 32
        omega)
      have stands {b : ReportBody} (mem : b ∈ bs) : { body := b, stamp := s.now } ∈ t.reports := by
        rw [reports]
        exact List.mem_append_right _ (List.mem_map_of_mem (f := fun b => ({ body := b, stamp := t₀.now } : Report)) mem)
      refine ⟨fun l before j after queued => stands (outcomes (j, after.length) (member l ?_)), fun l j v mem found closing => ?_⟩
      · rw [queued]
        exact mem_leaving_split before j after
      · obtain ⟨n, listed⟩ := mem_leaving mem
        have posted := closes (j, n) (member l listed) v found closing
        rw [Visit.settled_closing closing] at posted
        exact stands posted
  case lanes =>
    let s₀ : State := { s with resetsDue := { s.resetsDue with lanes := false } }
    have run := s₀.resetLanesYard_run
    refine ⟨s₀.resetLanesYard, congrArg Host.Outcome.next (if_pos due), State.resetsDue_of_fixed run.fixed, run.counter, run.queues,
      fun law => ?_⟩
    have law : s₀.HoldLaw := law
    have rested := State.resetLanesYard_rested law
    have entered := s₀.recoverLanes_run s₀.movedLanes
    generalize s₀.resetLanesYard = t at run rested
    refine ⟨rested.claims, fun room => ?_, fun l => ⟨fun closed => ?_, fun r record moves => ⟨fun k v held found reserved own => ?_,
      fun unready => ?_⟩⟩⟩
    · obtain ⟨more, reports⟩ := rested.run.reports
      have few := List.length_filter_le (fun l => (s₀.lane l).state != .closed) allLanes
      have recovers := State.recoverLanes_reports s₀.movedLanes s₀ (Nat.le_trans (Nat.add_le_add_left few _) room)
      have which : s₀.movedLanes.filter (fun l => (s₀.laneRecord l).isSome) =
          allLanes.filter fun l => decide ((s.lane l).state ≠ .closed) && (s.laneRecord l).isSome := by
        rw [State.movedLanes, List.filter_filter]
        refine List.filter_congr fun l _ => ?_
        rw [Bool.and_comm, Bool.eq_iff_iff]
        simp <;> rfl
      rw [which] at recovers
      exact ⟨more, by rw [← reports, recovers]; rfl⟩
    · have same := s₀.recoverLanes_closed closed
      have rests : (s₀.recoverLanes s₀.movedLanes).Rests l := .inl ((congrArg LaneContext.state same).trans closed)
      exact (rested.lane l rests).1.trans same
    · exact rested.run.visits k (State.recoverLanes_visit (s := s₀) (State.mem_movedLanes.2 moves) record held found reserved own)
    · have same := s₀.recoverLanes_moved record moves
      have rests : (s₀.recoverLanes s₀.movedLanes).Rests l := by
        refine .inr ⟨by rw [same]; rfl, r, (entered.laneRecord l).trans record, ?_⟩
        exact unready.imp ((entered.stationsEnrolled r).trans ·) (Or.imp (entered.stopped _) (entered.stopped _))
      obtain ⟨lane, holder⟩ := rested.lane l rests
      refine ⟨lane.trans (same.trans ?_), fun held => holder _ ((s₀.recoverLanes_holder _ _).trans held)⟩
      unfold LaneContext.entered LaneContext.withdrawn
      by_cases waits : (s.lane l).claim = .waiting
      · rw [if_pos (show (s₀.lane l).claim = .waiting from waits), if_pos waits]
        rfl
      · rw [if_neg (show ¬ (s₀.lane l).claim = .waiting from waits), if_neg waits]
        rfl

end Sys2Proof.Settled

/-! PROOFS. The send channel: an attempt that fails, a unit matched, one frame of answers, and the channels' timers. -/

namespace Sys2Proof.Machine

section
variable {s : State} {n : StationId} {c : SendChannel} {p : Progress}

theorem SendChannel.inSending_some (sends : c.phase = .sending) (message : c.message = some p) : c.inSending = some p :=
  (if_pos sends).trans message

theorem State.updateSend_updateSend (f g : SendChannel → SendChannel) :
    (s.updateSend n f).updateSend n g = s.updateSend n (g ∘ f) := by
  simp only [State.updateSend, State.updateStation, State.station_setStation_self, State.setStation_setStation, Function.comp_apply]

/-! ## What a failed attempt and a matched unit do (R164–R166) -/

theorem State.attemptFails_again (sending : (s.station n).send.inSending = some p) (again : p.attempt < 3) :
    s.attemptFails n = s.updateSend n SendChannel.quiet := by
  unfold State.attemptFails
  rw [sending]
  exact if_pos again

theorem State.attemptFails_last (sending : (s.station n).send.inSending = some p) (last : 3 ≤ p.attempt) :
    s.attemptFails n = (s.updateSend n SendChannel.idled).sourceFailed n p.msg.source := by
  unfold State.attemptFails
  rw [sending]
  exact if_neg (Nat.not_lt.2 last)

theorem State.attemptFails_idle (idle : (s.station n).send.inSending = none) : s.attemptFails n = s := by
  unfold State.attemptFails
  rw [idle]

theorem State.unitMatched_next (sending : (s.station n).send.inSending = some p) (more : p.unit + 1 < p.msg.body.length + 2) :
    s.unitMatched n = s.updateSend n fun c => c.nextUnit p := by
  unfold State.unitMatched
  rw [sending]
  exact if_pos more

theorem State.unitMatched_last (sending : (s.station n).send.inSending = some p) (last : p.msg.body.length + 2 ≤ p.unit + 1) :
    s.unitMatched n = (s.updateSend n SendChannel.idled).sourceDelivered n p.msg.source := by
  unfold State.unitMatched
  rw [sending]
  exact if_neg (Nat.not_lt.2 last)

/-- A forward that is over leaves its place as well. -/
theorem State.sourceDelivered_forward (f : SendChannel → SendChannel) : (s.updateSend n f).sourceDelivered n .forward =
    s.setStation n { s.station n with forward := none, send := f (s.station n).send } := by
  simp only [State.sourceDelivered, State.updateSend, State.updateStation, State.station_setStation_self, State.setStation_setStation]

/-- The third attempt that fails tells its source. -/
theorem State.sourceFailed_result (room : s.RoomForReport) (f : SendChannel → SendChannel) (r : EnrolResult) :
    (s.updateSend n f).sourceFailed n (.enrolResult r) =
      (s.setStation n { s.station n with send := f (s.station n).send }).reported (.messageDropped n .enrolResult) :=
  State.post_room (s := s.setStation n _) room _

theorem State.sourceFailed_forward (room : s.RoomForReport) (f : SendChannel → SendChannel) :
    (s.updateSend n f).sourceFailed n .forward =
      (s.setStation n { s.station n with forward := none, send := f (s.station n).send }).reported
        (.messageDropped n .displayText) := by
  rw [← State.sourceDelivered_forward]
  exact State.post_room (s := (s.updateSend n f).sourceDelivered n .forward) room _

/-! ## One frame of answers (R164) -/

theorem State.sendFrame_stopped (stopped : (s.station n).state.works = false) (a : Option Answer) : s.sendFrame n a = s :=
  if_neg (by rw [stopped]; decide)

section
variable (works : (s.station n).state.works = true)
include works

theorem State.sendFrame_missing : s.sendFrame n none = s.updateSend n fun c => { c with noneHeard := 0 } := if_pos works

theorem State.sendFrame_hearsNone : s.sendFrame n (some .none) =
    s.updateSend n fun c => { c with
      noneHeard := min 2 (c.noneHeard + 1), noneSeen := c.noneSeen || c.phase == .sending } :=
  (if_pos works).trans (State.updateSend_updateSend ..)

theorem State.sendFrame_aborted : s.sendFrame n (some .abort) =
    (s.updateSend n fun c => { c with noneHeard := 0 }).attemptFails n := if_pos works

theorem State.sendFrame_taken {a : Answer} (taken : a = .taken0 ∨ a = .taken1) : s.sendFrame n (some a) =
    if (s.station n).send.matchedBy a then (s.updateSend n fun c => { c with noneHeard := 0 }).unitMatched n
    else s.updateSend n fun c => { c with noneHeard := 0 } := by
  obtain rfl | rfl := taken <;> exact if_pos works

end

theorem StationState.works_iff (x : StationState) :
    x.works = true ↔ x = .alive ∨ x = .enrolling ∨ x = .enrolled ∨ x = .rejected := by
  cases x <;> simp [StationState.works]

theorem SendChannel.matchedBy_sending (sending : c.inSending = some p) (a : Answer) : c.matchedBy a = true ↔
    a = (if p.unit % 2 = 1 then .taken1 else .taken0) ∧ (p.unit ≠ 0 ∨ c.noneSeen = true) := by
  simp [SendChannel.matchedBy, sending, takenAnswer]

/-! ## The timers (R163, R165) -/

theorem State.unitTimerEnds_due (sends : (s.station n).send.phase = .sending) (late : 32 ≤ (s.station n).send.timer)
    (judged : (s.slot n).awaited = false) : s.unitTimerEnds n = s.attemptFails n :=
  if_pos (by simp [State.unitTimerDue, sends, judged, Config.unitTimer, late])

theorem State.gapEnds_due (gap : (s.station n).send.phase = .gap) (message : (s.station n).send.message = some p)
    (shown : 4 ≤ (s.station n).send.gap) : s.gapEnds n = s.updateSend n fun c => c.begins p.msg (p.attempt + 1) false := by
  unfold State.gapEnds
  rw [message]
  exact if_pos (by simp [SendChannel.gapOver, gap, Config.gapRecords, shown])

theorem State.receiveEnds_due {m : Partial} (receives : (s.station n).receive.phase = .receiving m)
    (stale : 64 ≤ (s.station n).receive.stale) : s.receiveEnds n = s.setStation n { s.station n with
      receive := { (s.station n).receive with phase := .idle, answer := .none, lastTaken := none, stale := 0 } } :=
  if_pos (by simp [ReceiveChannel.staleDue, receives, Config.staleLimit, stale])

theorem State.withdrawTicket_other {l : LaneId} (other : ∀ p, (s.station n).send.message = some p → p.msg.source ≠ .ticket l) :
    s.withdrawTicket n l = s := by
  have keeps : ¬ ((s.station n).send.message.any fun p => p.msg.source == .ticket l) = true := by
    rw [Option.any_eq_true]
    rintro ⟨p, message, own⟩
    exact other p message (beq_iff_eq.1 own)
  unfold State.withdrawTicket State.updateStation
  dsimp only
  rw [if_neg keeps]
  exact State.setStation_station ..

theorem State.withdrawTicket_own {l : LaneId} (message : (s.station n).send.message = some p) (own : p.msg.source = .ticket l) :
    s.withdrawTicket n l = s.updateSend n SendChannel.idled := by
  have sends : ((s.station n).send.message.any fun p => p.msg.source == .ticket l) = true := by
    rw [message, Option.any_some, beq_iff_eq]
    exact own
  unfold State.withdrawTicket State.updateStation
  dsimp only
  rw [if_pos sends]
  rfl

/-- A change of the answers heard leaves what is being sent. -/
theorem State.inSending_heard (sending : (s.station n).send.inSending = some p) :
    ((s.updateSend n fun c => { c with noneHeard := 0 }).station n).send.inSending = some p := by
  rw [State.updateSend, State.updateStation, State.station_setStation_self]
  exact sending

end

end Sys2Proof.Machine

namespace Sys2Proof.Settled
open Machine

/-- Settles O43: the timers of the channels, one frame of answers by its answer, and a TICKET withdrawn. -/
theorem channelTimers : Obligations.ChannelTimers := by
  refine ⟨fun s n => ?timers, fun s n => ?frame, fun s n l => ⟨fun p message own => State.withdrawTicket_own message own,
    fun other => State.withdrawTicket_other other⟩⟩
  case timers =>
    intro x send rests quiet
    refine ⟨fun p receives stale => congrArg Host.Outcome.next (State.receiveEnds_due receives stale),
      fun p sends message late judged => ?_, fun p gap message shown => congrArg Host.Outcome.next (State.gapEnds_due gap message shown)⟩
    have sending := SendChannel.inSending_some sends message
    have ends {t : State} (fails : s.attemptFails n = t) : exec (.unitTimerExpiry n) s = .next t :=
      congrArg Host.Outcome.next ((State.unitTimerEnds_due sends late judged).trans fails)
    refine ⟨fun again => ends (State.attemptFails_again sending again), fun last => ?_⟩
    have fails := State.attemptFails_last sending last
    refine ⟨fun r source room => ends (fails.trans ?_), fun source room => ends (fails.trans ?_), fun l source => ends (fails.trans ?_)⟩
    · rw [source]
      exact State.sourceFailed_result room _ r
    · rw [source]
      exact State.sourceFailed_forward room _
    · rw [source]
      rfl
  case frame =>
    intro x works send unheard rests
    refine ⟨fun stopped a => State.sendFrame_stopped (eq_false_of_ne_true (mt (StationState.works_iff _).1 stopped)) a,
      fun runs => ?_⟩
    have runs := (StationState.works_iff _).2 runs
    refine ⟨State.sendFrame_missing runs, State.sendFrame_hearsNone runs, fun rested a answer => ?_, fun p sends message => ?_⟩
    · have rests : (s.station n).send.inSending = none := if_neg rested
      have unmatched : (s.station n).send.matchedBy a = false := by rw [SendChannel.matchedBy, rests, Option.any_none]
      have taken (which : a = .taken0 ∨ a = .taken1) : s.sendFrame n (some a) = send unheard :=
        (State.sendFrame_taken runs which).trans (if_neg (by rw [unmatched]; decide))
      cases a with
      | none => exact absurd rfl answer
      | abort => exact (State.sendFrame_aborted runs).trans (State.attemptFails_idle (by rw [State.updateSend_send]; exact rests))
      | taken0 => exact taken (.inl rfl)
      | taken1 => exact taken (.inr rfl)
    · have sending := SendChannel.inSending_some sends message
      have heard := State.inSending_heard sending
      have idled : (s.updateSend n fun c => { c with noneHeard := 0 }).updateSend n SendChannel.idled =
          s.updateSend n fun c => { c.idled with noneHeard := 0 } := State.updateSend_updateSend ..
      refine ⟨fun again => ?_, fun last => ?_, fun a taken => ?_⟩
      · rw [State.sendFrame_aborted runs, State.attemptFails_again heard again]
        exact State.updateSend_updateSend ..
      · have aborted : s.sendFrame n (some .abort) = _ :=
          (State.sendFrame_aborted runs).trans ((State.attemptFails_last heard last).trans (by rw [idled]))
        refine ⟨fun r source room => aborted.trans ?_, fun source room => aborted.trans ?_, fun l source => aborted.trans ?_⟩
        · rw [source]
          exact State.sourceFailed_result room _ r
        · rw [source]
          exact State.sourceFailed_forward room _
        · rw [source]
          rfl
      · intro own
        have frame := State.sendFrame_taken runs taken
        have matched := SendChannel.matchedBy_sending sending a
        refine ⟨fun wrong => frame.trans (if_neg (mt matched.1 ?_)), fun right seen => ?_⟩
        · rintro ⟨right, seen⟩
          obtain other | ⟨first, unseen⟩ := wrong
          · exact other right
          · exact seen.elim (fun later => later first) fun seen => by rw [unseen] at seen; cases seen
        · have moves := frame.trans (if_pos (matched.2 ⟨right, seen⟩))
          refine ⟨fun more => moves.trans ((State.unitMatched_next heard more).trans (State.updateSend_updateSend ..)), fun last => ?_⟩
          have delivered : s.sendFrame n (some a) = _ :=
            moves.trans ((State.unitMatched_last heard last).trans (by rw [idled]))
          refine ⟨fun r source => delivered.trans ?_, fun source => delivered.trans ?_, fun l source => delivered.trans ?_⟩
          · rw [source]
            rfl
          · rw [source]
            exact State.sourceDelivered_forward _
          · rw [source]
            rfl

end Sys2Proof.Settled

/-! PROOFS. The receive channel, frame by frame, and a whole message received. -/

namespace Sys2Proof.Machine

section
variable {c : ReceiveChannel} {st : StationState} {f g : Nat} {u : UnitFields}

/-! ## One frame (R161–R163) -/

/-- The channel with these fields as its candidate. -/
def ReceiveChannel.offered (c : ReceiveChannel) (u : UnitFields) (g : Nat) : ReceiveChannel :=
  { c with candidate := some { fields := u, frame := g } }

theorem ReceiveChannel.aged_idle (idle : c.phase = .idle ∨ c.phase = .aborting) : c.aged = c := by
  unfold ReceiveChannel.aged
  obtain phase | phase := idle <;> rw [phase]

/-- Fields that repeat no candidate of the frame before become the candidate. -/
theorem ReceiveChannel.frame_unpaired (single : ∀ x, c.candidate = some x → x.fields ≠ u ∨ (x.frame + 1) % 8 ≠ g) :
    c.frame st g (some u) = ((c.offered u g).aged, .none) := by
  have alone : ¬ (c.candidate.any fun x => x.pairs u g) = true := by
    rw [Option.any_eq_true]
    rintro ⟨x, candidate, pairs⟩
    rw [Candidate.pairs, Bool.and_eq_true, beq_iff_eq, beq_iff_eq] at pairs
    exact (single x candidate).elim (· pairs.1) (· pairs.2)
  exact if_neg alone

/-- Fields seen in two consecutive good records are validated. -/
theorem ReceiveChannel.frame_paired (candidate : c.candidate = some { fields := u, frame := f }) {d : ReceiveChannel}
    {note : ReceiveNote} {new : Bool} (validated : (c.offered u ((f + 1) % 8)).validated st u = (d, note, new)) :
    c.frame st ((f + 1) % 8) (some u) = (if new then d else d.aged, note) := by
  have pairs : (c.candidate.any fun x => x.pairs u ((f + 1) % 8)) = true := by
    rw [candidate, Option.any_some, Candidate.pairs, beq_self_eq_true, beq_self_eq_true]
    rfl
  refine (if_pos pairs).trans ?_
  rw [ReceiveChannel.offered] at validated
  rw [validated]
  cases new <;> rfl

theorem ReceiveChannel.validated_none (none_ : u.mark = .none) : c.validated st u = (c.noneUnit, .none, false) := by
  unfold ReceiveChannel.validated
  rw [none_]

theorem ReceiveChannel.validated_repeated (marked : u.mark ≠ .none) (last : c.lastTaken = some (u.mark, u.parity)) :
    c.validated st u = (c, .none, false) := by
  unfold ReceiveChannel.validated
  split
  next none_ => exact absurd none_ marked
  next => exact if_pos last
  next => exact if_pos last

theorem ReceiveChannel.validated_first (first : u.mark = .first) (new : c.lastTaken ≠ some (u.mark, u.parity)) :
    c.validated st u = ((c.kindUnit st u).1, (c.kindUnit st u).2, true) := by
  unfold ReceiveChannel.validated
  rw [first] at new ⊢
  exact if_neg new

theorem ReceiveChannel.validated_next_idle (next : u.mark = .next) (new : c.lastTaken ≠ some (u.mark, u.parity))
    (idle : c.phase = .idle ∨ c.phase = .aborting) : c.validated st u = (c, .none, false) := by
  unfold ReceiveChannel.validated
  rw [next] at new ⊢
  refine (if_neg new).trans ?_
  obtain phase | phase := idle <;> rw [phase]

theorem ReceiveChannel.validated_next {p : Partial} (next : u.mark = .next) (new : c.lastTaken ≠ some (u.mark, u.parity))
    (receives : c.phase = .receiving p) : c.validated st u = ((c.nextUnit p u).1, (c.nextUnit p u).2, true) := by
  unfold ReceiveChannel.validated
  rw [next] at new ⊢
  refine (if_neg new).trans ?_
  rw [receives]

theorem ReceiveChannel.noneUnit_idle (idle : c.phase = .idle) : c.noneUnit = { c with answer := .none } := by
  unfold ReceiveChannel.noneUnit
  rw [idle]

theorem ReceiveChannel.noneUnit_busy (busy : c.phase ≠ .idle) : c.noneUnit = c.abandoned := by
  unfold ReceiveChannel.noneUnit
  split
  next idle => exact absurd idle busy
  next => rfl
  next => rfl

/-! ## What a taken unit does (R162, R163) -/

theorem ReceiveChannel.kindUnit_refused (rejected : st = .rejected) : c.kindUnit st u = (c.refused u, .none) := if_pos rejected

theorem ReceiveChannel.kindUnit_unknown (heard : st ≠ .rejected) (unknown : upKindOf u.unit = none) :
    c.kindUnit st u = (c.refused u, .badValue u.unit) := by
  refine (if_neg heard).trans ?_
  rw [unknown]

theorem ReceiveChannel.kindUnit_known (heard : st ≠ .rejected) {k : UpKind} (known : upKindOf u.unit = some k) :
    c.kindUnit st u = if (st = .alive ∨ st = .enrolling) ∧ k ≠ .enrolPage then (c.refused u, .none)
      else ({ c with phase := .receiving { kind := k, length := none, body := [] }, answer := .taken0,
                     lastTaken := some (u.mark, u.parity), stale := 0 }, .none) := by
  refine (if_neg heard).trans ?_
  rw [known]

/-- The channel once it took a NEXT unit. -/
def ReceiveChannel.took (c : ReceiveChannel) (u : UnitFields) (phase : ReceivePhase) : ReceiveChannel :=
  { c with phase := phase, answer := if u.parity then .taken1 else .taken0, lastTaken := some (u.mark, u.parity), stale := 0 }

section
variable {p : Partial}

theorem ReceiveChannel.nextUnit_length (first : p.length = none) : c.nextUnit p u =
    if 60 < u.unit.toNat then (c.refused u, .badValue u.unit)
    else if u.unit.toNat = 0 then (c.took u .idle, .complete { kind := p.kind, body := [] })
    else (c.took u (.receiving { p with length := some u.unit.toNat }), .none) := by
  unfold ReceiveChannel.nextUnit
  rw [first]
  rfl

theorem ReceiveChannel.nextUnit_body {n : Nat} (length : p.length = some n) : c.nextUnit p u =
    if n ≤ (p.body ++ [u.unit]).length then (c.took u .idle, .complete { kind := p.kind, body := p.body ++ [u.unit] })
    else (c.took u (.receiving { p with body := p.body ++ [u.unit] }), .none) := by
  unfold ReceiveChannel.nextUnit
  rw [length]
  rfl

end

theorem upKindOf_eq (b : Byte) : upKindOf b = if b = 0x11 then some .identRead else if b = 0x12 then some .keyEntry
    else if b = 0x13 then some .printOutcome else if b = 0x14 then some .enrolPage
    else if b = 0x15 then some .stationNote else none := by
  have value {x : Byte} {k : Nat} (same : x.toNat = k) : b = x ↔ b.toNat = k := by
    rw [← BitVec.toNat_inj, same]
  unfold upKindOf
  simp only [value (show (0x11 : Byte).toNat = 0x11 from rfl), value (show (0x12 : Byte).toNat = 0x12 from rfl),
    value (show (0x13 : Byte).toNat = 0x13 from rfl), value (show (0x14 : Byte).toNat = 0x14 from rfl),
    value (show (0x15 : Byte).toNat = 0x15 from rfl)]
  split <;> simp_all

theorem upKindOf_byte (k : UpKind) : upKindOf k.byte = some k := by
  cases k <;> rfl

/-! ## Units shown twice, and a whole message (R161, R167) -/

/-- The candidate of a channel, if any, differs from the fields to come. -/
def ReceiveChannel.Fresh (c : ReceiveChannel) (u : UnitFields) : Prop := ∀ x, c.candidate = some x → x.fields ≠ u

theorem ReceiveChannel.run_cons (x : Option UnitFields) (rest : List (Option UnitFields)) : c.run st f (x :: rest) =
    (((c.frame st f x).1.run st ((f + 1) % 8) rest).1,
      (c.frame st f x).2 :: ((c.frame st f x).1.run st ((f + 1) % 8) rest).2) := rfl

/-- A unit in two consecutive good records is validated by the second. -/
theorem ReceiveChannel.run_twice (fresh : c.Fresh u) {d : ReceiveChannel} {note : ReceiveNote}
    (validated : (((c.offered u f).aged).offered u ((f + 1) % 8)).validated st u = (d, note, true))
    (rest : List (Option UnitFields)) : c.run st f (some u :: some u :: rest) =
      ((d.run st (((f + 1) % 8 + 1) % 8) rest).1, .none :: note :: (d.run st (((f + 1) % 8 + 1) % 8) rest).2) := by
  have shown : c.frame st f (some u) = _ := ReceiveChannel.frame_unpaired fun x candidate => .inl (fresh x candidate)
  have candidate : ((c.offered u f).aged).candidate = some { fields := u, frame := f } := by
    unfold ReceiveChannel.aged
    split <;> rfl
  have again := ReceiveChannel.frame_paired (st := st) candidate validated
  rw [ReceiveChannel.run_cons, shown, ReceiveChannel.run_cons, again, if_pos rfl]

/-- What ageing and a candidate leave of a channel. -/
theorem ReceiveChannel.aged_offered (c : ReceiveChannel) (u : UnitFields) (f g : Nat) :
    (((c.offered u f).aged).offered u g).phase = c.phase ∧ (((c.offered u f).aged).offered u g).lastTaken = c.lastTaken
    ∧ (((c.offered u f).aged).offered u g).candidate = some { fields := u, frame := g } := by
  unfold ReceiveChannel.aged
  split <;> exact ⟨rfl, rfl, rfl⟩

/-- The body units still to come complete the message and leave the answer to the last of them. -/
theorem ReceiveChannel.run_body (todo : List Byte) : ∀ (c : ReceiveChannel) (f : Nat) (p : Partial) (parity : Bool),
    todo ≠ [] → c.phase = .receiving p → p.length = some (p.body.length + todo.length) →
    c.lastTaken ≠ some (.next, parity) → (∀ x, c.candidate = some x → (x.fields.mark, x.fields.parity) ≠ (.next, parity)) →
    let out := c.run .enrolled f ((nextUnits parity todo).flatMap fun u => [some u, some u])
    out.2.filter (fun x => decide (x ≠ .none)) = [.complete { kind := p.kind, body := p.body ++ todo }]
      ∧ out.1.phase = .idle ∧ out.1.answer = takenAnswer (if todo.length % 2 = 1 then parity else !parity) := by
  induction todo with
  | nil => exact fun _ _ _ _ some_ => absurd rfl some_
  | cons b todo ih =>
    intro c f p parity _ receives length new fresh
    let u : UnitFields := { mark := .next, parity := parity, unit := b }
    let e := ((c.offered u f).aged).offered u ((f + 1) % 8)
    obtain ⟨phase, lastTaken, candidate⟩ := c.aged_offered u f ((f + 1) % 8)
    have validated : e.validated .enrolled u = _ :=
      ReceiveChannel.validated_next rfl (lastTaken ▸ new) (phase.trans receives)
    have body := ReceiveChannel.nextUnit_body (c := e) (u := u) length
    have twice {d : ReceiveChannel} {note : ReceiveNote} (taken : e.nextUnit p u = (d, note)) :
        c.run .enrolled f ((nextUnits parity (b :: todo)).flatMap fun u => [some u, some u]) = _ :=
      ReceiveChannel.run_twice (c := c) (u := u) (f := f) (fun x candidate same => fresh x candidate (by rw [same]))
        (by rw [validated, taken]) ((nextUnits (!parity) todo).flatMap fun u => [some u, some u])
    intro out
    cases todo with
    | nil =>
      have last : e.nextUnit p u = _ := body.trans (if_pos (by simp))
      have outs : out = _ := twice last
      rw [outs]
      refine ⟨?_, rfl, ?_⟩
      · rfl
      · rfl
    | cons b' more =>
      have taken : e.nextUnit p u = _ := body.trans (if_neg (by simp))
      have outs : out = _ := twice taken
      obtain ⟨notes, idle, answer⟩ := ih (e.took u (.receiving { p with body := p.body ++ [b] })) (((f + 1) % 8 + 1) % 8)
        { p with body := p.body ++ [b] } (!parity) (by simp) rfl
        (by rw [length]; simp; omega) (by simp [ReceiveChannel.took, u])
        (by
          intro x same
          rw [show (e.took u _).candidate = _ from candidate] at same
          cases same
          simp [u])
      rw [outs]
      refine ⟨?_, idle, ?_⟩
      · refine Eq.trans ?_ (notes.trans (by rw [List.append_assoc]; rfl))
        rfl
      · refine answer.trans (congrArg takenAnswer ?_)
        rw [Bool.not_not, List.length_cons, List.length_cons, List.length_cons]
        obtain even | odd := Nat.mod_two_eq_zero_or_one more.length
        · rw [if_pos (by omega), if_neg (by omega)]
        · rw [if_neg (by omega), if_pos (by omega)]

/-- The kind unit begins a message. -/
theorem ReceiveChannel.run_kind (none_ : c.candidate = none) (last : c.lastTaken ≠ some (.first, false)) (k : UpKind)
    (rest : List (Option UnitFields)) : ∃ d : ReceiveChannel,
      d.phase = .receiving { kind := k, length := none, body := [] } ∧ d.lastTaken = some (.first, false)
      ∧ (∀ x, d.candidate = some x → x.fields.mark = .first)
      ∧ c.run .enrolled f (some { mark := .first, parity := false, unit := k.byte }
          :: some { mark := .first, parity := false, unit := k.byte } :: rest) =
        ((d.run .enrolled (((f + 1) % 8 + 1) % 8) rest).1, .none :: .none :: (d.run .enrolled (((f + 1) % 8 + 1) % 8) rest).2) := by
  obtain ⟨-, lastTaken, candidate⟩ := c.aged_offered { mark := .first, parity := false, unit := k.byte } f ((f + 1) % 8)
  refine ⟨_, rfl, rfl, ?_, ReceiveChannel.run_twice (d := { ((c.offered
      { mark := .first, parity := false, unit := k.byte } f).aged).offered { mark := .first, parity := false, unit := k.byte }
        ((f + 1) % 8) with phase := .receiving { kind := k, length := none, body := [] }, answer := .taken0,
                           lastTaken := some (.first, false), stale := 0 }) ?_ ?_ rest⟩
  · intro x shown
    cases candidate.symm.trans shown
    rfl
  · intro x shown
    rw [none_] at shown
    cases shown
  · refine (ReceiveChannel.validated_first rfl (lastTaken ▸ last)).trans ?_
    rw [ReceiveChannel.kindUnit_known (by simp) (upKindOf_byte k), if_neg (by simp)]

/-- The length unit and the body units complete it. -/
theorem ReceiveChannel.run_length {k : UpKind} (receives : c.phase = .receiving { kind := k, length := none, body := [] })
    (last : c.lastTaken = some (.first, false)) (candidate : ∀ x, c.candidate = some x → x.fields.mark = .first)
    {body : List Byte} (short : body.length ≤ 60) :
    let out := c.run .enrolled f ((nextUnits true (BitVec.ofNat 8 body.length :: body)).flatMap fun u => [some u, some u])
    out.2.filter (fun x => decide (x ≠ .none)) = [.complete { kind := k, body := body }]
      ∧ out.1.phase = .idle ∧ out.1.answer = takenAnswer (body.length % 2 == 0) := by
  let u : UnitFields := { mark := .next, parity := true, unit := BitVec.ofNat 8 body.length }
  let e : ReceiveChannel := ((c.offered u f).aged).offered u ((f + 1) % 8)
  obtain ⟨phase, lastTaken, shown⟩ := c.aged_offered u f ((f + 1) % 8)
  have value : u.unit.toNat = body.length := by
    rw [BitVec.toNat_ofNat, Nat.mod_eq_of_lt (by omega)]
  have size := ReceiveChannel.nextUnit_length (c := e) (p := { kind := k, length := none, body := [] }) (u := u) rfl
  rw [value, if_neg (Nat.not_lt.2 short)] at size
  have twice {d : ReceiveChannel} {note : ReceiveNote} (taken : e.nextUnit { kind := k, length := none, body := [] } u = (d, note)) :
      c.run .enrolled f ((nextUnits true (BitVec.ofNat 8 body.length :: body)).flatMap fun u => [some u, some u]) = _ :=
    ReceiveChannel.run_twice (c := c) (u := u) (f := f) (st := .enrolled) (d := d) (note := note)
      (fun x offered same => by
        have first := candidate x offered
        rw [same] at first
        cases first)
      (by
        rw [ReceiveChannel.validated_next rfl (by rw [lastTaken, last]; simp [u]) (phase.trans receives), taken])
      ((nextUnits false body).flatMap fun u => [some u, some u])
  intro out
  by_cases empty : body = []
  · subst empty
    have outs : out = _ := twice (size.trans (if_pos rfl))
    rw [outs]
    exact ⟨rfl, rfl, rfl⟩
  · have some_ : body.length ≠ 0 := mt List.length_eq_zero_iff.1 empty
    have outs : out = _ := twice (size.trans (if_neg some_))
    obtain ⟨notes, idle, answer⟩ := ReceiveChannel.run_body body (e.took u (.receiving { kind := k, length := some body.length, body := [] }))
      (((f + 1) % 8 + 1) % 8) { kind := k, length := some body.length, body := [] } false empty rfl (by simp)
      (by simp [ReceiveChannel.took, u])
      (by
        intro x same
        rw [show (e.took u _).candidate = _ from shown] at same
        cases same
        simp [u])
    rw [outs]
    refine ⟨notes, idle, answer.trans (congrArg takenAnswer ?_)⟩
    obtain even | odd := Nat.mod_two_eq_zero_or_one body.length
    · rw [even]
      rfl
    · rw [odd]
      rfl

end

end Sys2Proof.Machine

namespace Sys2Proof.Settled
open Machine

/-- Settles O40: each frame of a working channel by the fields it validates, and a whole message by its units in turn. -/
theorem wholeMessageReceived : Obligations.WholeMessageReceived := by
  refine ⟨fun c st f u candidate new _ _ => ?taken, fun c st _ _ => ?frames, upKindOf_eq, rfl, rfl,
    fun c k body f short _ idle none_ last => ?whole⟩
  case taken =>
    intro g seen refused
    have frame {d : ReceiveChannel} {note : ReceiveNote} (validated : (c.offered u g).validated st u = (d, note, true)) :
        c.frame st g (some u) = (d, note) := ReceiveChannel.frame_paired candidate validated
    refine ⟨fun first => ?_, fun k next receives long => ?_⟩
    · have kind {d : ReceiveChannel} {note : ReceiveNote} (taken : (c.offered u g).kindUnit st u = (d, note)) :
          c.frame st g (some u) = (d, note) :=
        frame ((ReceiveChannel.validated_first (c := c.offered u g) first new).trans (by rw [taken]))
      refine ⟨fun rejected => kind (ReceiveChannel.kindUnit_refused rejected), fun heard unknown =>
        kind (ReceiveChannel.kindUnit_unknown heard unknown), fun k heard known => ⟨fun early other => ?_, fun begins => ?_⟩⟩
      · exact kind ((ReceiveChannel.kindUnit_known heard known).trans (if_pos ⟨early, other⟩))
      · refine kind ((ReceiveChannel.kindUnit_known heard known).trans (if_neg ?_))
        rintro ⟨early, other⟩
        obtain ⟨alive, enrolling⟩ | page := begins
        · exact early.elim alive enrolling
        · exact other page
    · refine frame ((ReceiveChannel.validated_next (c := c.offered u g) next new receives).trans ?_)
      rw [ReceiveChannel.nextUnit_length rfl, if_pos long]
      rfl
  case frames =>
    intro aged
    have ages (x : ReceiveChannel) : aged x = x.aged := rfl
    refine ⟨fun g => rfl, fun g u single => ReceiveChannel.frame_unpaired single, fun f u candidate => ?_⟩
    intro g seen
    have frame {d : ReceiveChannel} {note : ReceiveNote} {new : Bool} (validated : seen.validated st u = (d, note, new)) :
        c.frame st g (some u) = (if new then d else d.aged, note) := ReceiveChannel.frame_paired candidate validated
    refine ⟨fun none_ => ⟨fun idle => ?_, fun busy => ?_⟩, fun marked last =>
      frame (ReceiveChannel.validated_repeated (c := seen) marked last), fun next new => ⟨fun idle => ?_, fun p receives => ?_⟩⟩
    · refine (frame (ReceiveChannel.validated_none (c := seen) none_)).trans ?_
      rw [ReceiveChannel.noneUnit_idle (c := seen) idle]
      exact congrArg (·, ReceiveNote.none) (ReceiveChannel.aged_idle (.inl idle))
    · refine (frame (ReceiveChannel.validated_none (c := seen) none_)).trans ?_
      rw [ReceiveChannel.noneUnit_busy (c := seen) busy]
      rfl
    · refine (frame (ReceiveChannel.validated_next_idle (c := seen) next new idle)).trans ?_
      exact congrArg (·, ReceiveNote.none) (ReceiveChannel.aged_idle (c := seen) idle)
    · intro taken
      have unit : c.frame st g (some u) = seen.nextUnit p u := frame (ReceiveChannel.validated_next (c := seen) next new receives)
      refine ⟨fun first => ?_, fun n length => ?_⟩
      · have taken := unit.trans (ReceiveChannel.nextUnit_length first)
        refine ⟨fun zero => taken.trans ?_, fun some_ short => taken.trans ?_, fun long => taken.trans (if_pos long)⟩
        · rw [if_neg (by omega), if_pos zero]
          rfl
        · rw [if_neg (by omega), if_neg (by omega)]
          rfl
      · have taken := unit.trans (ReceiveChannel.nextUnit_body length)
        intro body
        exact ⟨fun full => taken.trans (if_pos full), fun more => taken.trans (if_neg (Nat.not_le.2 more))⟩
  case whole =>
    intro out
    obtain ⟨d, receives, lastTaken, candidate, began⟩ := ReceiveChannel.run_kind (f := f) none_ last k
      ((nextUnits true (BitVec.ofNat 8 body.length :: body)).flatMap fun u => [some u, some u])
    have outs : out = _ := began
    rw [outs]
    exact ReceiveChannel.run_length receives lastTaken candidate short

end Sys2Proof.Settled

/-! PROOFS. The receiver of the office line, and a frame received byte by byte. -/

namespace Sys2Proof.Machine

section
variable {s : State} {bytes t p : List Byte} {b : Byte}

/-! ## The office check (R159) -/

theorem officeCheck_append (bytes : List Byte) (b : Byte) : officeCheck (bytes ++ [b]) = [7, 6, 5, 4, 3, 2, 1, 0].foldl
    (fun (check : BitVec 16) (i : Nat) =>
      if check.getLsbD 15 = b.getLsbD i then check <<< 1 else (check <<< 1) ^^^ 0b0001000000100001#16) (officeCheck bytes) := by
  have bit (check : BitVec 16) (i : Nat) : officeCheckBit check (b.getLsbD i) =
      if check.getLsbD 15 = b.getLsbD i then check <<< 1 else (check <<< 1) ^^^ 0b0001000000100001#16 := by
    rw [officeCheckBit, BitVec.msb_eq_getLsbD_last]
    simp only [beq_iff_eq]
  have last : (byteBits b).foldl officeCheckBit (officeCheck bytes) =
      [7, 6, 5, 4, 3, 2, 1, 0].foldl (fun check i => officeCheckBit check (b.getLsbD i)) (officeCheck bytes) := rfl
  rw [officeCheck, List.flatMap_append, List.foldl_append]
  simp only [← bit]
  rw [← last, List.flatMap_singleton]
  rfl

/-- The two bytes of a word determine it and are determined by it. -/
theorem word_append_inj {a b : Byte} {w : BitVec 16} (same : (a ++ b : BitVec 16) = w) :
    [a, b] = [w.extractLsb' 8 8, w.extractLsb' 0 8] := by
  subst same
  have bit (i : Nat) : (a ++ b : BitVec 16).getLsbD i = if i < 8 then b.getLsbD i else a.getLsbD (i - 8) :=
    BitVec.getLsbD_append
  have high : (a ++ b : BitVec 16).extractLsb' 8 8 = a := by
    ext i hi
    rw [BitVec.getElem_extractLsb', bit, if_neg (by omega), Nat.add_sub_cancel_left, BitVec.getLsbD_eq_getElem]
  have low : (a ++ b : BitVec 16).extractLsb' 0 8 = b := by
    ext i hi
    rw [BitVec.getElem_extractLsb', bit, if_pos (by omega), Nat.zero_add, BitVec.getLsbD_eq_getElem]
  rw [high, low]

/-! ## The receiver byte by byte (R180) -/

theorem State.receiver_none (hunts : s.receiver = none) : { s with receiver := none } = s := by
  rw [← hunts]

theorem State.receiveBytes_append (s : State) (first rest : List Byte) :
    s.receiveBytes (first ++ rest) = (s.receiveBytes first).receiveBytes rest := forEach_append ..

theorem State.receiveBytes_singleton (s : State) (b : Byte) : s.receiveBytes [b] = s.receiveByte b := rfl

theorem State.receiveBytes_cons (s : State) (b : Byte) (rest : List Byte) :
    s.receiveBytes (b :: rest) = (s.receiveByte b).receiveBytes rest := rfl

theorem State.receiveByte_start (hunts : s.receiver = none) : s.receiveByte 0xC3 = { s with receiver := some [] } := by
  unfold State.receiveByte
  rw [hunts]
  exact if_pos rfl

theorem State.receiveByte_noise (hunts : s.receiver = none) (noise : b ≠ 0xC3) : s.receiveByte b = s := by
  unfold State.receiveByte
  rw [hunts]
  exact if_neg noise

theorem State.receiveBytes_noise (hunts : s.receiver = none) {noise : List Byte} (other : ∀ b ∈ noise, b ≠ 0xC3) :
    s.receiveBytes noise = s :=
  forEach_id _ _ _ fun b mem => State.receiveByte_noise hunts (other b mem)

theorem State.receiveByte_first (s : State) (b : Byte) :
    ({ s with receiver := some [] } : State).receiveByte b = { s with receiver := some [b] } := rfl

theorem State.receiveByte_unsized {taken : List Byte} (two : 2 ≤ (taken ++ [b]).length) (unsized : frameSize (taken ++ [b]) = none) :
    ({ s with receiver := some taken } : State).receiveByte b = { s with receiver := none } := by
  unfold State.receiveByte
  refine (if_neg (Nat.not_lt.2 two)).trans ?_
  rw [unsized]

/-- The bytes of a frame after its start byte, as many as its length field says. -/
structure Sized (t : List Byte) : Prop where
  size : frameSize t = some t.length
  long : 2 ≤ t.length

theorem frameSize_prefix (sized : Sized t) (held : p <+: t) (two : 2 ≤ p.length) : frameSize p = some t.length := by
  obtain ⟨rest, rfl⟩ := held
  cases p with
  | nil => simp at two
  | cons hi p =>
    cases p with
    | nil => simp at two
    | cons lo p => exact sized.size

/-- The receiver holds what came of a frame. -/
theorem State.receiveBytes_held (sized : Sized t) (held : p <+: t) (short : p.length < t.length) :
    ({ s with receiver := some [] } : State).receiveBytes p = { s with receiver := some p } := by
  induction p using List.reverseRecOn with
  | nil => rfl
  | append_singleton p b ih =>
    have before : p <+: t := (List.prefix_append p [b]).trans held
    rw [State.receiveBytes_append, ih before (Nat.lt_of_le_of_lt (by simp) short)]
    rw [State.receiveBytes_singleton]
    unfold State.receiveByte
    dsimp only
    by_cases two : (p ++ [b]).length < 2
    · exact if_pos two
    · rw [if_neg two, frameSize_prefix sized held (Nat.not_lt.1 two)]
      exact if_pos short

/-- A whole frame is judged. -/
theorem State.receiveBytes_whole (sized : Sized t) :
    ({ s with receiver := some [] } : State).receiveBytes t =
      (frameRequest t).elim { s with receiver := none } fun x => ({ s with receiver := none } : State).arrive x.1 x.2.1 x.2.2 := by
  obtain ⟨p, b, rfl⟩ : ∃ p b, t = p ++ [b] := by
    have some_ : t ≠ [] := by
      rintro rfl
      exact absurd sized.long (by simp)
    exact ⟨t.dropLast, t.getLast some_, (List.dropLast_append_getLast some_).symm⟩
  rw [State.receiveBytes_append, State.receiveBytes_held sized (List.prefix_append ..) (by simp)]
  rw [State.receiveBytes_singleton]
  unfold State.receiveByte
  dsimp only
  rw [if_neg (Nat.not_lt.2 sized.long), sized.size]
  refine (if_neg (Nat.lt_irrefl _)).trans ?_
  cases frameRequest (p ++ [b]) <;> rfl

/-- A whole frame sent to a receiver that hunts. -/
theorem State.receives_whole (hunts : s.receiver = none) (sized : Sized t) : exec (.officeFrame (0xC3 :: t)) s =
    .next ((frameRequest t).elim s fun x => s.arrive x.1 x.2.1 x.2.2) := by
  refine congrArg Host.Outcome.next ?_
  rw [State.receiveBytes_cons, State.receiveByte_start hunts, State.receiveBytes_whole sized, State.receiver_none hunts]

/-! ## The frames of R159 -/

section
variable {hi lo kind tag a b : Byte} {body : List Byte}

theorem sized_frame (length : hi.toNat * 256 + lo.toNat = body.length + 2) (short : body.length ≤ 1024) :
    Sized (hi :: lo :: kind :: tag :: (body ++ [a, b])) := by
  refine ⟨?_, by simp⟩
  have count : officeLength hi lo = body.length + 2 := length
  have range : inRange 2 1026 (officeLength hi lo) = true := by
    rw [count, inRange]
    simp
    omega
  refine (if_pos range).trans ?_
  rw [count]
  simp

theorem frameRequest_frame (length : hi.toNat * 256 + lo.toNat = body.length + 2) :
    frameRequest (hi :: lo :: kind :: tag :: (body ++ [a, b])) =
      (requestKindOf kind).bind fun k => if (a ++ b : BitVec 16) = officeCheck (hi :: lo :: kind :: tag :: body)
        then some (k, tag, body) else none := by
  have count : officeLength hi lo = body.length + 2 := length
  have covered : (hi :: lo :: kind :: tag :: (body ++ [a, b])).take (officeLength hi lo + 2) = hi :: lo :: kind :: tag :: body := by
    rw [count]
    simp
  have high : (hi :: lo :: kind :: tag :: (body ++ [a, b]))[officeLength hi lo + 2]? = some a := by
    rw [count]
    simp
  have low : (hi :: lo :: kind :: tag :: (body ++ [a, b]))[officeLength hi lo + 3]? = some b := by
    rw [count]
    simp
  unfold frameRequest
  dsimp only
  rw [high, low, covered]
  cases requestKindOf kind <;> rfl

theorem requestKindOf_byte (k : RequestKind) : requestKindOf k.byte = some k := by
  cases k <;> rfl

theorem requestKindOf_other (request : kind ≠ 0x51) (forward : kind ≠ 0x54) : requestKindOf kind = none := by
  have value {x : Byte} {k : Nat} (other : kind ≠ x) (same : x.toNat = k) : kind.toNat ≠ k := by
    rw [← same]
    exact mt BitVec.toNat_inj.1 other
  unfold requestKindOf
  split
  next same => exact absurd same (value request rfl)
  next same => exact absurd same (value forward rfl)
  next => rfl

end

end

end Sys2Proof.Machine

namespace Sys2Proof.Settled
open Machine

/-- Settles O51: bytes in parts, noise and bad lengths, and a whole frame by its kind, its check and the room there is. -/
theorem officeFrameArrives : Obligations.OfficeFrameArrives := by
  refine ⟨fun s first rest => ⟨s.receiveBytes first, rfl, congrArg Host.Outcome.next (s.receiveBytes_append first rest)⟩,
    fun s hunts => ⟨fun noise rest other => ?noise, fun hi lo rest length => ?length⟩, rfl, officeCheck_append,
    fun s kind tag body hunts short => ?frame⟩
  case noise =>
    refine congrArg Host.Outcome.next ((s.receiveBytes_append noise rest).trans ?_)
    rw [State.receiveBytes_noise hunts other]
  case length =>
    have unsized : frameSize [hi, lo] = none := by
      refine if_neg ?_
      rw [inRange, Bool.and_eq_true, decide_eq_true_iff, decide_eq_true_iff, officeLength]
      omega
    have dropped := State.receiveByte_unsized (s := s) (b := lo) (taken := [hi]) (Nat.le_refl 2) unsized
    refine congrArg Host.Outcome.next ?_
    rw [State.receiveBytes_cons, State.receiveByte_start hunts, State.receiveBytes_cons, State.receiveByte_first,
      State.receiveBytes_cons, dropped, State.receiver_none hunts]
  case frame =>
    obtain ⟨hi, lo, c1, c2, bytes, length, check⟩ := officeFrameBytes_split kind.byte tag short
    intro frame name
    have arrives : exec (.officeFrame frame) s = .next (s.arrive kind tag body) := by
      rw [show frame = _ from bytes, State.receives_whole hunts (sized_frame length short), frameRequest_frame length,
        requestKindOf_byte, Option.bind_some, if_pos check]
      rfl
    refine ⟨fun room => arrives.trans ?_, fun full room => arrives.trans ?_, fun full full' => arrives.trans ?_,
      fun other request forward => ?_, fun k some_ part => ?_, fun a b wrong => ?_⟩
    · exact congrArg Host.Outcome.next (if_pos room)
    · exact congrArg Host.Outcome.next ((if_neg (Nat.not_lt.2 full)).trans (if_pos room))
    · exact congrArg Host.Outcome.next ((if_neg (Nat.not_lt.2 full)).trans (if_neg (Nat.not_lt.2 full')))
    · obtain ⟨hi', lo', c1', c2', bytes', length', -⟩ := officeFrameBytes_split other tag short
      rw [bytes', State.receives_whole hunts (sized_frame length' short), frameRequest_frame length',
        requestKindOf_other request forward]
      rfl
    · obtain ⟨j, rfl⟩ : ∃ j, k = j + 1 := ⟨k - 1, by omega⟩
      have start : frame.take (j + 1) = 0xC3 :: (hi :: lo :: kind.byte :: tag :: (body ++ [c1, c2])).take j := by
        rw [show frame = _ from bytes]
        rfl
      have shorter : j < (hi :: lo :: kind.byte :: tag :: (body ++ [c1, c2])).length := by
        rw [show frame = _ from bytes, List.length_cons] at part
        omega
      rw [start]
      refine congrArg Host.Outcome.next ?_
      rw [State.receiveBytes_cons, State.receiveByte_start hunts, State.receiveBytes_held (sized_frame length short)
        (List.take_prefix ..) (by rw [List.length_take]; omega)]
      rfl
    · have start : frame.take (body.length + 5) = 0xC3 :: hi :: lo :: kind.byte :: tag :: body := by
        rw [show frame = _ from bytes]
        simp
      have last : frame.drop (body.length + 5) = [c1, c2] := by
        rw [show frame = _ from bytes]
        simp
      have mismatch : (a ++ b : BitVec 16) ≠ officeCheck (hi :: lo :: kind.byte :: tag :: body) := fun same =>
        wrong (last.trans ((word_append_inj check).trans (word_append_inj same).symm))
      have framed : frame.take (body.length + 5) ++ [a, b] = 0xC3 :: hi :: lo :: kind.byte :: tag :: (body ++ [a, b]) := by
        rw [start]
        rfl
      rw [framed, State.receives_whole hunts (sized_frame length short), frameRequest_frame length, requestKindOf_byte,
        Option.bind_some, if_neg mismatch]
      rfl

end Sys2Proof.Settled

/-! PROOFS. An upstream slot judged: the code taken and handed on, presence edges, a station's role and message. -/

namespace Sys2Proof.Machine

/-! ## The role of a station (R147) -/

/-- The first of the elements in order that a test holds of. -/
theorem head?_filter_eq_some {n : Nat} {xs : List (Fin n)} (sorted : xs.Pairwise (· < ·)) (p : Fin n → Bool) (l : Fin n) :
    (xs.filter p).head? = some l ↔ l ∈ xs ∧ p l = true ∧ ∀ m ∈ xs, m < l → p m = false := by
  induction xs with
  | nil => simp
  | cons x xs ih =>
    obtain ⟨below, sorted⟩ := List.pairwise_cons.1 sorted
    by_cases first : p x = true
    · rw [List.filter_cons_of_pos first, List.head?_cons, Option.some_inj]
      constructor
      · rintro rfl
        refine ⟨List.mem_cons_self, first, fun m mem less => ?_⟩
        obtain rfl | later := List.mem_cons.1 mem
        · exact absurd less (Nat.lt_irrefl _)
        · exact absurd (Fin.lt_trans (below m later) less) (Nat.lt_irrefl _)
      · rintro ⟨mem, -, none_⟩
        obtain rfl | later := List.mem_cons.1 mem
        · rfl
        · have absent := none_ x List.mem_cons_self (below l later)
          rw [first] at absent
          cases absent
    · rw [List.filter_cons_of_neg first, ih sorted]
      constructor
      · rintro ⟨mem, holds, none_⟩
        refine ⟨List.mem_cons_of_mem _ mem, holds, fun m mem' less => ?_⟩
        obtain rfl | later := List.mem_cons.1 mem'
        · exact eq_false_of_ne_true first
        · exact none_ m later less
      · rintro ⟨mem, holds, none_⟩
        obtain rfl | later := List.mem_cons.1 mem
        · exact absurd holds first
        · exact ⟨later, holds, fun m mem' => none_ m (List.mem_cons_of_mem _ mem')⟩

section
variable {s : State} {n : StationId}

theorem State.firstLane_iff (p : LaneRecord → Bool) (l : LaneId) : (s.lanesWhere p).head? = some l ↔
    (∃ r, s.laneRecord l = some r ∧ p r = true) ∧ ∀ m, m < l → ∀ r, s.laneRecord m = some r → ¬ p r = true := by
  rw [State.lanesWhere, head?_filter_eq_some (by decide), and_iff_right (mem_allLanes l), Option.any_eq_true]
  refine and_congr_right fun _ => ⟨fun none_ m less r record named => ?_, fun none_ m _ less => ?_⟩
  · have absent := none_ m (mem_allLanes m) less
    rw [record, Option.any_some, named] at absent
    cases absent
  · rw [← Bool.not_eq_true, Option.any_eq_true]
    rintro ⟨r, record, named⟩
    exact none_ m less r record named

theorem mem_allDecks (d : DeckId) : d ∈ allDecks := by
  revert d
  decide

theorem State.deckOfDigitizer_iff (d : DeckId) : s.deckOfDigitizer n = some d ↔
    (∃ r, (s.deck d).record = some r ∧ r.digitizer = n)
      ∧ ∀ e, e < d → ∀ r, (s.deck e).record = some r → r.digitizer ≠ n := by
  rw [State.deckOfDigitizer, head?_filter_eq_some (by decide), and_iff_right (mem_allDecks d), Option.any_eq_true]
  simp only [beq_iff_eq]
  refine and_congr_right fun _ => ⟨fun none_ e less r record named => ?_, fun none_ e _ less => ?_⟩
  · have absent := none_ e (mem_allDecks e) less
    rw [record, Option.any_some, named, beq_self_eq_true] at absent
    cases absent
  · rw [← Bool.not_eq_true, Option.any_eq_true]
    rintro ⟨r, record, named⟩
    exact none_ e less r record (beq_iff_eq.1 named)

theorem State.role_digitizer (digitizer : s.deckOfDigitizer n ≠ none) : s.role n = some .digitizer :=
  if_pos (Option.isSome_iff_ne_none.2 digitizer)

theorem State.namedBarrier_iff : (!(s.lanesWhere fun r => r.namesBarrier n).isEmpty) = true ↔
    ∃ l r, s.laneRecord l = some r ∧ (r.entryBarrier = n ∨ r.exitBarrier = n) := by
  rw [Bool.not_eq_true', List.isEmpty_eq_false_iff_exists_mem]
  simp only [mem_lanesWhere, namesBarrier_iff]

section
variable (undecked : s.deckOfDigitizer n = none)
include undecked

theorem State.role_barrier (barrier : ∃ l r, s.laneRecord l = some r ∧ (r.entryBarrier = n ∨ r.exitBarrier = n)) :
    s.role n = some .barrier :=
  (if_neg (by rw [undecked]; decide)).trans (if_pos (State.namedBarrier_iff.2 barrier))

variable (unbarred : ¬ ∃ l r, s.laneRecord l = some r ∧ (r.entryBarrier = n ∨ r.exitBarrier = n))
include unbarred

theorem State.role_reader (reader : s.laneOfReader n ≠ none) : s.role n = some .reader :=
  (if_neg (by rw [undecked]; decide)).trans ((if_neg (mt State.namedBarrier_iff.1 unbarred)).trans
    (if_pos (Option.isSome_iff_ne_none.2 reader)))

variable (unread : s.laneOfReader n = none)
include unread

theorem State.role_terminal {l : LaneId} {r : LaneRecord} (lane : s.laneOfTerminal n = some l) (record : s.laneRecord l = some r) :
    s.role n = some (.terminal r.reader.isNone) := by
  refine (if_neg (by rw [undecked]; decide)).trans ((if_neg (mt State.namedBarrier_iff.1 unbarred)).trans
    ((if_neg (by rw [unread]; decide)).trans ?_))
  rw [lane, Option.bind_some, record]

theorem State.role_unnamed (lane : s.laneOfTerminal n = none) : s.role n = none := by
  refine (if_neg (by rw [undecked]; decide)).trans ((if_neg (mt State.namedBarrier_iff.1 unbarred)).trans
    ((if_neg (by rw [unread]; decide)).trans ?_))
  rw [lane]
  rfl

end

/-! ## The taken code handed on (R145, R146) -/

section
variable {before : Option Code} {c : Code}

theorem State.handOn_none (roleless : s.role n = none) : s.handOn n before c = s := by
  unfold State.handOn
  rw [roleless]

theorem State.handOn_digitizer {d : DeckId} (role : s.role n = some .digitizer) (deck : s.deckOfDigitizer n = some d) :
    s.handOn n before c = (s.deckCode d before c).deckTold d := by
  unfold State.handOn
  rw [role]
  dsimp only
  rw [deck]

theorem State.handOn_barrier (role : s.role n = some .barrier) : s.handOn n before c = s.barrierCode n c := by
  unfold State.handOn
  rw [role]

theorem State.handOn_reader (role : s.role n = some .reader) : s.handOn n before c = s.readerCode n before c := by
  unfold State.handOn
  rw [role]

theorem State.handOn_terminal {needs : Bool} (role : s.role n = some (.terminal needs)) :
    s.handOn n before c = (s.terminalCode n before c).ticketCode n c := by
  unfold State.handOn
  rw [role]

theorem State.judgeCode_kind {kind : StationKind} (enrolled : (s.station n).kind = some kind)
    (room : codeDefined kind c = false → s.RoomForReport) :
    s.judgeCode n c = if codeDefined kind c = true then s else s.reported (.badCode n c) := by
  unfold State.judgeCode
  rw [enrolled, Option.all_some]
  obtain defined | undefined := Bool.eq_false_or_eq_true (codeDefined kind c)
  · rw [if_pos defined, if_pos defined]
  · rw [if_neg (by rw [undefined]; decide), if_neg (by rw [undefined]; decide), State.post_room (room undefined)]

/-- A code is judged by the station's kind, then goes to the owner of its role. -/
theorem State.judged_handOn {kind : StationKind} (enrolled : (s.station n).kind = some kind)
    (room : codeDefined kind c = false → s.RoomForReport) (before : Option Code) :
    let told : State := if codeDefined kind c = true then s else s.reported (.badCode n c)
    (s.role n = none → (s.judgeCode n c).handOn n before c = told)
    ∧ (∀ d, s.role n = some .digitizer → s.deckOfDigitizer n = some d →
      (s.judgeCode n c).handOn n before c = (told.deckCode d before c).deckTold d)
    ∧ (s.role n = some .barrier → (s.judgeCode n c).handOn n before c = told.barrierCode n c)
    ∧ (s.role n = some .reader → (s.judgeCode n c).handOn n before c = told.readerCode n before c)
    ∧ ∀ needs, s.role n = some (.terminal needs) →
      (s.judgeCode n c).handOn n before c = (told.terminalCode n before c).ticketCode n c := by
  intro told
  have judged : s.judgeCode n c = told := State.judgeCode_kind enrolled room
  have role : told.role n = s.role n := by
    simp only [told]
    split <;> rfl
  have deck : told.deckOfDigitizer n = s.deckOfDigitizer n := by
    simp only [told]
    split <;> rfl
  rw [judged]
  exact ⟨fun none_ => State.handOn_none (role.trans none_),
    fun d digitizer named => State.handOn_digitizer (role.trans digitizer) (deck.trans named),
    fun barrier => State.handOn_barrier (role.trans barrier), fun reader => State.handOn_reader (role.trans reader),
    fun needs terminal => State.handOn_terminal (role.trans terminal)⟩

end

/-! ## A terminal's and a reader's code (R61) -/

section
variable {l : LaneId} {r : LaneRecord} {before : Option Code} {c : Code} {toFault toReady : StationNotice}

theorem State.noteFaultChange_fault {was : Option Bool} (clear : was ≠ some true) :
    s.noteFaultChange l n was true toFault toReady = s.post (.laneStation l n toFault) := if_pos ⟨rfl, clear⟩

theorem State.noteFaultChange_ready : s.noteFaultChange l n (some true) false toFault toReady = s.post (.laneStation l n toReady) :=
  (if_neg fun both => Bool.false_ne_true both.1).trans (if_pos ⟨Bool.false_ne_true, rfl⟩)

theorem State.noteFaultChange_same {was : Option Bool} {now : Bool} (same : was = some true ↔ now = true) :
    s.noteFaultChange l n was now toFault toReady = s :=
  (if_neg fun both => both.2 (same.2 both.1)).trans (if_neg fun both => both.1 (same.1 both.2))

theorem State.readerCode_eq (lane : s.laneOfReader n = some l) : s.readerCode n before c =
    s.noteFaultChange l n (before.map readerFault) (readerFault c) .readerFault .readerReady := by
  unfold State.readerCode
  rw [lane]

theorem readerFault_iff (c : Code) : readerFault c = true ↔ c ≠ 0 ∧ c ≠ 1 := by
  revert c
  decide

theorem State.terminalCode_fault (lane : s.laneOfTerminal n = some l) (record : s.laneRecord l = some r)
    (fault : terminalStatus c = .fault) : s.terminalCode n before c =
      s.noteFaultChange l n (before.map fun b => terminalStatus b == .fault) true .terminalFault .terminalReady := by
  unfold State.terminalCode
  rw [lane]
  dsimp only
  rw [record, fault]
  rfl

theorem State.terminalCode_shows (lane : s.laneOfTerminal n = some l) (record : s.laneRecord l = some r)
    {shown : Readiness} {present : Bool} (shows_ : terminalStatus c = .shows shown present) {t : State}
    (noted : s.noteFaultChange l n (before.map fun b => terminalStatus b == .fault) false .terminalFault .terminalReady = t) :
    s.terminalCode n before c = if (t.lane l).present = present then t
      else if present then t.presenceArrives l r else t.presenceDeparts l := by
  unfold State.terminalCode
  rw [lane]
  dsimp only
  rw [record, shows_]
  dsimp only
  rw [show (TerminalStatus.shows shown present == TerminalStatus.fault) = false from rfl, noted]
  cases present <;> cases (t.lane l).present <;> rfl

theorem departsToIdle_iff (x : LaneContext) : departsToIdle x = true ↔ x.state = .identify ∨ x.state = .awaitDeck
    ∨ x.state = .refused ∨ (x.state = .referred ∧ ∃ w, x.reason = some w ∧ w.beforeEntry = true) := by
  unfold departsToIdle
  cases x.state <;> simp [Option.any_eq_true]

theorem State.presenceDeparts_eq : s.presenceDeparts l = if departsToIdle (s.lane l)
    then (s.setLane l { s.lane l with present := false }).enterLane l .idle (.event .presenceDepart)
    else s.setLane l { s.lane l with present := false } := by
  have absent : (((s.setLane l { s.lane l with present := false }).enterLane l .idle (.event .presenceDepart)).lane l).present =
      false := by
    rw [State.enterLane_present, State.lane_setLane_self]
  have same : departsToIdle ((s.updateLane l fun c => { c with present := false }).lane l) = departsToIdle (s.lane l) := by
    rw [State.updateLane, State.lane_setLane_self]
    rfl
  unfold State.presenceDeparts
  dsimp only
  rw [same, State.updateLane]
  split
  · unfold State.enterIdle
    exact if_neg (by rw [absent]; decide)
  · rfl

theorem State.presenceArrives_eq : s.presenceArrives l r =
    ((if (s.lane l).state = .idle then (s.setLane l { s.lane l with present := true }).enterLane l .identify
      (.event .presenceArrive) else s.setLane l { s.lane l with present := true }).deckArrive r.deck).deckTold r.deck := by
  unfold State.presenceArrives State.updateLane
  dsimp only
  rw [State.lane_setLane_self]

end

/-! ## A slot judged (R140, R142, R144) -/

theorem State.upstreamSlot_judged {arrived : List Byte} {frame : Nat} (hand : s.frameInHand = some frame)
    (awaited : (s.slot n).awaited = true) : s.upstreamSlot n arrived = s.judgedSlot n (judgeSlot n frame arrived) := by
  unfold State.upstreamSlot
  rw [hand]
  exact if_pos awaited

theorem State.upstreamSlot_idle {arrived : List Byte} (judged : (s.slot n).awaited = false) : s.upstreamSlot n arrived = s := by
  unfold State.upstreamSlot
  split
  · rfl
  · exact if_neg (by rw [judged]; decide)

theorem State.slotAlive_eq : s.slotAlive n = if (s.slot n).alive = false ∧ (s.slot n).goodRun = 3
    then (s.setSlot n { s.slot n with alive := true }).stationAlive n else s :=
  if_congr (by simp [LoopSlot.aliveDue, Config.aliveRun]) rfl rfl

theorem State.slotSilent_eq : s.slotSilent n = if (s.slot n).alive = true ∧ (s.slot n).badRun = 6
    then (s.setSlot n { s.slot n with alive := false, taken := none, lastCode := none }).stationSilent n else s :=
  if_congr (by simp [LoopSlot.silentDue, Config.silentRun]) rfl rfl

theorem LoopSlot.takesCode_iff (x : LoopSlot) (c : Code) : x.takesCode c = true ↔ x.lastCode = some c ∧ x.taken ≠ some c := by
  simp [LoopSlot.takesCode]

theorem State.takeCode_held {c : Code} (held : ¬ (s.slot n).takesCode c = true) :
    s.takeCode n c = s.setSlot n { s.slot n with lastCode := some c } := by
  unfold State.takeCode
  dsimp only
  rw [if_neg held]
  exact if_neg fun both => held both.1

theorem State.takeCode_taken {c : Code} (takes : (s.slot n).takesCode c = true) : s.takeCode n c =
    if (s.station n).state = .enrolled then
      ((s.setSlot n { s.slot n with lastCode := some c, taken := some c }).judgeCode n c).handOn n (s.slot n).taken c
    else s.setSlot n { s.slot n with lastCode := some c, taken := some c } := by
  unfold State.takeCode
  dsimp only
  rw [if_pos takes]
  exact if_congr (by simp [takes, State.enrolled]) rfl rfl

/-- The channels of a station that is SILENT or LOST do not work. -/
theorem works_false {x : StationState} (away : x = .silent ∨ x = .lost) : x.works = false := by
  obtain rfl | rfl := away <;> rfl

section
variable {fields : Option UnitFields} (works : (s.station n).state.works = true)
include works

theorem State.receiveFrame_works {out : ReceiveChannel × ReceiveNote}
    (frame : (s.station n).receive.frame (s.station n).state (s.frameInHand.getD 0) fields = out) : s.receiveFrame n fields =
      match out.2 with
      | .none => s.setStation n { s.station n with receive := out.1 }
      | .complete m => (s.setStation n { s.station n with receive := out.1 }).updateStation n
          fun x => { x with complete := x.complete ++ [m] }
      | .badValue v => (s.setStation n { s.station n with receive := out.1 }).post (.badMessageValue n v) := by
  subst frame
  exact if_pos works

theorem State.receiveFrame_none
    (note : ((s.station n).receive.frame (s.station n).state (s.frameInHand.getD 0) fields).2 = .none) :
    s.receiveFrame n fields = s.setStation n { s.station n with
      receive := ((s.station n).receive.frame (s.station n).state (s.frameInHand.getD 0) fields).1 } := by
  rw [State.receiveFrame_works works rfl, note]

theorem State.receiveFrame_complete {m : UpMessage}
    (note : ((s.station n).receive.frame (s.station n).state (s.frameInHand.getD 0) fields).2 = .complete m) :
    s.receiveFrame n fields = s.setStation n { s.station n with
      receive := ((s.station n).receive.frame (s.station n).state (s.frameInHand.getD 0) fields).1
      complete := (s.station n).complete ++ [m] } := by
  rw [State.receiveFrame_works works rfl, note]
  simp only [State.updateStation, State.station_setStation_self, State.setStation_setStation]

theorem State.receiveFrame_bad {v : Byte}
    (note : ((s.station n).receive.frame (s.station n).state (s.frameInHand.getD 0) fields).2 = .badValue v)
    (room : s.RoomForReport) : s.receiveFrame n fields = (s.setStation n { s.station n with
      receive := ((s.station n).receive.frame (s.station n).state (s.frameInHand.getD 0) fields).1 }).reported
        (.badMessageValue n v) := by
  rw [State.receiveFrame_works works rfl, note]
  exact State.post_room (s := s.setStation n _) room _

end

theorem State.receiveFrame_stopped (stopped : (s.station n).state.works = false) (fields : Option UnitFields) :
    s.receiveFrame n fields = s :=
  if_neg (by rw [stopped]; decide)

theorem State.badSlot_stopped (stopped : (s.station n).state.works = false) :
    s.badSlot n = (s.updateSlot n LoopSlot.ranBad).slotSilent n := by
  unfold State.badSlot
  dsimp only
  rw [State.receiveFrame_stopped (s := s.updateSlot n _) stopped, State.sendFrame_stopped (s := s.updateSlot n _) stopped]

theorem State.updateSlot_setSlot (x : LoopSlot) (f : LoopSlot → LoopSlot) :
    (s.setSlot n x).updateSlot n f = s.setSlot n (f x) := by
  rw [State.updateSlot, State.slot_setSlot_self, State.setSlot_setSlot]

/-- A pair of a code that is already taken leaves it taken. -/
theorem LoopSlot.taken_after (x : LoopSlot) (c : Code) :
    (if x.takesCode c then some c else x.taken) = if x.lastCode = some c then some c else x.taken := by
  by_cases takes : x.takesCode c = true
  · rw [if_pos takes, if_pos ((x.takesCode_iff c).1 takes).1]
  · rw [if_neg takes]
    by_cases pair : x.lastCode = some c
    · rw [if_pos pair]
      exact Decidable.not_not.1 fun new => takes ((x.takesCode_iff c).2 ⟨pair, new⟩)
    · rw [if_neg pair]

/-- What a good record without a group leaves of the slot of a station that is SILENT or LOST, before its presence changes. -/
def LoopSlot.heard (x : LoopSlot) (r : UpRecord) : LoopSlot :=
  { x with goodRun := min 3 (x.goodRun + 1), badRun := 0, lastCode := some r.code,
           taken := if x.takesCode r.code then some r.code else x.taken, farHit := x.farHit || r.echo }

theorem State.goodSlot_stopped (stopped : (s.station n).state.works = false) {r : UpRecord}
    (plain : r.group = none ∨ s.deckOfDigitizer n = none) :
    s.goodSlot n r = (s.setSlot n ((s.slot n).heard r)).slotAlive n := by
  have other : (s.station n).state ≠ .enrolled := by
    intro enrolled
    rw [enrolled] at stopped
    cases stopped
  have code : s.takeCode n r.code = s.setSlot n { s.slot n with
      lastCode := some r.code, taken := if (s.slot n).takesCode r.code then some r.code else (s.slot n).taken } := by
    by_cases takes : (s.slot n).takesCode r.code = true
    · rw [State.takeCode_taken takes, if_neg other, if_pos takes]
    · rw [State.takeCode_held takes, if_neg takes]
  have handed (t : State) (deck : t.deckOfDigitizer n = s.deckOfDigitizer n) : t.handGroup n r.group = t := by
    unfold State.handGroup
    rw [deck]
    obtain none_ | none_ := plain
    · rw [none_]
    · rw [none_]
      cases r.group <;> rfl
  unfold State.goodSlot
  dsimp only
  rw [code, State.updateSlot_setSlot, State.receiveFrame_stopped (s := s.setSlot n _) stopped,
    State.sendFrame_stopped (s := s.setSlot n _) stopped, handed (s.setSlot n _) rfl, State.updateSlot_setSlot]
  rfl

/-! ## The deck told of a presence edge and of a read (R22, R29) -/

/-- A deck's rest idle time starts again, or it wakes. -/
theorem State.restart_wakes (t : State) (d : DeckId) : (t.restartIdle d).wakeDeckEvent d = match (t.deck d).state with
    | .active => t.setDeck d { t.deck d with restIdle := some 0 }
    | .warmRest => t.enterDeckState d .waking
    | .coldRest => t.enterDeckState d .capturing
    | .unconfigured | .waiting | .capturing | .waking | .fault => t := by
  unfold State.restartIdle State.wakeDeckEvent
  cases state : (t.deck d).state <;> simp [state]

theorem State.deckArrive_eq {d : DeckId} {r : DeckRecord} (record : (s.deck d).record = some r) : s.deckArrive d =
    ((if r.transitSpan = 0 then s else (s.setDeck d ((s.deck d).switched r (s.excited d))).replaceReading d).restartIdle
      d).wakeDeckEvent d := by
  unfold State.deckArrive
  rw [record]

end

end Sys2Proof.Machine

namespace Sys2Proof.Settled
open Machine

/-- Settles O7: a judged slot's handling in its order, the code taken and handed on, what a terminal, a reader and a deck make of
it, and a station's role. -/
theorem upstreamSlotCounted : Obligations.UpstreamSlotCounted := by
  refine ⟨fun s n arrived frame hand awaited => ?judged, fun s n c => ?takes, fun s n l r before c lane record => ?terminal,
    fun s n l before c lane room => ?reader, fun s d r record => ?deck, fun s n fields => ?receive, fun kind c => ?defined,
    rfl, rfl, rfl, rfl, rfl, rfl, fun c high => ?status, fun s n => ?role, fun s n arrived => ?quiet⟩
  case judged =>
    intro judged
    have runs := State.upstreamSlot_judged (arrived := arrived) hand awaited
    refine ⟨fun r good => ?_, fun wrong => ?_⟩
    · intro a b c d e
      refine congrArg Host.Outcome.next (runs.trans ?_)
      rw [good]
      exact State.slotAlive_eq (s := e)
    · intro b e
      refine congrArg Host.Outcome.next (runs.trans ?_)
      have bad : s.judgedSlot n (judgeSlot n frame arrived) = e.slotSilent n := by
        obtain outcome | outcome := wrong <;> (rw [outcome]; rfl)
      rw [bad]
      exact State.slotSilent_eq (s := e)
  case takes =>
    intro held anew
    refine ⟨fun same => State.takeCode_held ?_, fun pair new => ?_⟩
    · rw [LoopSlot.takesCode_iff]
      exact fun both => same.elim (· both.1) both.2
    · have takes := State.takeCode_taken ((LoopSlot.takesCode_iff _ _).2 ⟨pair, new⟩)
      refine ⟨fun other => takes.trans (if_neg other), fun kind enrolled known room => ?_⟩
      intro told
      rw [takes, if_pos enrolled]
      exact State.judged_handOn (s := anew) known room (s.slot n).taken
  case terminal =>
    intro wasFault
    have was : before.map (fun b => terminalStatus b == .fault) = some true ↔ wasFault := by
      simp [wasFault]
    refine ⟨fun fault => ?_, fun shown present shows_ ready t noted => ?_⟩
    · have code := State.terminalCode_fault (before := before) lane record fault
      refine ⟨fun again => code.trans (State.noteFaultChange_same (iff_of_true (was.2 again) rfl)), fun first room => ?_⟩
      rw [code, State.noteFaultChange_fault (mt was.1 first), State.post_room room]
    · have notes : s.noteFaultChange l n (before.map fun b => terminalStatus b == .fault) false .terminalFault .terminalReady = t := by
        obtain ⟨fault, rfl⟩ | ⟨clear, rfl⟩ := noted
        · rw [was.2 fault, State.noteFaultChange_ready, State.post_room (ready fault)]
        · exact State.noteFaultChange_same (iff_of_false (mt was.1 clear) Bool.false_ne_true)
      have lane_ : t.lane l = s.lane l := by
        obtain ⟨-, rfl⟩ | ⟨-, rfl⟩ := noted <;> rfl
      have code := State.terminalCode_shows lane record shows_ notes
      rw [lane_] at code
      refine ⟨fun same => code.trans (if_pos same), fun arrives absent => ?_, fun departs there => ?_⟩
      · intro u
        subst arrives
        have arrived := (code.trans (if_neg (by rw [absent]; decide))).trans ((if_pos rfl).trans State.presenceArrives_eq)
        rw [lane_] at arrived
        exact ⟨fun idle => arrived.trans (by rw [if_pos idle]), fun busy => arrived.trans (by rw [if_neg busy])⟩
      · intro u leaves
        subst departs
        have departed := (code.trans (if_neg (by rw [there]; decide))).trans
          ((if_neg Bool.false_ne_true).trans State.presenceDeparts_eq)
        rw [lane_] at departed
        exact ⟨fun goes => departed.trans (if_pos ((departsToIdle_iff _).2 goes)),
          fun stays => departed.trans (if_neg (mt (departsToIdle_iff _).1 stays))⟩
  case reader =>
    intro fault wasFault
    have was : before.map readerFault = some true ↔ wasFault := by
      simp [wasFault, fault, readerFault_iff]
    have now : readerFault c = true ↔ fault c := readerFault_iff c
    have code := State.readerCode_eq (before := before) (c := c) lane
    refine ⟨fun faulty clear => ?_, fun good was_ => ?_, fun same => code.trans (State.noteFaultChange_same ?_)⟩
    · rw [code, now.2 faulty, State.noteFaultChange_fault (mt was.1 clear), State.post_room room]
    · rw [code, eq_false_of_ne_true (mt now.1 good), was.2 was_, State.noteFaultChange_ready, State.post_room room]
    · rw [was, now]
      exact same.symm
  case deck =>
    intro switched wakes
    refine ⟨?_, State.restart_wakes s d⟩
    have same : (if r.transitSpan = 0 then s else (s.setDeck d ((s.deck d).switched r (s.excited d))).replaceReading d) =
        switched := by
      by_cases none_ : r.transitSpan = 0
      · exact (if_pos none_).trans (if_pos none_).symm
      · refine (if_neg none_).trans ((if_neg none_).trans ?_).symm
        rw [show (s.deck d).switched r (s.excited d) = _ from if_neg none_]
    rw [State.deckArrive_eq record, same]
    exact State.restart_wakes switched d
  case receive =>
    intro x out
    refine ⟨fun away => State.receiveFrame_stopped (works_false away) fields, fun silent lost => ?_⟩
    have works : x.state.works = true := by
      cases state : x.state with
      | silent => exact absurd state silent
      | lost => exact absurd state lost
      | alive | enrolling | enrolled | rejected => rfl
    refine ⟨fun note => State.receiveFrame_none works note, fun m note => State.receiveFrame_complete works note,
      fun v note room => State.receiveFrame_bad works note room⟩
  case defined =>
    cases kind <;> simp [codeDefined]
  case status =>
    revert c
    decide
  case role =>
    intro barrier
    refine ⟨fun l => ?_, fun l => ?_, State.deckOfDigitizer_iff, State.role_digitizer, State.role_barrier, State.role_reader,
      fun undecked unbarred unread => ⟨fun l r lane record => ?_, State.role_unnamed undecked unbarred unread⟩⟩
    · rw [State.laneOfTerminal, State.firstLane_iff]
      simp only [beq_iff_eq]
    · rw [State.laneOfReader, State.firstLane_iff]
      simp only [beq_iff_eq]
    · rw [State.role_terminal undecked unbarred unread lane record]
      cases r.reader <;> rfl
  case quiet =>
    refine ⟨fun judged => congrArg Host.Outcome.next (State.upstreamSlot_idle judged), fun frame hand awaited away => ?_⟩
    have runs := State.upstreamSlot_judged (arrived := arrived) hand awaited
    have stopped := works_false away
    refine ⟨fun wrong few => congrArg Host.Outcome.next (runs.trans ?_), fun r good plain few =>
      congrArg Host.Outcome.next (runs.trans ?_)⟩
    · have bad : s.judgedSlot n (judgeSlot n frame arrived) =
          (s.setSlot n { s.slot n with awaited := false }).badSlot n := by
        obtain outcome | outcome := wrong <;> (rw [outcome]; rfl)
      rw [bad, State.badSlot_stopped (s := s.setSlot n _) stopped, State.updateSlot_setSlot,
        State.slotSilent_eq, State.slot_setSlot_self, if_neg]
      · rfl
      · rintro ⟨alive, run⟩
        have run : min 6 ((s.slot n).badRun + 1) = 6 := run
        obtain dead | few := few
        · exact Bool.false_ne_true (dead.symm.trans alive)
        · omega
    · have handled : s.judgedSlot n (.good r) = (s.setSlot n { s.slot n with awaited := false }).goodSlot n r := rfl
      rw [good, handled, State.goodSlot_stopped (s := s.setSlot n _) stopped plain, State.slot_setSlot_self, State.setSlot_setSlot,
        State.slotAlive_eq, State.slot_setSlot_self, if_neg]
      · unfold LoopSlot.heard
        rw [LoopSlot.taken_after]
      · rintro ⟨dead, run⟩
        have run : min 3 ((s.slot n).goodRun + 1) = 3 := run
        obtain alive | few := few
        · exact Bool.false_ne_true (dead.symm.trans alive)
        · omega

end Sys2Proof.Settled

/-! PROOFS. Enrolment: pages stored, attempts that fail or are complete, and a restarted station. -/

namespace Sys2Proof.Machine

section
variable {s : State} {n : StationId} {p : EnrolPage} {kind : StationKind} {abilities : Abilities} {revision follow : Nat}
  {toggle : Bool} {more : List EnrolPage}

theorem State.updateStation_setStation (x : Station) (f : Station → Station) :
    (s.setStation n x).updateStation n f = s.setStation n (f x) := by
  rw [State.updateStation, State.station_setStation_self, State.setStation_setStation]

/-! ## Pages (R173) -/

theorem pagesComplete_iff (pages : List EnrolPage) : pagesComplete pages = true ↔ ∃ kind abilities revision follow toggle more,
    pages = .base kind abilities revision follow toggle :: more ∧ more.length = follow := by
  rw [pagesComplete, beq_iff_eq]
  cases pages with
  | nil => simp [announced]
  | cons p more =>
    cases p with
    | base kind abilities revision follow toggle =>
      simp [announced]
    | next number chunk toggle => simp [announced]

theorem pagesComplete_base : pagesComplete (.base kind abilities revision follow toggle :: more) = true ↔ more.length = follow := by
  rw [pagesComplete, beq_iff_eq]
  exact ⟨fun same => (Option.some.inj same).symm, fun same => congrArg some same.symm⟩

theorem abilitiesFit_iff (kind : StationKind) (x : Abilities) : abilitiesFit kind x = true ↔ (match kind with
    | .digitizer => x.cardReader = false ∧ x.keypad = false
    | .terminal => x.reducedRate = false ∧ x.off = false
    | .barrierDrive | .identReader =>
      x.reducedRate = false ∧ x.off = false ∧ x.cardReader = false ∧ x.keypad = false) := by
  cases kind <;> simp [abilitiesFit, and_assoc]

/-- A page stored, and what follows when it makes the number complete. -/
theorem State.storePage_eq (p : EnrolPage) : s.storePage n p =
    if pagesComplete ((s.station n).pages ++ [p]) then
      (s.setStation n { s.station n with state := .enrolling, pages := (s.station n).pages ++ [p] }).attemptComplete n
    else s.setStation n { s.station n with state := .enrolling, pages := (s.station n).pages ++ [p] } := by
  unfold State.storePage State.updateStation
  dsimp only
  rw [State.station_setStation_self]

theorem State.storePage_first (empty : (s.station n).pages = []) :
    s.storePage n (.base kind abilities revision follow toggle) =
      if follow = 0 then (s.setStation n { s.station n with
        state := .enrolling, pages := [.base kind abilities revision follow toggle] }).attemptComplete n
      else s.setStation n { s.station n with
        state := .enrolling, pages := [.base kind abilities revision follow toggle] } := by
  rw [State.storePage_eq, empty, List.nil_append]
  refine if_congr (pagesComplete_base.trans ?_) rfl rfl
  exact eq_comm

theorem State.storePage_more (enrolling : (s.station n).state = .enrolling) (p : EnrolPage) : s.storePage n p =
    if pagesComplete ((s.station n).pages ++ [p]) then
      (s.setStation n { s.station n with pages := (s.station n).pages ++ [p] }).attemptComplete n
    else s.setStation n { s.station n with pages := (s.station n).pages ++ [p] } := by
  have same : { s.station n with state := .enrolling, pages := (s.station n).pages ++ [p] } =
      { s.station n with pages := (s.station n).pages ++ [p] } :=
    congrArg (fun st => { s.station n with state := st, pages := (s.station n).pages ++ [p] }) enrolling.symm
  rw [State.storePage_eq, same]

theorem State.attemptFailed_again (few : (s.station n).failed < 6) : s.attemptFailed n = s.setStation n
    { s.station n with state := .alive, window := 0, pages := [], failed := (s.station n).failed + 1 } :=
  if_pos (Nat.succ_lt_succ few)

theorem State.attemptFailed_seventh (many : 6 ≤ (s.station n).failed) (room : s.RoomForReport) : s.attemptFailed n =
    (s.setStation n { s.station n with
      state := .rejected, rejection := some .noEnrol, failed := (s.station n).failed + 1, pages := [],
      send := { (s.station n).send with waiting := some (.rejected .noEnrol) } }).reported (.rejectedNoEnrol n) :=
  (if_neg (Nat.not_lt.2 (Nat.succ_le_succ many))).trans (State.post_room (s := s.setStation n _) room _)

/-- The seventh failure rejects the station. -/
theorem State.attemptFailed_rejected (many : 6 ≤ (s.station n).failed) : ((s.attemptFailed n).station n).state = .rejected := by
  unfold State.attemptFailed
  rw [if_neg (Nat.not_lt.2 (Nat.succ_le_succ many)), State.post_station, State.updateStation, State.station_setStation_self]

section
variable {x : Station} (here : s.station n = x)
include here

theorem State.pageArrives_alive_base (alive : x.state = .alive) :
    s.pageArrives n (.base kind abilities revision follow toggle) = s.storePage n (.base kind abilities revision follow toggle) := by
  unfold State.pageArrives
  dsimp only
  rw [here, alive]

theorem State.pageArrives_alive_next {number : Nat} {chunk : Text} (alive : x.state = .alive) :
    s.pageArrives n (.next number chunk toggle) = s.attemptFailed n := by
  unfold State.pageArrives
  dsimp only
  rw [here, alive]

theorem State.pageArrives_stale_next {number : Nat} {chunk : Text} (over_ : x.state = .enrolled ∨ x.state = .rejected) :
    s.pageArrives n (.next number chunk toggle) = s := by
  unfold State.pageArrives
  dsimp only
  obtain state | state := over_ <;> rw [here, state]

theorem State.pageArrives_rejected (rejected : x.state = .rejected) (p : EnrolPage) : s.pageArrives n p = s := by
  unfold State.pageArrives
  dsimp only
  cases p <;> rw [here, rejected]

theorem State.pageArrives_restart (enrolled : x.state = .enrolled) :
    s.pageArrives n (.base kind abilities revision follow toggle) =
      s.stationRestarts n (.base kind abilities revision follow toggle) := by
  unfold State.pageArrives
  dsimp only
  rw [here, enrolled]

variable {last : EnrolPage} (enrolling : x.state = .enrolling) (newest : x.pages.getLast? = some last)
include enrolling newest

theorem State.pageArrives_repeated (same : last.toggle = p.toggle) : s.pageArrives n p = s := by
  have repeats : x.repeatsPage p = true := by
    rw [Station.repeatsPage, newest, Option.any_some, beq_iff_eq]
    exact same
  unfold State.pageArrives
  dsimp only
  rw [here, enrolling]
  cases p <;> exact if_pos repeats

theorem State.pageArrives_next {number : Nat} {chunk : Text} (new : last.toggle ≠ toggle) :
    s.pageArrives n (.next number chunk toggle) =
      if number = last.number + 1 then s.storePage n (.next number chunk toggle) else s.attemptFailed n := by
  have anew : ¬ x.repeatsPage (.next number chunk toggle) = true := by
    rw [Station.repeatsPage, newest, Option.any_some, beq_iff_eq]
    exact new
  unfold State.pageArrives
  dsimp only
  rw [here, enrolling]
  refine (if_neg anew).trans (if_congr ?_ rfl rfl)
  rw [Station.followsPage, newest, Option.any_some, beq_iff_eq]
  rfl

theorem State.pageArrives_base (new : last.toggle ≠ toggle) :
    s.pageArrives n (.base kind abilities revision follow toggle) =
      s.breakAndStore n (.base kind abilities revision follow toggle) := by
  have anew : ¬ x.repeatsPage (.base kind abilities revision follow toggle) = true := by
    rw [Station.repeatsPage, newest, Option.any_some, beq_iff_eq]
    exact new
  unfold State.pageArrives
  dsimp only
  rw [here, enrolling]
  exact if_neg anew

end

/-! ## A complete attempt (R174) -/

theorem fitsRole_iff (kind : StationKind) (abilities : Abilities) (role : Option Role) : fitsRole kind abilities role = true ↔
    role = none ∨ ∃ r, role = some r ∧ kind = r.kind ∧ (r = .terminal true → abilities.cardReader = true) := by
  cases role with
  | none => simp [fitsRole]
  | some r => simp [fitsRole, imp_iff_not_or]

theorem State.attemptComplete_eq (pages : (s.station n).pages = .base kind abilities revision follow toggle :: more) :
    s.attemptComplete n =
      if fitsRole kind abilities (s.role n) then
        (s.setStation n { s.station n with kind := some kind, abilities := abilities, revision := some revision,
                                           serial := some (more.flatMap EnrolPage.chunk) }).enrols n kind revision
          (more.flatMap EnrolPage.chunk)
      else
        (s.setStation n { s.station n with kind := some kind, abilities := abilities, revision := some revision,
                                           serial := some (more.flatMap EnrolPage.chunk) }).mismatches n kind := by
  have detailed : s.updateStation n (fun x => x.detailed x.pages) = s.setStation n { s.station n with
      kind := some kind, abilities := abilities, revision := some revision, serial := some (more.flatMap EnrolPage.chunk) } :=
    congrArg (s.setStation n) (congrArg (s.station n).detailed pages)
  unfold State.attemptComplete
  rw [detailed]
  dsimp only
  rw [State.station_setStation_self]
  rfl

/-- A station that enrols: its report, the code handed on, its deck and its lanes (R33, R63, R174). -/
theorem State.enrols_eq (room : s.RoomForReport) (kind : StationKind) (revision : Nat) (serial : Text) :
    let handed : State := ((s.setStation n { s.station n with
      state := .enrolled, failed := 0, pages := [], send := { (s.station n).send with waiting := some .accepted } }).reported
        (.enrolled n kind (s.station n).abilities revision serial)).handOnEnrolled n
    s.enrols n kind revision serial = (match handed.deckOfDigitizer n with
      | none => handed
      | some d => (handed.digitizerEnrolled n).deckTold d).lanesSeeEnrolled n := by
  have enrolled : (s.updateStation n fun x =>
        { x with state := .enrolled, failed := 0, pages := [], send := { x.send with waiting := some .accepted } }).post
      (.enrolled n kind ((s.updateStation n fun x => { x with
        state := .enrolled, failed := 0, pages := [], send := { x.send with waiting := some .accepted } }).station n).abilities
          revision serial) =
      (s.setStation n { s.station n with
        state := .enrolled, failed := 0, pages := [], send := { (s.station n).send with waiting := some .accepted } }).reported
          (.enrolled n kind (s.station n).abilities revision serial) := by
    rw [State.updateStation, State.station_setStation_self]
    exact State.post_room (s := s.setStation n _) room _
  unfold State.enrols
  dsimp only
  rw [enrolled] <;> rfl

theorem State.mismatches_eq (room : s.RoomForReport) (kind : StationKind) : s.mismatches n kind = (s.setStation n { s.station n with
      state := .rejected, rejection := some .mismatch, pages := [],
      send := { (s.station n).send with waiting := some (.rejected .mismatch) } }).reported
        (.rejectedMismatch n kind (s.role n) (s.rolePlaces n)) :=
  State.post_room (s := s.setStation n _) room _

/-- What an attempt that fits leaves, the details written. -/
def Station.enrolledAs (x : Station) (kind : StationKind) (abilities : Abilities) (revision : Nat) (serial : Text) : Station :=
  { x with state := .enrolled, kind := some kind, abilities := abilities, revision := some revision, serial := some serial,
           failed := 0, pages := [], send := { x.send with waiting := some .accepted } }

/-- What an attempt that does not fit leaves. -/
def Station.mismatchedAs (x : Station) (kind : StationKind) (abilities : Abilities) (revision : Nat) (serial : Text) : Station :=
  { x with state := .rejected, rejection := some .mismatch, kind := some kind, abilities := abilities,
           revision := some revision, serial := some serial, pages := [],
           send := { x.send with waiting := some (.rejected .mismatch) } }

theorem State.attemptComplete_fits (pages : (s.station n).pages = .base kind abilities revision follow toggle :: more)
    (room : s.RoomForReport) (fits : fitsRole kind abilities (s.role n) = true) :
    let handed : State := ((s.setStation n ((s.station n).enrolledAs kind abilities revision (more.flatMap EnrolPage.chunk))).reported
      (.enrolled n kind abilities revision (more.flatMap EnrolPage.chunk))).handOnEnrolled n
    s.attemptComplete n = (match handed.deckOfDigitizer n with
      | none => handed
      | some d => (handed.digitizerEnrolled n).deckTold d).lanesSeeEnrolled n := by
  rw [State.attemptComplete_eq pages, if_pos fits, State.enrols_eq (s := s.setStation n _) room]
  simp only [State.station_setStation_self, State.setStation_setStation]
  rfl

theorem State.attemptComplete_mismatch (pages : (s.station n).pages = .base kind abilities revision follow toggle :: more)
    (room : s.RoomForReport) (misfit : ¬ fitsRole kind abilities (s.role n) = true) : s.attemptComplete n =
      (s.setStation n ((s.station n).mismatchedAs kind abilities revision (more.flatMap EnrolPage.chunk))).reported
        (.rejectedMismatch n kind (s.role n) (s.rolePlaces n)) := by
  rw [State.attemptComplete_eq pages, if_neg misfit, State.mismatches_eq (s := s.setStation n _) room]
  simp only [State.station_setStation_self, State.setStation_setStation]
  rfl

/-- The deck of an enrolled digitizer that waits begins its capture. -/
theorem State.digitizerEnrolled_told (t : State) : (match t.deckOfDigitizer n with
      | none => t
      | some d => (t.digitizerEnrolled n).deckTold d) = match t.deckOfDigitizer n with
      | none => t
      | some d => if (t.deck d).state = .waiting then (t.enterDeckState d .capturing).deckTold d else t.deckTold d := by
  cases deck : t.deckOfDigitizer n with
  | none => rfl
  | some d =>
    have enrolled : t.digitizerEnrolled n = if (t.deck d).state = .waiting then t.enterDeckState d .capturing else t := by
      unfold State.digitizerEnrolled
      rw [deck]
    dsimp only
    rw [enrolled]
    split <;> rfl

/-! ## A base page that breaks an attempt, or restarts a station (R173, R175) -/

theorem State.breakAndStore_last (many : 6 ≤ (s.station n).failed) (p : EnrolPage) : s.breakAndStore n p = s.attemptFailed n :=
  if_pos (State.attemptFailed_rejected many)

theorem State.breakAndStore_anew (few : (s.station n).failed < 6) :
    let u := s.setStation n { s.station n with
      state := .enrolling, window := 0, pages := [.base kind abilities revision follow toggle],
      failed := (s.station n).failed + 1 }
    s.breakAndStore n (.base kind abilities revision follow toggle) = if follow = 0 then u.attemptComplete n else u := by
  have failed := State.attemptFailed_again few
  have state : ((s.attemptFailed n).station n) = { s.station n with
      state := .alive, window := 0, pages := [], failed := (s.station n).failed + 1 } := by
    rw [failed, State.station_setStation_self]
  have stored : s.breakAndStore n (.base kind abilities revision follow toggle) =
      (s.attemptFailed n).storePage n (.base kind abilities revision follow toggle) :=
    if_neg (by rw [state]; simp)
  rw [stored, State.storePage_first (by rw [state]), state, failed, State.setStation_setStation]

/-- A base page stored in a station that attempts anew. -/
theorem State.storePage_anew : let u := s.setStation n { s.station n with
      state := .enrolling, window := 0, pages := [.base kind abilities revision follow toggle] }
    (s.updateStation n Station.attempting).storePage n (.base kind abilities revision follow toggle) =
      if follow = 0 then u.attemptComplete n else u := by
  have state : (s.updateStation n Station.attempting).station n = (s.station n).attempting := State.station_setStation_self ..
  rw [State.storePage_first (by rw [state]; rfl), state, State.updateStation, State.setStation_setStation]
  rfl

theorem State.stationRestarts_eq :
    let u := (s.enrolledLost n true).setStation n { (s.enrolledLost n true).station n with
      state := .enrolling, window := 0, pages := [.base kind abilities revision follow toggle] }
    s.stationRestarts n (.base kind abilities revision follow toggle) = if follow = 0 then u.attemptComplete n else u :=
  State.storePage_anew (s := s.enrolledLost n true)

/-- A station with no role and no taken code enrols with its report alone. -/
theorem State.attemptComplete_roleless (pages : (s.station n).pages = .base kind abilities revision follow toggle :: more)
    (room : s.RoomForReport) (roleless : s.role n = none) (untaken : (s.slot n).taken = none) : s.attemptComplete n =
      (s.setStation n ((s.station n).enrolledAs kind abilities revision (more.flatMap EnrolPage.chunk))).reported
        (.enrolled n kind abilities revision (more.flatMap EnrolPage.chunk)) := by
  obtain ⟨deck, -⟩ := State.role_none roleless
  have handed (t : State) (slot : t.slot n = s.slot n) : t.handOnEnrolled n = t := by
    unfold State.handOnEnrolled
    rw [slot, untaken]
  have unlaned (t : State) (role : t.role n = none) : t.lanesSeeEnrolled n = t := by
    unfold State.lanesSeeEnrolled
    rw [State.lanesOfStation_roleless role]
    rfl
  rw [State.attemptComplete_fits pages room (by rw [roleless]; rfl), handed ((s.setStation n _).reported _) rfl]
  rw [show (State.reported (s.setStation n _) _).deckOfDigitizer n = none from deck]
  exact unlaned ((s.setStation n _).reported _) roleless

/-- The places of a station, each from the records that name it. -/
theorem State.rolePlaces_eq : s.rolePlaces n =
    (allDecks.filter fun d => decide (∃ r, (s.deck d).record = some r ∧ r.digitizer = n)).map .digitizer
      ++ (s.barrierLanes n).map (fun x => .barrier x.1 x.2)
      ++ (allLanes.filter fun l => decide (∃ r, s.laneRecord l = some r ∧ r.reader = some n)).map .reader
      ++ (allLanes.filter fun l => decide (∃ r, s.laneRecord l = some r ∧ r.terminal = n)).map .terminal := by
  have decks : (allDecks.filter fun d => (s.deck d).record.any fun r => r.digitizer == n) =
      allDecks.filter fun d => decide (∃ r, (s.deck d).record = some r ∧ r.digitizer = n) :=
    List.filter_congr fun d _ => by rw [Bool.eq_iff_iff]; simp [Option.any_eq_true]
  have lanes (p : LaneRecord → Bool) : s.lanesWhere p =
      allLanes.filter fun l => decide (∃ r, s.laneRecord l = some r ∧ p r = true) :=
    List.filter_congr fun l _ => by rw [Bool.eq_iff_iff]; simp [Option.any_eq_true]
  rw [State.rolePlaces, decks, lanes, lanes]
  simp only [beq_iff_eq]

theorem State.rolePlaces_roleless (roleless : s.role n = none) : s.rolePlaces n = [] := by
  obtain ⟨deck, barrier, reader, terminal⟩ := State.role_none roleless
  have decks := List.head?_eq_none_iff.1 deck
  have readers := List.head?_eq_none_iff.1 reader
  have terminals := List.head?_eq_none_iff.1 terminal
  have lanes : s.barrierLanes n = [] := by
    rw [State.barrierLanes, List.filterMap_eq_nil_iff]
    intro l _
    cases record : s.laneRecord l with
    | none => rfl
    | some r =>
      have unnamed : r.namesBarrier n = false := by
        rw [← Bool.not_eq_true]
        intro named
        have listed := (mem_lanesWhere s (fun r => r.namesBarrier n) l).2 ⟨r, record, named⟩
        rw [barrier] at listed
        cases listed
      rw [LaneRecord.namesBarrier, Bool.or_eq_false_iff] at unnamed
      simp [unnamed]
  rw [State.rolePlaces, decks, lanes, readers, terminals]
  rfl

end

end Sys2Proof.Machine

namespace Sys2Proof.Settled
open Machine

/-- Settles O44: the code handed on at enrolment, a restarted station's loss, the pages by the station's state, and a complete
attempt. -/
theorem enrolment : Obligations.Enrolment := by
  refine ⟨fun s n => ⟨fun absent => ?_, fun c kind taken enrolled room => ?handed⟩, fun s n room => ?lost, pagesComplete_iff,
    abilitiesFit_iff, fun _ _ _ _ _ => ⟨rfl, rfl, rfl⟩, fun _ _ _ => ⟨rfl, rfl, rfl⟩, rfl, rfl, rfl, fun _ => rfl,
    fun s n => ⟨State.rolePlaces_roleless, State.rolePlaces_eq⟩, fun s n room => ?failed, fun s n m rest hm kind room => ?page,
    fun s n kind abilities revision follow toggle more pages room => ?complete⟩
  · unfold State.handOnEnrolled
    rw [absent]
  case handed =>
    intro told
    have handed : s.handOnEnrolled n = (s.judgeCode n c).handOn n none c := by
      unfold State.handOnEnrolled
      rw [taken]
    rw [handed]
    exact State.judged_handOn enrolled room none
  case lost =>
    intro a b c t
    exact State.enrolledLost_eq true room
  case failed =>
    intro x
    refine ⟨State.attemptFailed_again, fun many => State.attemptFailed_seventh many room, fun attempts late =>
      congrArg Host.Outcome.next (if_pos ?_)⟩
    obtain state | state := attempts <;> simp [Station.windowDue, show (s.station n).state = _ from state, StationState.attempts,
      Config.attemptWindow, show 2000 ≤ (s.station n).window from late]
  case page =>
    intro t x
    have room : t.RoomForReport := room
    have arrives {p : EnrolPage} (fits : p.wellFormed = true) : exec (.enrolPage n (.fits p)) s = .next (t.pageArrives n p) := by
      have reads : (Body.fits p).read EnrolPage.wellFormed = some p := if_pos fits
      refine congrArg Host.Outcome.next ?_
      rw [← kind]
      exact State.deliver_read hm reads ..
    refine ⟨fun kind abilities revision follow toggle fit small => ?_, fun number chunk toggle first last short chars => ?_,
      fun attempts => ?_, fun kind abilities revision follow toggle fit small few => ?_⟩
    · intro base
      have page (few : follow ≤ 3) : exec (.enrolPage n (.fits base)) s = .next (t.pageArrives n base) :=
        arrives ((EnrolPage.base_wellFormed_iff ..).2 ⟨fit, small, few⟩)
      refine ⟨fun some_ few alive empty => (page few).trans ?_, fun none_ alive empty roleless untaken =>
        (page (by omega)).trans ?_, fun role none_ alive empty named other => (page (by omega)).trans ?_⟩
      · rw [State.pageArrives_alive_base rfl alive, State.storePage_first empty, if_neg (by omega)]
      · have pages : ((t.setStation n { x with state := .enrolling, pages := [base] }).station n).pages = base :: [] := by
          rw [State.station_setStation_self]
        rw [State.pageArrives_alive_base rfl alive, State.storePage_first empty, if_pos none_,
          State.attemptComplete_roleless pages room roleless untaken, State.station_setStation_self,
          State.setStation_setStation]
        rfl
      · have pages : ((t.setStation n { x with state := .enrolling, pages := [base] }).station n).pages = base :: [] := by
          rw [State.station_setStation_self]
        have misfit : ¬ fitsRole kind abilities (s.role n) = true := by
          rw [named]
          simp [fitsRole, other]
        rw [State.pageArrives_alive_base rfl alive, State.storePage_first empty, if_pos none_,
          State.attemptComplete_mismatch pages room misfit, State.station_setStation_self, State.setStation_setStation]
        exact congrArg Host.Outcome.next (congrArg (State.reported _)
          (congrArg (fun r => ReportBody.rejectedMismatch n kind r (s.rolePlaces n)) named))
    · intro page
      have page := arrives ((EnrolPage.next_wellFormed_iff (toggle := toggle) ..).2 ⟨first, last, short, chars⟩)
      refine ⟨fun alive => page.trans ?_, fun over_ => page.trans ?_, fun last enrolling newest => ⟨fun same => page.trans ?_,
        fun new gap => page.trans ?_, fun new next more => page.trans ?_⟩⟩
      · rw [State.pageArrives_alive_next rfl alive]
      · rw [State.pageArrives_stale_next rfl over_]
      · rw [State.pageArrives_repeated (p := .next number chunk toggle) rfl enrolling newest same]
      · rw [State.pageArrives_next rfl enrolling newest new, if_neg gap]
      · rw [State.pageArrives_next rfl enrolling newest new, if_pos next, State.storePage_more enrolling,
          if_neg (by rw [more]; decide)]
    · have bad : (Body.misfit : Body EnrolPage).read EnrolPage.wellFormed = none := rfl
      have unfit : ((t.reported (.badMessageKind n .enrolPage)).station n).state.attempts = true := by
        change x.state.attempts = true
        obtain state | state := attempts <;> rw [state] <;> rfl
      have posted : t.post (.badMessageKind n .enrolPage) = t.reported (.badMessageKind n .enrolPage) := State.post_room room _
      have delivered := State.deliver_bad hm bad (fun t => t.malformedPage n) fun x t => t.pageArrives n x
      rw [kind, posted] at delivered
      exact congrArg Host.Outcome.next (delivered.trans (if_pos unfit))
    · intro base
      have page := arrives ((EnrolPage.base_wellFormed_iff (toggle := toggle) ..).2 ⟨fit, small, few⟩)
      refine ⟨fun rejected => page.trans ?_, fun last enrolling newest => ⟨fun same => page.trans ?_,
        fun new many => page.trans ?_, fun new few => ?_⟩, fun enrolled => ?_, fun more number chunk tog enrolling pages first
          third short chars follows => ?_⟩
      · rw [State.pageArrives_rejected rfl rejected]
      · rw [State.pageArrives_repeated (p := base) rfl enrolling newest same]
      · rw [State.pageArrives_base rfl enrolling newest new, State.breakAndStore_last many]
      · rw [State.pageArrives_base rfl enrolling newest new, State.breakAndStore_anew few] at page
        exact ⟨fun some_ => page.trans (congrArg _ (if_neg (by omega))), fun none_ => page.trans (congrArg _ (if_pos none_))⟩
      · rw [State.pageArrives_restart rfl enrolled, State.stationRestarts_eq] at page
        exact ⟨fun some_ => page.trans (congrArg _ (if_neg (by omega))), fun none_ => page.trans (congrArg _ (if_pos none_))⟩
      · obtain ⟨last, newest⟩ : ∃ last, x.pages.getLast? = some last := by
          rw [pages]
          exact ⟨_, List.getLast?_eq_some_getLast (List.cons_ne_nil _ _)⟩
        obtain ⟨new, next⟩ := follows last (pages ▸ newest)
        have whole : pagesComplete (x.pages ++ [.next number chunk tog]) = true ↔ more.length + 1 = follow := by
          rw [pages, List.cons_append, pagesComplete_base, List.length_append, List.length_singleton]
        have page := arrives ((EnrolPage.next_wellFormed_iff (toggle := tog) ..).2 ⟨first, third, short, chars⟩)
        rw [State.pageArrives_next rfl enrolling newest new, if_pos next, State.storePage_more enrolling] at page
        refine ⟨fun done => page.trans ?_, fun wants => page.trans ?_⟩
        · rw [if_pos (whole.2 done), pages]
        · rw [if_neg (mt whole.1 wants), pages]
  case complete =>
    intro x serial fits
    have fit : fitsRole kind abilities (s.role n) = true ↔ fits := fitsRole_iff ..
    refine ⟨fun fitting => ?_, fun misfit => State.attemptComplete_mismatch pages room (mt fit.1 misfit)⟩
    intro u handed told
    rw [State.attemptComplete_fits pages room (fit.2 fitting)]
    exact congrArg (State.lanesSeeEnrolled · n) (State.digitizerEnrolled_told handed)

end Sys2Proof.Settled

/-! PROOFS. A barrier record takes a position code, FAULT, MANUAL or the loss of its station, and what its lanes do. -/

namespace Sys2Proof.Machine

/-! ## The record a code leaves (R106, R108, R109, R115, R116) -/

section
variable {b : BarrierRecord} {p before : Position} {loop : ArmLoop}

theorem BarrierRecord.settled_eq (b : BarrierRecord) : b.settled =
    { b with state := if b.state = .fault ∨ b.state = .manual then b.state else barrierState b.commanded b.position } := by
  unfold BarrierRecord.settled
  by_cases stopped : b.state = .fault ∨ b.state = .manual
  · rw [if_pos ((outOfService_iff b).2 stopped), if_pos stopped]
  · rw [if_neg (mt (outOfService_iff b).1 stopped), if_neg stopped]

theorem BarrierRecord.timed_eq (b : BarrierRecord) (before : Position) : b.timed before = { b with timer :=
    if (b.commanded = .raise ∧ b.position = .up) ∨ (b.commanded = .lower ∧ b.position = .down) then none
    else if (b.commanded = .raise ∧ before = .up) ∨ (b.commanded = .lower ∧ before = .down) then some 0 else b.timer } := by
  unfold BarrierRecord.timed
  split
  · rfl
  · split <;> rfl

/-- The state a record in a state settles to under a command, at a position. -/
def BarrierState.settledAs (st : BarrierState) (c : BarrierCommand) (p : Position) : BarrierState :=
  if st = .fault ∨ st = .manual then st else barrierState c p

theorem BarrierState.settledAs_again (st : BarrierState) (c : BarrierCommand) (p : Position) :
    (st.settledAs c p).settledAs c p = st.settledAs c p := by
  unfold BarrierState.settledAs
  by_cases stopped : st = .fault ∨ st = .manual
  · rw [if_pos stopped, if_pos stopped]
  · rw [if_neg stopped, ite_self]

section
variable (stays : b.returns p = false)
include stays

theorem BarrierRecord.takes_reversed (lower : b.commanded = .lower) : b.takes p .occupied = { b with
    position := p, loop := some .occupied, commanded := .raise, pendingLower := true, obstructions := min 255 (b.obstructions + 1)
    timer := if p = .up then none else some 0, state := b.state.settledAs .raise p } := by
  have obstructed : ({ b with position := p, loop := some .occupied } : BarrierRecord).obstructedBy .occupied = true := by
    simp [BarrierRecord.obstructedBy, lower]
  unfold BarrierRecord.takes BarrierRecord.interlocked BarrierRecord.sendRaise
  dsimp only
  rw [if_neg (by rw [stays]; decide), if_pos obstructed, BarrierRecord.timed_eq, BarrierRecord.settled_eq, BarrierRecord.settled_eq]
  dsimp only
  refine congrArg₂ (fun st timer => ({ b with
    position := p, loop := some .occupied, commanded := .raise, pendingLower := true, obstructions := min 255 (b.obstructions + 1)
    timer := timer, state := st } : BarrierRecord)) (BarrierState.settledAs_again ..) ?_
  by_cases up : p = .up <;> simp [up]

theorem BarrierRecord.takes_lowered (pending : b.pendingLower = true) : b.takes p .clear = { b with
    position := p, loop := some .clear, commanded := .lower, pendingLower := false
    timer := if p = .down then none else some 0, state := b.state.settledAs .lower p } := by
  unfold BarrierRecord.takes BarrierRecord.interlocked BarrierRecord.sendLower
  dsimp only
  rw [if_neg (by rw [stays]; decide), if_neg (by simp [BarrierRecord.obstructedBy]), if_pos ⟨rfl, pending⟩,
    BarrierRecord.timed_eq, BarrierRecord.settled_eq, BarrierRecord.settled_eq]
  dsimp only
  refine congrArg₂ (fun st timer => ({ b with
    position := p, loop := some .clear, commanded := .lower, pendingLower := false
    timer := timer, state := st } : BarrierRecord)) (BarrierState.settledAs_again ..) ?_
  by_cases down : p = .down <;> simp [down]

theorem BarrierRecord.takes_alone (alone : (loop = .occupied ∧ b.commanded ≠ .lower) ∨ (loop = .clear ∧ b.pendingLower = false)) :
    b.takes p loop = { b with
      position := p, loop := some loop, state := b.state.settledAs b.commanded p
      timer := if (b.commanded = .raise ∧ p = .up) ∨ (b.commanded = .lower ∧ p = .down) then none
        else if (b.commanded = .raise ∧ b.position = .up) ∨ (b.commanded = .lower ∧ b.position = .down) then some 0
        else b.timer } := by
  have left : ({ b with position := p, loop := some loop } : BarrierRecord).interlocked loop =
      { b with position := p, loop := some loop } := by
    unfold BarrierRecord.interlocked
    obtain ⟨rfl, other⟩ | ⟨rfl, done⟩ := alone
    · rw [if_neg (by simp [BarrierRecord.obstructedBy, other]), if_neg (by simp)]
    · rw [if_neg (by simp [BarrierRecord.obstructedBy]), if_neg (by simp [done])]
  unfold BarrierRecord.takes
  dsimp only
  rw [if_neg (by rw [stays]; decide), left, BarrierRecord.timed_eq, BarrierRecord.settled_eq]
  rfl

end

/-- What the interlock leaves of a record. -/
theorem BarrierRecord.interlocked_frame (b : BarrierRecord) (loop : ArmLoop) : let a := b.interlocked loop
    a.position = b.position ∧ a.loop = b.loop ∧ a.told = b.told ∧ a.limit = b.limit ∧ a.mode = b.mode ∧ a.edge = b.edge
      ∧ a.staged = b.staged := by
  unfold BarrierRecord.interlocked BarrierRecord.sendRaise BarrierRecord.sendLower
  rw [BarrierRecord.settled_eq, BarrierRecord.settled_eq]
  split
  · exact ⟨rfl, rfl, rfl, rfl, rfl, rfl, rfl⟩
  · split <;> exact ⟨rfl, rfl, rfl, rfl, rfl, rfl, rfl⟩

theorem BarrierRecord.takes_returns (returns : b.returns p = true) (loop : ArmLoop) : b.takes p loop =
    { ({ b with position := p, loop := some loop } : BarrierRecord).interlocked loop with
      commanded := .none, faultPosition := none, awaitingReturn := false, timer := none, state := barrierState .none p } := by
  obtain ⟨position, -⟩ := BarrierRecord.interlocked_frame { b with position := p, loop := some loop } loop
  unfold BarrierRecord.takes
  dsimp only
  rw [if_pos returns, BarrierRecord.timed_eq]
  unfold BarrierRecord.returned
  dsimp only
  rw [position]

theorem BarrierRecord.returns_iff : b.returns p = true ↔
    b.awaitingReturn = true ∨ ((b.state = .fault ∨ b.state = .manual) ∧ b.faultPosition ≠ some p) := by
  rw [BarrierRecord.returns, Bool.or_eq_true, Bool.and_eq_true, outOfService_iff, bne_iff_ne]

/-- A record that goes on is reversed, lowered again, or left alone. -/
theorem BarrierRecord.interlock_cases (b : BarrierRecord) (loop : ArmLoop) : (loop = .occupied ∧ b.commanded = .lower)
    ∨ (loop = .clear ∧ b.pendingLower = true)
    ∨ ((loop = .occupied ∧ b.commanded ≠ .lower) ∨ (loop = .clear ∧ b.pendingLower = false)) := by
  cases loop with
  | occupied =>
    by_cases lower : b.commanded = .lower
    · exact .inl ⟨rfl, lower⟩
    · exact .inr (.inr (.inl ⟨rfl, lower⟩))
  | clear =>
    cases pending : b.pendingLower with
    | true => exact .inr (.inl ⟨rfl, rfl⟩)
    | false => exact .inr (.inr (.inr ⟨rfl, rfl⟩))

theorem BarrierRecord.takes_frame (b : BarrierRecord) (p : Position) (loop : ArmLoop) : let a := b.takes p loop
    a.position = p ∧ a.loop = some loop ∧ a.told = b.told ∧ a.limit = b.limit ∧ a.mode = b.mode ∧ a.edge = b.edge
      ∧ a.staged = b.staged := by
  cases returns : b.returns p with
  | true =>
    rw [BarrierRecord.takes_returns returns]
    exact BarrierRecord.interlocked_frame { b with position := p, loop := some loop } loop
  | false =>
    obtain ⟨rfl, lower⟩ | ⟨rfl, pending⟩ | alone := b.interlock_cases loop
    · rw [BarrierRecord.takes_reversed returns lower]
      exact ⟨rfl, rfl, rfl, rfl, rfl, rfl, rfl⟩
    · rw [BarrierRecord.takes_lowered returns pending]
      exact ⟨rfl, rfl, rfl, rfl, rfl, rfl, rfl⟩
    · rw [BarrierRecord.takes_alone returns alone]
      exact ⟨rfl, rfl, rfl, rfl, rfl, rfl, rfl⟩

theorem BarrierRecord.takes_state (stays : b.returns p = false) (loop : ArmLoop) : let a := b.takes p loop
    a.state = b.state.settledAs a.commanded p ∧ a.faultPosition = b.faultPosition ∧ a.awaitingReturn = b.awaitingReturn := by
  obtain ⟨rfl, lower⟩ | ⟨rfl, pending⟩ | alone := b.interlock_cases loop
  · rw [BarrierRecord.takes_reversed stays lower]
    exact ⟨rfl, rfl, rfl⟩
  · rw [BarrierRecord.takes_lowered stays pending]
    exact ⟨rfl, rfl, rfl⟩
  · rw [BarrierRecord.takes_alone stays alone]
    exact ⟨rfl, rfl, rfl⟩

end

theorem barrierStatus_fault {c : Code} (high : 9 ≤ c.toNat) : barrierStatus c = .fault := by
  unfold barrierStatus
  split
  on_goal 10 => rfl
  all_goals omega

theorem barrierStatus_manual {c : Code} (manual : c.toNat = 8) : barrierStatus c = .manual := by
  simp only [barrierStatus, manual]

/-! ## The lanes of a barrier -/

section
variable {s : State} {n : StationId} {l : LaneId} {r : LaneRecord} {b : BarrierRecord}

/-- The role a lane gives a barrier station. -/
def LaneRecord.roleOf (r : LaneRecord) (n : StationId) : Option BarrierRole :=
  if r.entryBarrier = n then some .entry else if r.exitBarrier = n then some .exit else none

theorem LaneRecord.roleOf_iff (role : BarrierRole) : r.roleOf n = some role ↔
    (role = .entry ∧ r.entryBarrier = n) ∨ (role = .exit ∧ r.entryBarrier ≠ n ∧ r.exitBarrier = n) := by
  unfold LaneRecord.roleOf
  by_cases entry : r.entryBarrier = n
  · simp [entry, eq_comm]
  · by_cases exit : r.exitBarrier = n
    · simp [entry, exit, eq_comm]
    · simp [entry, exit]

theorem State.barrierLanes_eq (s : State) (n : StationId) :
    s.barrierLanes n = allLanes.filterMap fun l => ((s.laneRecord l).bind fun r => r.roleOf n).map fun role => (l, role) := by
  refine List.filterMap_congr fun l _ => ?_
  cases s.laneRecord l with
  | none => rfl
  | some r =>
    simp only [beq_iff_eq, Option.bind_some, LaneRecord.roleOf]
    split
    · rfl
    · split <;> rfl

theorem State.mem_barrierLanes (role : BarrierRole) : (l, role) ∈ s.barrierLanes n ↔ ∃ r, s.laneRecord l = some r
    ∧ ((role = .entry ∧ r.entryBarrier = n) ∨ (role = .exit ∧ r.entryBarrier ≠ n ∧ r.exitBarrier = n)) := by
  rw [State.barrierLanes_eq, List.mem_filterMap]
  constructor
  · rintro ⟨m, -, named⟩
    obtain ⟨x, bound, pair⟩ := Option.map_eq_some_iff.1 named
    obtain ⟨rfl, rfl⟩ := Prod.mk.inj pair
    obtain ⟨r, record, role⟩ := Option.bind_eq_some_iff.1 bound
    exact ⟨r, record, (LaneRecord.roleOf_iff _).1 role⟩
  · rintro ⟨r, record, named⟩
    refine ⟨l, mem_allLanes l, ?_⟩
    rw [record, Option.bind_some, (LaneRecord.roleOf_iff role).2 named, Option.map_some]

theorem State.barrierLanes_sorted (s : State) (n : StationId) : (s.barrierLanes n).Pairwise (fun x y => x.1 < y.1) := by
  rw [State.barrierLanes_eq, List.pairwise_filterMap]
  have sorted : allLanes.Pairwise (· < ·) := by decide
  refine sorted.imp fun {l m} less x first y second => ?_
  obtain ⟨_, -, rfl⟩ := Option.map_eq_some_iff.1 first
  obtain ⟨_, -, rfl⟩ := Option.map_eq_some_iff.1 second
  exact less

theorem State.barrierDeck_iff (d : DeckId) : s.barrierDeck n = some d ↔ ∃ l r, s.laneRecord l = some r
    ∧ (r.entryBarrier = n ∨ r.exitBarrier = n) ∧ r.deck = d
    ∧ ∀ m, m < l → ∀ x, s.laneRecord m = some x → ¬ (x.entryBarrier = n ∨ x.exitBarrier = n) := by
  have first (l : LaneId) : (s.lanesWhere fun r => r.namesBarrier n).head? = some l ↔
      (∃ r, s.laneRecord l = some r ∧ (r.entryBarrier = n ∨ r.exitBarrier = n))
        ∧ ∀ m, m < l → ∀ x, s.laneRecord m = some x → ¬ (x.entryBarrier = n ∨ x.exitBarrier = n) := by
    rw [State.lanesWhere, head?_filter_eq_some (by decide), and_iff_right (mem_allLanes l)]
    simp only [namesBarrier_iff, mem_allLanes, true_implies, Option.any_eq_true, ← Bool.not_eq_true, not_exists, not_and]
  rw [State.barrierDeck, Option.map_eq_some_iff]
  constructor
  · rintro ⟨r, found, rfl⟩
    obtain ⟨l, head, record⟩ := Option.bind_eq_some_iff.1 found
    obtain ⟨⟨x, loaded, named⟩, none_⟩ := (first l).1 head
    obtain rfl := Option.some.inj (loaded.symm.trans record)
    exact ⟨l, x, loaded, named, rfl, none_⟩
  · rintro ⟨l, r, record, named, rfl, none_⟩
    exact ⟨r, Option.bind_eq_some_iff.2 ⟨l, (first l).2 ⟨⟨r, record, named⟩, none_⟩, record⟩, rfl⟩

/-! ## The code taken over the state (R106, R109, R112) -/

theorem State.barrierStops_eq (room : s.RoomForReport) (st : BarrierState) (why : BarrierReason) (cause : FaultCause) :
    s.barrierStops n b st why cause =
      ((s.putBarrier n (b.stops st)).reported (.barrier why (s.barrierSnapshot n (b.stops st)))).faultLanes n cause := by
  unfold State.barrierStops
  rw [State.putBarrier_post]
  exact congrArg (State.faultLanes · n cause) (State.post_room (s := s.putBarrier n _) room _)

theorem State.barrierLost_eq (record : s.barrier n = some b) (room : s.RoomForReport) :
    s.barrierLost n = (s.putBarrier n b.lost).reported (.barrier .lost (s.barrierSnapshot n b.lost)) := by
  unfold State.barrierLost
  rw [record]
  exact (State.putBarrier_post ..).trans (State.post_room (s := s.putBarrier n _) room _)

/-- What follows once the record of a position code stands. -/
def State.edgeFollows (s : State) (n : StationId) (edge : Option Edge) : State :=
  match edge with
  | none => s.tellLanes n
  | some e => ((s.routeEdge n e).edgeDue n e).tellLanes n

theorem State.barrierMoved_eq (p : Position) (loop : ArmLoop) :
    let obstructed := if b.obstructedBy loop then
      (s.putBarrier n (BarrierRecord.interlocked { b with position := p, loop := some loop } loop)).postBarrier n .obstruction else s
    let placed := obstructed.putBarrier n (b.takes p loop)
    s.barrierMoved n b p loop =
      (if b.returns p then (placed.postBarrier n .returned).recoveryLowers n else placed).edgeFollows n (loopEdge b.loop loop) := by
  unfold State.barrierMoved State.edgeFollows
  dsimp only
  cases loopEdge b.loop loop <;> rfl

theorem State.barrierMoved_plain {p : Position} {loop : ArmLoop} (clear : b.obstructedBy loop = false) (stays : b.returns p = false) :
    s.barrierMoved n b p loop = (s.putBarrier n (b.takes p loop)).edgeFollows n (loopEdge b.loop loop) := by
  simp only [State.barrierMoved_eq, clear, stays, Bool.false_eq_true, if_false]

theorem State.barrierMoved_returns {p : Position} {loop : ArmLoop} (clear : b.obstructedBy loop = false) (returns : b.returns p = true)
    (room : s.RoomForReport) : s.barrierMoved n b p loop =
      (((s.putBarrier n (b.takes p loop)).reported (.barrier .returned (s.barrierSnapshot n (b.takes p loop)))).recoveryLowers
        n).edgeFollows n (loopEdge b.loop loop) := by
  simp only [State.barrierMoved_eq, clear, returns, Bool.false_eq_true, if_false, if_true]
  rw [State.putBarrier_post, State.post_room (s := s.putBarrier n _) room]

/-- The record an obstructed arm reports is the one the code leaves. -/
theorem BarrierRecord.takes_interlocked {p : Position} {loop : ArmLoop} (obstructed : b.obstructedBy loop = true)
    (stays : b.returns p = false) : b.takes p loop = BarrierRecord.interlocked { b with position := p, loop := some loop } loop := by
  have both : loop = .occupied ∧ b.commanded = .lower := by simpa [BarrierRecord.obstructedBy] using obstructed
  obtain ⟨rfl, lower⟩ := both
  rw [BarrierRecord.takes_reversed stays lower]
  have shown : ({ b with position := p, loop := some .occupied } : BarrierRecord).obstructedBy .occupied = true := obstructed
  unfold BarrierRecord.interlocked BarrierRecord.sendRaise
  rw [if_pos shown, BarrierRecord.settled_eq]
  rfl

theorem State.barrierMoved_obstructed {p : Position} {loop : ArmLoop} (obstructed : b.obstructedBy loop = true)
    (stays : b.returns p = false) (room : s.RoomForReport) : s.barrierMoved n b p loop =
      ((s.putBarrier n (b.takes p loop)).reported (.barrier .obstruction (s.barrierSnapshot n (b.takes p loop)))).edgeFollows
        n (loopEdge b.loop loop) := by
  have again (t : State) (a : BarrierRecord) (x : ReportBody) :
      ((t.putBarrier n a).reported x).putBarrier n a = (t.putBarrier n a).reported x := by
    have commutes : ((t.putBarrier n a).reported x).putBarrier n a = (((t.putBarrier n a).setBarrier n (some a)).setSlot n
        { (t.putBarrier n a).slot n with command := a.commanded.code }).reported x := rfl
    have apart : (t.putBarrier n a).setBarrier n (some a) = ((t.setBarrier n (some a)).setBarrier n (some a)).setSlot n
        { t.slot n with command := a.commanded.code } := rfl
    rw [commutes, apart, State.setBarrier_setBarrier, State.setSlot_setSlot, State.putBarrier_eq, State.slot_setSlot_self]
  simp only [State.barrierMoved_eq, obstructed, stays, Bool.false_eq_true, if_false, if_true]
  rw [← BarrierRecord.takes_interlocked obstructed stays, State.putBarrier_post, State.post_room (s := s.putBarrier n _) room, again]

/-! ## The edge routed to the holder (R110, R111, R112) -/

section
variable {d : DeckId} (deck : s.barrierDeck n = some d)
include deck

theorem State.routeEdge_owner {p : LaneId × BarrierRole} (owner : s.edgeOwner n d = some p) (e : Edge) :
    s.routeEdge n e = s.laneEdge p.1 p.2 e := by
  unfold State.routeEdge
  simp only [deck, owner]

theorem State.routeEdge_unowned (unowned : s.edgeOwner n d = none) (e : Edge) :
    s.routeEdge n e = if s.deckHeld d then s else s.postBarrier n (.unexpectedPassage e) := by
  unfold State.routeEdge
  simp only [deck, unowned]

end

theorem State.edgeOwner_holder {d : DeckId} {role : BarrierRole} (holder : (s.arbiter d).holder = some l)
    (named : (l, role) ∈ s.barrierLanes n) : s.edgeOwner n d = some (l, role) := by
  have found : (s.edgeOwner n d).isSome := List.find?_isSome.2 ⟨_, named, (State.holds_iff ..).2 holder⟩
  obtain ⟨⟨m, other⟩, owner⟩ := Option.isSome_iff_exists.1 found
  have holds : s.holds m d = true := List.find?_some (p := fun p : LaneId × BarrierRole => s.holds p.1 d) owner
  obtain rfl : l = m := Option.some.inj (holder.symm.trans ((State.holds_iff ..).1 holds))
  obtain ⟨r, record, mine⟩ := (State.mem_barrierLanes _).1 named
  obtain ⟨x, loaded, its⟩ := (State.mem_barrierLanes _).1 (List.mem_of_find?_eq_some owner)
  obtain rfl := Option.some.inj (record.symm.trans loaded)
  have same := ((LaneRecord.roleOf_iff other).2 its).symm.trans ((LaneRecord.roleOf_iff role).2 mine)
  rw [owner, Option.some.inj same]

theorem State.edgeOwner_unnamed {d : DeckId} (unnamed : ∀ m, (s.arbiter d).holder = some m → ∀ role, (m, role) ∉ s.barrierLanes n) :
    s.edgeOwner n d = none := by
  refine List.find?_eq_none.2 fun p named holds => ?_
  exact unnamed p.1 ((State.holds_iff ..).1 holds) p.2 named

theorem State.laneEdge_other {role : BarrierRole} {e : Edge} (other : e = .arrive ∨ (role = .entry ∧ (s.lane l).state ≠ .entering)
    ∨ (role = .exit ∧ (s.lane l).state ≠ .releasing)) : s.laneEdge l role e = s := by
  unfold State.laneEdge
  split
  next entering =>
    obtain arrive | ⟨-, moved⟩ | ⟨exit, -⟩ := other
    · cases arrive
    · exact absurd entering moved
    · cases exit
  next releasing =>
    obtain arrive | ⟨entry, -⟩ | ⟨-, moved⟩ := other
    · cases arrive
    · cases entry
    · exact absurd releasing moved
  · rfl

theorem State.laneEdge_entry (enters : (s.lane l).state = .entering) :
    s.laneEdge l .entry .depart = (s.updateLane l fun c => { c with departSeen := true }).enteringTest l := by
  unfold State.laneEdge
  simp only [enters]

theorem State.laneEdge_exit (releases : (s.lane l).state = .releasing) :
    s.laneEdge l .exit .depart = (s.updateLane l fun c => { c with departSeen := true }).releasingTest l := by
  unfold State.laneEdge
  simp only [releases]

theorem EdgeSelect.selects_iff (x : EdgeSelect) (e : Edge) : x.selects e = true ↔
    x = .both ∨ (x = .arrive ∧ e = .arrive) ∨ (x = .depart ∧ e = .depart) := by
  cases x <;> cases e <;> simp [EdgeSelect.selects]

theorem State.edgeDue_unstaged (record : s.barrier n = some b) (unstaged : b.staged = none) (e : Edge) : s.edgeDue n e = s := by
  unfold State.edgeDue
  simp only [record, unstaged]

theorem State.edgeDue_staged {o : BarrierOrder} (record : s.barrier n = some b) (staged : b.staged = some o) (e : Edge) :
    s.edgeDue n e = if b.mode = .stagedLoop ∧ b.edge.selects e = true then s.orderDue n b o else s := by
  unfold State.edgeDue
  simp only [record, staged]

/-! ## What the lanes of the barrier are told and ask (R80, R110, R117) -/

theorem State.recoveryLowers_eq (s : State) (n : StationId) : s.recoveryLowers n =
    ((s.barrierLanes n).filter fun x => decide ((s.lane x.1).state = .recover)).foldl (fun t x => t.askBarrier x.1 x.2 .lower) s := by
  have run (xs : List (LaneId × BarrierRole)) (t : State) (kept : ∀ l, t.lane l = s.lane l) :
      Machine.forEach xs (fun p t => if (t.lane p.1).state = .recover then t.askBarrier p.1 p.2 .lower else t) t =
        (xs.filter fun x => decide ((s.lane x.1).state = .recover)).foldl (fun t x => t.askBarrier x.1 x.2 .lower) t := by
    induction xs generalizing t with
    | nil => rfl
    | cons x xs ih =>
      rw [Machine.forEach, List.foldl_cons, kept, List.filter_cons]
      by_cases recovers : (s.lane x.1).state = .recover
      · rw [if_pos recovers, if_pos (decide_eq_true recovers), List.foldl_cons]
        exact ih _ fun l => (State.askBarrier_plantLanes ..).trans (kept l)
      · rw [if_neg recovers, if_neg (by simpa using recovers)]
        exact ih t kept
  exact run _ s fun _ => rfl

theorem State.askBarrier_eq (record : s.laneRecord l = some r) (role : BarrierRole) (m : Motion)
    (named : s.barrier (r.barrierAt role) = some b) : s.askBarrier l role m =
      if s.takesRequest l r.deck m then s.putBarrier (r.barrierAt role) (b.applyMotion m r.motionLimit) else s := by
  unfold State.askBarrier
  simp only [record, named]

theorem State.takesRequest_iff (d : DeckId) (m : Motion) : s.takesRequest l d m = true ↔ (s.arbiter d).holder = some l
    ∨ ((s.lane l).state = .recover ∧ m = .lower ∧ (s.arbiter d).holder = none) := by
  have held : s.deckHeld d = false ↔ (s.arbiter d).holder = none := by rw [← Bool.not_eq_true, State.deckHeld_iff, not_not]
  simp only [State.takesRequest, Bool.or_eq_true, State.holds_iff, Bool.and_eq_true, beq_iff_eq, Bool.not_eq_true', held, and_assoc]

theorem State.positionTold_entering (enters : (s.lane l).state = .entering) : s.positionTold l = s.closingTest l :=
  (State.closingTest_positionTold enters).symm

theorem State.positionTold_leaving (record : s.laneRecord l = some r) (leaves : (s.lane l).state = .leaving) :
    s.positionTold l = if s.barrierDown r.exitBarrier then
      ((s.clearHold l r.deck).enterIdle l (.event .exitDown)).afterRelease r.deck else s := by
  unfold State.positionTold State.leavingTest
  simp only [leaves, record, true_and]

theorem State.positionTold_other (one : (s.lane l).state ≠ .entering) (two : (s.lane l).state ≠ .weighing)
    (three : (s.lane l).state ≠ .leaving) (four : (s.lane l).state ≠ .recover) : s.positionTold l = s := by
  unfold State.positionTold
  split
  next state => exact absurd state one
  next state => exact absurd state two
  next state => exact absurd state three
  next state => exact absurd state four
  all_goals rfl

end

end Sys2Proof.Machine

namespace Sys2Proof.Settled
open Machine

/-- Settles O36: the record a code leaves, the reports, the edge and the lanes told. -/
theorem barrierRecordTakesCode : Obligations.BarrierRecordTakesCode := by
  refine ⟨fun b p loop => ?takes, rfl, rfl, rfl, rfl, rfl, rfl, rfl, rfl, rfl, fun _ => barrierStatus_fault, rfl, rfl, rfl, rfl,
    fun s n => ⟨fun l => State.mem_barrierLanes, s.barrierLanes_sorted n, State.barrierDeck_iff, fun _ => rfl⟩,
    fun b limit serves staffed => ?motions, fun s n b c record room => ⟨fun manual => ?_, fun fault => ?_⟩,
    fun s n b record room => State.barrierLost_eq record room, fun s n b c p loop record shows => ?moved,
    fun b p => BarrierRecord.returns_iff, fun s n d e deck => ?routed, fun s l r role e record => ?edge,
    fun s n b e record => ?due, fun s n => ⟨s.recoveryLowers_eq n, fun b record => ?told⟩,
    fun s l r role m b record => ?asked, fun s l r record => ?position⟩
  case takes =>
    obtain ⟨position, arm, told, limit, mode, edge, staged⟩ := b.takes_frame p loop
    refine ⟨position, arm, told, limit, mode, edge, staged, fun stays unfaulted staffed => ?_, fun stays stopped => ?_, fun stays => ?_,
      ?_, ?_, fun alone stays => ?_, fun returns => ?_⟩
    · obtain ⟨state, -⟩ := BarrierRecord.takes_state stays loop
      refine state.trans ((if_neg (not_or_intro unfaulted staffed)).trans ?_)
      cases (b.takes p loop).commanded <;> cases p <;> rfl
    · obtain ⟨state, -⟩ := BarrierRecord.takes_state stays loop
      exact state.trans (if_pos stopped)
    · obtain ⟨-, kept⟩ := BarrierRecord.takes_state stays loop
      exact kept
    · rintro rfl lower stays
      rw [BarrierRecord.takes_reversed stays lower]
      exact ⟨rfl, rfl, rfl, rfl⟩
    · rintro rfl pending stays
      rw [BarrierRecord.takes_lowered stays pending]
      exact ⟨rfl, rfl, rfl, rfl⟩
    · rw [BarrierRecord.takes_alone stays alone]
      exact ⟨rfl, rfl, rfl, rfl⟩
    · rw [BarrierRecord.takes_returns returns]
      refine ⟨rfl, rfl, rfl, rfl, ?_⟩
      cases p <;> rfl
  case motions =>
    have inService : b.outOfService = false := inService_iff.2 (not_or_intro serves staffed)
    rw [BarrierRecord.applyRaise_inService inService, BarrierRecord.applyLower_inService inService]
    exact ⟨BarrierRecord.ordered_raise_again, BarrierRecord.ordered_raise_new, BarrierRecord.ordered_lower_held,
      BarrierRecord.ordered_lower_again, BarrierRecord.ordered_lower_new⟩
  · have coded : s.barrierCode n c = s.barrierStops n b .manual .manual (.barrierManual n) := by
      unfold State.barrierCode
      simp only [record, barrierStatus_manual manual]
    exact coded.trans (State.barrierStops_eq room ..)
  · have coded : s.barrierCode n c = s.barrierStops n b .fault .fault (.barrierFault n) := by
      unfold State.barrierCode
      simp only [record, barrierStatus_fault fault]
    exact coded.trans (State.barrierStops_eq room ..)
  case moved =>
    intro a t edge goesOn reversed
    have coded : s.barrierCode n c = s.barrierMoved n b p loop := by
      unfold State.barrierCode
      simp only [record, shows]
    have obstructed : b.obstructedBy loop = true ↔ reversed := by simp [BarrierRecord.obstructedBy, reversed]
    have clear (still : ¬ reversed) : b.obstructedBy loop = false := Bool.not_eq_true _ ▸ mt obstructed.1 still
    have follows (u : State) : u.edgeFollows n (loopEdge b.loop loop) = goesOn u := rfl
    refine ⟨fun still stays => ?_, fun reversed stays room => ?_, fun still returns room => ?_⟩
    · rw [coded, State.barrierMoved_plain (clear still) stays, follows]
      rfl
    · rw [coded, State.barrierMoved_obstructed (obstructed.2 reversed) stays room, follows]
      rfl
    · rw [coded, State.barrierMoved_returns (clear still) returns room, follows]
      rfl
  case routed =>
    refine ⟨fun l role holder named => State.routeEdge_owner deck (State.edgeOwner_holder holder named) e,
      fun l holder unnamed => ?_, fun b free record room => ?_⟩
    · rw [State.routeEdge_unowned deck (State.edgeOwner_unnamed fun m held => Option.some.inj (holder.symm.trans held) ▸ unnamed)]
      exact if_pos ((State.deckHeld_iff ..).2 (by simp [holder]))
    · rw [State.routeEdge_unowned deck (State.edgeOwner_unnamed fun m held => by rw [free] at held; cases held),
        if_neg (by rw [State.deckHeld_iff]; simp [free]), State.postBarrier_eq s n record, State.post_room room]
  case edge =>
    intro seen occupancy
    have saw : (seen.lane l) = { s.lane l with departSeen := true } := State.lane_setLane_self ..
    have loaded : seen.laneRecord l = some r := record
    refine ⟨?_, ?_, State.laneEdge_other⟩
    · rintro rfl rfl enters
      rw [State.laneEdge_entry enters]
      refine ⟨fun unclosed occupied => ?_, fun stays => ?_⟩
      · refine (State.enteringTest_pos (s := seen) loaded (by rw [saw]; exact enters)
          ⟨by rw [saw]; exact unclosed, by rw [saw], occupied⟩).trans ?_
        rw [saw]
      · refine State.enteringTest_neg (s := seen) loaded ?_
        rw [saw]
        exact stays.imp id .inr
    · rintro rfl rfl releases
      rw [State.laneEdge_exit releases]
      exact ⟨fun empty => State.releasingTest_pos (s := seen) loaded (by rw [saw]; exact releases) (by rw [saw]) empty,
        fun occupied => State.releasingTest_neg (s := seen) loaded (.inr occupied)⟩
  case due =>
    intro selected
    have selects : (b.mode = .stagedLoop ∧ b.edge.selects e) ↔ selected := and_congr_right fun _ => EdgeSelect.selects_iff ..
    refine ⟨fun none_ => ?_, fun o staged chosen => ?_⟩
    · cases staged : b.staged with
      | none => exact State.edgeDue_unstaged record staged e
      | some o =>
        obtain absent | unselected := none_
        · rw [staged] at absent
          cases absent
        · exact (State.edgeDue_staged record staged e).trans (if_neg (mt selects.1 unselected))
    · exact (State.edgeDue_staged record staged e).trans (if_pos (selects.2 chosen))
  case told =>
    unfold State.tellLanes
    rw [State.lanesOfBarrier_eq, record]
    rfl
  case asked =>
    intro n named taken a
    have station : r.barrierAt role = n := by cases role <;> rfl
    have left : b.applyMotion m r.motionLimit = a := by
      unfold BarrierRecord.applyMotion
      exact if_congr (outOfService_iff b) rfl (by cases m <;> rfl)
    have asks := State.askBarrier_eq record role m (station ▸ named)
    rw [station, left] at asks
    exact ⟨fun refused => asks.trans (if_neg (mt (State.takesRequest_iff ..).1 refused)),
      fun taken => asks.trans (if_pos ((State.takesRequest_iff ..).2 taken))⟩
  case position =>
    intro down
    have downs : s.bothDown r = true ↔ down r.entryBarrier ∧ down r.exitBarrier := by
      rw [State.bothDown, Bool.and_eq_true, State.barrierDown_iff, State.barrierDown_iff]
    refine ⟨fun enters closing entry exit => ?_, fun enters open_ => ?_, fun weighs => ?_, fun recovers => ?_,
      fun leaves raised => ?_, fun leaves lowered holder => ?_, State.positionTold_other⟩
    · rw [State.positionTold_entering enters, State.closingTest]
      simp only [record]
      exact if_pos ⟨enters, closing, downs.2 ⟨entry, exit⟩⟩
    · rw [State.positionTold_entering enters, State.closingTest]
      simp only [record]
      refine if_neg fun ⟨_, closing, both⟩ => ?_
      obtain ⟨entry, exit⟩ := downs.1 both
      obtain unclosed | entryUp | exitUp := open_
      · rw [unclosed] at closing
        cases closing
      · exact entryUp entry
      · exact exitUp exit
    · unfold State.positionTold
      rw [weighs]
    · unfold State.positionTold
      rw [recovers]
    · rw [State.positionTold_leaving record leaves, if_neg (mt (State.barrierDown_iff _).1 raised)]
    · rw [State.positionTold_leaving record leaves, if_pos ((State.barrierDown_iff _).2 lowered), State.clearHold_held holder]

end Sys2Proof.Settled

/-! PROOFS. What the lanes and barriers leave alone: the decks, and which stations have a barrier record. -/

namespace Sys2Proof.Machine

/-! ## The decks, and the stations with a barrier record -/

/-- The decks, and which stations have a barrier record. -/
def State.outfit (s : State) : Vector DeckEngine 4 × (StationId → Bool) := (s.decks, fun n => (s.barrier n).isSome)

theorem State.deck_of_outfit {s t : State} (same : t.outfit = s.outfit) (d : DeckId) : t.deck d = s.deck d := by
  rw [State.deck, State.deck, show t.decks = s.decks from congrArg Prod.fst same]

theorem State.outfit_of_plant {s t : State} (same : t.plant = s.plant) : t.outfit = s.outfit := by
  unfold State.outfit
  rw [show t.decks = s.decks from congrArg Plant.decks same]
  exact congrArg (Prod.mk _) (funext fun n => by rw [State.barrier_of_plant same])

theorem outfit_forEach {α : Type} (xs : List α) (f : α → State → State) (h : ∀ x t, (f x t).outfit = t.outfit) (s : State) :
    (forEach xs f s).outfit = s.outfit :=
  forEach_keeps (fun t => t.outfit = s.outfit) xs f (fun x _ t ht => (h x t).trans ht) s rfl

section
variable (s : State) (l : LaneId) (n : StationId)

@[simp] theorem State.updateLane_outfit (f : LaneContext → LaneContext) : (s.updateLane l f).outfit = s.outfit := rfl
@[simp] theorem State.setArbiter_outfit (d : DeckId) (x : Arbiter) : (s.setArbiter d x).outfit = s.outfit := rfl
@[simp] theorem State.post_outfit (b : ReportBody) : (s.post b).outfit = s.outfit := State.outfit_of_plant (s.post_plant b)

@[simp] theorem State.setSlot_outfit (x : LoopSlot) : (s.setSlot n x).outfit = s.outfit := rfl

/-- A record that stands is written again. -/
theorem State.setBarrier_outfit {x : Option BarrierRecord} (stands : x.isSome = (s.barrier n).isSome) :
    (s.setBarrier n x).outfit = s.outfit := by
  refine congrArg (Prod.mk _) (funext fun m => ?_)
  rw [State.barrier_setBarrier]
  split
  next same => rw [stands, same]
  next => rfl

theorem State.putBarrier_outfit (stands : (s.barrier n).isSome) (b : BarrierRecord) : (s.putBarrier n b).outfit = s.outfit :=
  (State.setSlot_outfit ..).trans (s.setBarrier_outfit n stands.symm)

@[simp] theorem State.postBarrier_outfit (why : BarrierReason) : (s.postBarrier n why).outfit = s.outfit := by
  unfold State.postBarrier
  split <;> simp

@[simp] theorem State.enterLane_outfit (st : LaneState) (why : LaneReason) (read : Option IdentRead) :
    (s.enterLane l st why read).outfit = s.outfit := by
  obtain ⟨decks, -, barriers, -⟩ := s.enterLane_decks l st why read
  unfold State.outfit State.barrier
  rw [decks, barriers]

@[simp] theorem State.askBarrier_outfit (role : BarrierRole) (m : Motion) : (s.askBarrier l role m).outfit = s.outfit := by
  unfold State.askBarrier
  split
  next => rfl
  next r record =>
    split
    next => rfl
    next b named =>
      split
      · exact s.putBarrier_outfit _ (by rw [named]; rfl) _
      · rfl

/-! ## The lanes -/

@[simp] theorem State.enterIdle_outfit (why : LaneReason) : (s.enterIdle l why).outfit = s.outfit := by
  unfold State.enterIdle
  dsimp only
  split <;> simp
@[simp] theorem State.clearHold_outfit (d : DeckId) : (s.clearHold l d).outfit = s.outfit := by
  unfold State.clearHold
  split <;> simp
@[simp] theorem State.grantDeck_outfit (d : DeckId) : (s.grantDeck d).outfit = s.outfit := by
  unfold State.grantDeck
  split <;> simp
@[simp] theorem State.askRecovery_outfit : (s.askRecovery l).outfit = s.outfit := by
  unfold State.askRecovery
  repeat' split
  all_goals simp
@[simp] theorem State.recoverFree_outfit : (s.recoverFree l).outfit = s.outfit := by
  unfold State.recoverFree
  repeat' split
  all_goals simp
@[simp] theorem State.afterRelease_outfit (d : DeckId) : (s.afterRelease d).outfit = s.outfit := by
  simp [State.afterRelease, outfit_forEach]
@[simp] theorem State.testRecover_outfit : (s.testRecover l).outfit = s.outfit := by
  unfold State.testRecover
  repeat' split
  all_goals simp
@[simp] theorem State.enterReleasing_outfit (why : LaneReason) : (s.enterReleasing l why).outfit = s.outfit := by
  simp [State.enterReleasing]
@[simp] theorem State.commitIn_outfit (w : Weight) (pass : Bool) : (s.commitIn l w pass).outfit = s.outfit := by
  unfold State.commitIn
  dsimp only
  split
  · rw [State.outfit_of_plant (State.commitInbound_plant ..), State.updateLane_outfit]
  · simp
@[simp] theorem State.commitCapture_outfit (w : Weight) (pass : Bool) : (s.commitCapture l w pass).outfit = s.outfit := by
  unfold State.commitCapture
  split
  · simp
  · split
    · exact State.outfit_of_plant (State.commitOut_plant ..)
    · rfl
  · rfl
@[simp] theorem State.targetGone_outfit : (s.targetGone l).outfit = s.outfit := by simp [State.targetGone]
@[simp] theorem State.refer_outfit (why : ReferralReason) (read : Option IdentRead) : (s.refer l why read).outfit = s.outfit := by
  simp [State.refer]

end

@[simp] theorem runSteps_outfit (l : LaneId) (r : LaneRecord) (w : Weight) (why : LaneReason) (steps : List CaptureStep) (s : State) :
    (runSteps l r w why steps s).outfit = s.outfit := by
  induction steps generalizing s with
  | nil => simp [runSteps]
  | cons x steps ih =>
    cases x
    all_goals
      unfold runSteps
      repeat' split
      all_goals simp [ih]

section
variable (s : State) (l : LaneId) (n : StationId)

@[simp] theorem State.tryCapture_outfit : (s.tryCapture l).outfit = s.outfit := by
  unfold State.tryCapture State.capture
  repeat' split
  all_goals simp
@[simp] theorem State.enterWeighing_outfit (why : LaneReason) : (s.enterWeighing l why).outfit = s.outfit := by
  simp [State.enterWeighing]
@[simp] theorem State.closingTest_outfit : (s.closingTest l).outfit = s.outfit := by
  unfold State.closingTest
  repeat' split
  all_goals simp
@[simp] theorem State.enteringTest_outfit : (s.enteringTest l).outfit = s.outfit := by
  unfold State.enteringTest State.beginClosing
  repeat' split
  all_goals simp
@[simp] theorem State.leavingTest_outfit : (s.leavingTest l).outfit = s.outfit := by
  unfold State.leavingTest
  repeat' split
  all_goals simp
@[simp] theorem State.releasingTest_outfit : (s.releasingTest l).outfit = s.outfit := by
  unfold State.releasingTest State.enterLeaving
  repeat' split
  all_goals simp
@[simp] theorem State.deckFaultTest_outfit : (s.deckFaultTest l).outfit = s.outfit := by
  unfold State.deckFaultTest
  repeat' split
  all_goals simp
@[simp] theorem State.deckSeen_outfit : (s.deckSeen l).outfit = s.outfit := by
  unfold State.deckSeen
  split <;> simp
@[simp] theorem State.deckTold_outfit (d : DeckId) : (s.deckTold d).outfit = s.outfit := by simp [State.deckTold, outfit_forEach]
@[simp] theorem State.positionTold_outfit : (s.positionTold l).outfit = s.outfit := by
  unfold State.positionTold
  split <;> simp
@[simp] theorem State.laneEdge_outfit (role : BarrierRole) (e : Edge) : (s.laneEdge l role e).outfit = s.outfit := by
  unfold State.laneEdge
  split <;> simp
@[simp] theorem State.laneFault_outfit (cause : FaultCause) : (s.laneFault l cause).outfit = s.outfit := by
  unfold State.laneFault
  repeat' split
  all_goals simp

/-! ## The barriers -/

@[simp] theorem State.routeEdge_outfit (e : Edge) : (s.routeEdge n e).outfit = s.outfit := by
  unfold State.routeEdge
  repeat' split
  all_goals simp
@[simp] theorem State.recoveryLowers_outfit : (s.recoveryLowers n).outfit = s.outfit :=
  outfit_forEach _ _ (fun p t => by split <;> simp) s
@[simp] theorem State.faultLanes_outfit (cause : FaultCause) : (s.faultLanes n cause).outfit = s.outfit :=
  outfit_forEach _ _ (fun l t => t.laneFault_outfit l cause) s

theorem State.applyOrder_outfit (stands : (s.barrier n).isSome) (b : BarrierRecord) (o : BarrierOrder) :
    (s.applyOrder n b o).outfit = s.outfit := by
  unfold State.applyOrder
  dsimp only
  split
  · exact (State.postBarrier_outfit ..).trans (s.putBarrier_outfit n stands _)
  · exact (State.postBarrier_outfit ..).trans (s.putBarrier_outfit n stands _)
  · split
    · rfl
    · exact (State.postBarrier_outfit ..).trans (s.putBarrier_outfit n stands _)

theorem State.orderDue_outfit (stands : (s.barrier n).isSome) (b : BarrierRecord) (o : BarrierOrder) :
    (s.orderDue n b o).outfit = s.outfit := by
  unfold State.orderDue
  dsimp only
  split
  · refine (State.applyOrder_outfit _ n ?_ _ o).trans (s.setBarrier_outfit n stands.symm)
    rw [State.barrier_setBarrier_self]
    rfl
  · exact (State.postBarrier_outfit ..).trans (s.setBarrier_outfit n stands.symm)

@[simp] theorem State.edgeDue_outfit (e : Edge) : (s.edgeDue n e).outfit = s.outfit := by
  unfold State.edgeDue
  split
  next => rfl
  next b record =>
    split
    next => rfl
    next o staged =>
      split
      · exact s.orderDue_outfit n (by rw [record]; rfl) b o
      · rfl

@[simp] theorem State.tellLanes_outfit : (s.tellLanes n).outfit = s.outfit := by
  have told : (s.setBarrier n ((s.barrier n).map fun b => { b with told := b.position })).outfit = s.outfit := by
    refine s.setBarrier_outfit n ?_
    rw [Option.isSome_map]
  exact (outfit_forEach _ _ (fun l t => t.positionTold_outfit l) _).trans told

theorem State.barrierMoved_outfit (stands : (s.barrier n).isSome) (b : BarrierRecord) (p : Position) (loop : ArmLoop) :
    (s.barrierMoved n b p loop).outfit = s.outfit := by
  have follows (t : State) (edge : Option Edge) : (t.edgeFollows n edge).outfit = t.outfit := by
    unfold State.edgeFollows
    split <;> simp
  have obstructed : (if b.obstructedBy loop then
      (s.putBarrier n (BarrierRecord.interlocked { b with position := p, loop := some loop } loop)).postBarrier n .obstruction
      else s).outfit = s.outfit := by
    split
    · exact (State.postBarrier_outfit ..).trans (s.putBarrier_outfit n stands _)
    · rfl
  have stays := (congrFun (congrArg Prod.snd obstructed) n).trans stands
  have placed := (State.putBarrier_outfit _ n stays (b.takes p loop)).trans obstructed
  rw [State.barrierMoved_eq, follows]
  split
  · rw [State.recoveryLowers_outfit, State.postBarrier_outfit, placed]
  · exact placed

@[simp] theorem State.barrierCode_outfit (c : Code) : (s.barrierCode n c).outfit = s.outfit := by
  unfold State.barrierCode
  split
  next => rfl
  next b record =>
    have stands : (s.barrier n).isSome = true := by
      rw [record]
      rfl
    split
    · exact s.barrierMoved_outfit n stands ..
    · unfold State.barrierStops
      rw [State.faultLanes_outfit, State.postBarrier_outfit, s.putBarrier_outfit n stands]
    · unfold State.barrierStops
      rw [State.faultLanes_outfit, State.postBarrier_outfit, s.putBarrier_outfit n stands]

/-! ## A code handed on leaves every barrier record where it stands -/

theorem State.barrier_isSome_of_outfit {s t : State} (same : t.outfit = s.outfit) (n : StationId) :
    (t.barrier n).isSome = (s.barrier n).isSome := congrFun (congrArg Prod.snd same) n

theorem State.enterDeckState_barriers (d : DeckId) (st : DeckState) : (s.enterDeckState d st).barriers = s.barriers := by
  unfold State.enterDeckState State.commandDigitizer
  split <;> rfl

theorem State.deckArrive_barriers (d : DeckId) : (s.deckArrive d).barriers = s.barriers := by
  have wakes (t : State) : (t.wakeDeckEvent d).barriers = t.barriers := by
    unfold State.wakeDeckEvent
    split
    · exact t.enterDeckState_barriers ..
    · exact t.enterDeckState_barriers ..
    · rfl
  have restarts (t : State) : (t.restartIdle d).barriers = t.barriers := by
    unfold State.restartIdle
    split <;> rfl
  unfold State.deckArrive
  dsimp only
  split
  · rfl
  · rw [wakes, restarts]
    split <;> rfl

theorem State.deckCode_barriers (d : DeckId) (before : Option Code) (c : Code) : (s.deckCode d before c).barriers = s.barriers := by
  unfold State.deckCode
  split
  · rfl
  · split <;> rfl

@[simp] theorem State.noteFaultChange_outfit (before : Option Bool) (now : Bool) (toFault toReady : StationNotice) :
    (s.noteFaultChange l n before now toFault toReady).outfit = s.outfit := by
  unfold State.noteFaultChange
  repeat' split
  all_goals simp

theorem State.presenceArrives_barrier_isSome (r : LaneRecord) : ((s.presenceArrives l r).barrier n).isSome = (s.barrier n).isSome := by
  have arrives (t : State) : ((t.deckArrive r.deck).barrier n).isSome = (t.barrier n).isSome := by
    rw [State.barrier, t.deckArrive_barriers, ← State.barrier]
  unfold State.presenceArrives
  dsimp only
  rw [State.barrier_isSome_of_outfit (State.deckTold_outfit ..), arrives]
  refine State.barrier_isSome_of_outfit ?_ n
  split <;> simp

theorem State.terminalCode_barrier_isSome (m : StationId) (before : Option Code) (c : Code) :
    ((s.terminalCode n before c).barrier m).isSome = (s.barrier m).isSome := by
  have noted (l : LaneId) (x : Option Bool) (y : Bool) := State.barrier_isSome_of_outfit
    (s.noteFaultChange_outfit l n x y .terminalFault .terminalReady) m
  have departs (t : State) (l : LaneId) : (t.presenceDeparts l).outfit = t.outfit := by
    unfold State.presenceDeparts
    dsimp only
    split <;> simp
  unfold State.terminalCode
  split
  · rfl
  · split
    · rfl
    · dsimp only
      split
      · exact noted ..
      · split
        · exact noted ..
        · exact (State.presenceArrives_barrier_isSome ..).trans (noted ..)
      · split
        · exact (State.barrier_isSome_of_outfit (departs ..) m).trans (noted ..)
        · exact noted ..

theorem State.handOn_barrier_isSome (m : StationId) (before : Option Code) (c : Code) :
    ((s.handOn n before c).barrier m).isSome = (s.barrier m).isSome := by
  unfold State.handOn
  split
  · rfl
  · split
    · rfl
    · rw [State.barrier_isSome_of_outfit (State.deckTold_outfit ..), State.barrier, State.deckCode_barriers, ← State.barrier]
  · exact State.barrier_isSome_of_outfit (s.barrierCode_outfit n c) m
  · refine State.barrier_isSome_of_outfit ?_ m
    unfold State.readerCode
    split <;> simp
  · refine Eq.trans ?_ (s.terminalCode_barrier_isSome n m before c)
    unfold State.ticketCode
    split
    · split <;> rfl
    · split <;> rfl
    · rfl

theorem State.handOnGained_barrier_isSome (m : StationId) : ((s.handOnGained n).barrier m).isSome = (s.barrier m).isSome := by
  unfold State.handOnGained
  split
  · rfl
  · exact s.handOn_barrier_isSome n m none _

end

end Sys2Proof.Machine

/-! PROOFS. LOAD-DECK: the record of its fields, the role checks, the deck it leaves, and the change of roles. -/

namespace Sys2Proof.Machine

/-! ## The record of the fields (R55) -/

theorem stationOf_iff {k : Nat} {n : StationId} : stationOf k = some n ↔ k = n.val + 1 :=
  ⟨oneBased_some, fun same => same ▸ stationOf_succ n⟩

/-- The requirements on the fields but the digitizer's. -/
def DeckLoad.Fits (v : DeckLoad) : Prop :=
  (∀ z ∈ [v.zeros.c1, v.zeros.c2, v.zeros.c3, v.zeros.c4], -8388608 ≤ z ∧ z ≤ 8388607)
    ∧ (∀ k ∈ [v.factors.c1, v.factors.c2, v.factors.c3, v.factors.c4], 32768 ≤ k ∧ k ≤ 131072)
    ∧ 1 ≤ v.scale ∧ v.scale ≤ 65535 ∧ v.division ∈ [1, 2, 5, 10, 20, 50] ∧ 1000 ≤ v.capacity ∧ v.capacity ≤ 200000
    ∧ v.capacity % v.division = 0 ∧ 500 ≤ v.capacity / v.division ∧ v.capacity / v.division ≤ 10000
    ∧ v.refZero.natAbs ≤ 1000 * v.capacity
    ∧ v.nominalWindow.getD 32 ∈ [8, 16, 32, 64] ∧ v.transitWindow.getD 8 ∈ [4, 8, 16]

/-- The record the fields give under a digitizer. -/
def DeckLoad.record (v : DeckLoad) (n : StationId) : DeckRecord :=
  { digitizer := n, zeros := v.zeros, factors := v.factors, scale := v.scale, division := v.division, capacity := v.capacity,
    refZero := v.refZero, nominalWindow := v.nominalWindow.getD 32
    transitWindow := min (v.transitWindow.getD 8) (v.nominalWindow.getD 32)
    settleCount := max 1 (min 255 (v.settleCount.getD 50)), motionBand := max 1 (min 20 (v.motionBand.getD 4))
    occupancyThreshold := min (max 5 (min 1000 (v.occupancyThreshold.getD 50))) (v.capacity / v.division)
    transitSpan := min 2000 (v.transitSpan.getD 250), restIdleTime := min 255 (v.restIdleTime.getD 120)
    zeroTracking := v.zeroTracking.getD true }

theorem deckRecordOf_iff (v : DeckLoad) (r : DeckRecord) :
    deckRecordOf v = some r ↔ ∃ n : StationId, v.digitizer = n.val + 1 ∧ v.Fits ∧ v.record n = r := by
  have fits : (v.zeros.all validCount && v.factors.all (inRange 32768 131072) && inRange 1 65535 v.scale
      && [1, 2, 5, 10, 20, 50].contains v.division && inRange 1000 200000 v.capacity && v.capacity % v.division == 0
      && inRange 500 10000 (v.capacity / v.division) && decide (v.refZero.natAbs ≤ 1000 * v.capacity)
      && [8, 16, 32, 64].contains (v.nominalWindow.getD 32) && [4, 8, 16].contains (v.transitWindow.getD 8)) = true ↔ v.Fits := by
    simp only [Bool.and_eq_true, Corners.all_iff, validCount_iff, inRange_iff, beq_iff_eq, List.contains_iff_mem,
      decide_eq_true_iff, DeckLoad.Fits, List.forall_mem_cons, List.not_mem_nil, false_implies, implies_true, and_true, and_assoc]
  have clamped (x y : Nat) : max 0 (min x y) = min x y := Nat.zero_max _
  unfold deckRecordOf
  cases digitizer : stationOf v.digitizer with
  | none =>
    refine ⟨fun absent => absurd absent (Option.some_ne_none r).symm, ?_⟩
    rintro ⟨n, named, -⟩
    rw [stationOf_iff.2 named] at digitizer
    cases digitizer
  | some n =>
    have named := stationOf_iff.1 digitizer
    refine (Option.ite_none_right_eq_some ..).trans ((and_congr fits Option.some_inj).trans ?_)
    simp only [clampOr, clamped]
    constructor
    · exact fun ⟨fit, same⟩ => ⟨n, named, fit, same⟩
    · rintro ⟨m, other, fit, same⟩
      obtain rfl : n = m := Option.some.inj (digitizer.symm.trans (stationOf_iff.2 other))
      exact ⟨fit, same⟩

/-! ## What a load does to roles (R54, R57, R145) -/

section
variable {s t before : State} {n : StationId}

/-- A role is read from the deck and lane records alone. -/
theorem State.role_congr (decks : ∀ d, (t.deck d).record = (s.deck d).record) (lanes : t.laneTable = s.laneTable) (n : StationId) :
    t.role n = s.role n := by
  have records (l : LaneId) : t.laneRecord l = s.laneRecord l := by rw [State.laneRecord, lanes, ← State.laneRecord]
  unfold State.role State.deckOfDigitizer State.laneOfReader State.laneOfTerminal State.lanesWhere
  simp only [decks, records]

/-- A rejected station after a change of its role. -/
def Station.roleAnew (x : Station) : Station :=
  { x with state := .alive, window := 0, pages := [], failed := 0, rejection := none
           send := { x.send with waiting := dropRejection x.send.waiting } }

theorem State.roleChanged_eq (s : State) (n : StationId) : s.roleChanged n =
    if (s.station n).state = .rejected then s.setStation n (s.station n).roleAnew else s := rfl

/-- The slots of stations that lost their last role hold NONE, and nothing else changes. -/
theorem clearLostRoles_slot (before s : State) (n : StationId) : (clearLostRoles before s).slot n =
    if before.role n ≠ none ∧ s.role n = none then { s.slot n with command := .none } else s.slot n := by
  refine (forEach_pointwise (fun t n => t.slot n) _ (fun n => if before.role n ≠ none ∧ s.role n = none then
    { s.slot n with command := .none } else s.slot n) s (List.nodup_finRange 24) (fun t x y other => ?_)
    (fun t x _ kept => ?_) n).trans (if_pos (List.mem_finRange n))
  · split
    · rw [State.setCommand_slot, if_neg (Ne.symm other)]
    · rfl
  · dsimp only at kept ⊢
    rw [← kept]
    simp only [Option.isSome_iff_ne_none, Option.isNone_iff_eq_none]
    split
    · rw [State.setCommand_slot, if_pos rfl]
    · rfl

theorem clearLostRoles_frame (before s : State) : ∃ slots, clearLostRoles before s = { s with slots := slots } := by
  refine forEach_keeps (fun t => ∃ slots, t = { s with slots := slots }) _ _ (fun n _ t kept => ?_) s ⟨_, rfl⟩
  obtain ⟨slots, rfl⟩ := kept
  split <;> exact ⟨_, rfl⟩

/-- The rejected stations whose role changed attempt anew, and nothing else changes. -/
theorem reportRoles_station (before s : State) (n : StationId) : (reportRoles before s).station n =
    if (s.station n).state = .rejected ∧ before.role n ≠ s.role n then (s.station n).roleAnew else s.station n := by
  refine (forEach_pointwise (fun t n => t.station n) _ (fun n => if (s.station n).state = .rejected ∧ before.role n ≠ s.role n then
    (s.station n).roleAnew else s.station n) s (List.nodup_finRange 24) (fun t x y other => ?_) (fun t x _ kept => ?_) n).trans
    (if_pos (List.mem_finRange n))
  · rw [State.roleChanged_eq]
    split
    · split
      · rw [State.station_setStation, if_neg (Ne.symm other)]
      · rfl
    · rfl
  · have differs : rolesDiffer (before.role x) (s.role x) = true ↔ before.role x ≠ s.role x := bne_iff_ne
    rw [← kept, State.roleChanged_eq]
    by_cases differ : before.role x ≠ s.role x
    · rw [if_pos (differs.2 differ)]
      by_cases rejected : (t.station x).state = .rejected
      · rw [if_pos rejected, if_pos ⟨rejected, differ⟩, State.station_setStation_self]
      · rw [if_neg rejected, if_neg fun both => rejected both.1]
    · rw [if_neg (mt differs.1 differ), if_neg fun both => differ both.2]

theorem reportRoles_frame (before s : State) : ∃ stations, reportRoles before s = { s with stations := stations } := by
  refine forEach_keeps (fun t => ∃ stations, t = { s with stations := stations }) _ _ (fun n _ t kept => ?_) s ⟨_, rfl⟩
  obtain ⟨stations, rfl⟩ := kept
  rw [State.roleChanged_eq]
  split
  · split <;> exact ⟨_, rfl⟩
  · exact ⟨_, rfl⟩

/-- The slots and stations after a load, before the codes are handed on. -/
def rolesReported (before s : State) : State := reportRoles before (clearLostRoles before s)

theorem rolesReported_spec (before s : State) : let base := rolesReported before s
    base = { s with slots := base.slots, stations := base.stations }
      ∧ (∀ n, base.role n = s.role n)
      ∧ (∀ n, base.slot n = if before.role n ≠ none ∧ s.role n = none then { s.slot n with command := .none } else s.slot n)
      ∧ ∀ n, base.station n = if (s.station n).state = .rejected ∧ before.role n ≠ s.role n then (s.station n).roleAnew
        else s.station n := by
  obtain ⟨slots, cleared⟩ := clearLostRoles_frame before s
  obtain ⟨stations, reported⟩ := reportRoles_frame before (clearLostRoles before s)
  have roles (n : StationId) : (clearLostRoles before s).role n = s.role n := by rw [cleared]; rfl
  refine ⟨?_, fun n => ?_, fun n => ?_, fun n => ?_⟩
  · rw [rolesReported, reported, cleared]
  · rw [rolesReported, reported, ← roles]
    rfl
  · rw [← clearLostRoles_slot before s n, rolesReported, reported]
    rfl
  · rw [rolesReported, reportRoles_station, roles, cleared]
    rfl

/-- The codes are handed on in slot order at the stations that gained a role. -/
theorem handOnGains_eq (before s : State) : handOnGains before s =
    (allStations.filter fun n => decide (gainsRole before s n = true ∧ s.enrolled n = true)).foldl (fun t n => t.handOnGained n) s := by
  rw [List.foldl_filter]
  simp only [decide_eq_true_iff]
  rfl

theorem gainsRole_iff : gainsRole before s n = true ↔ ∃ p ∈ s.rolePlaces n, p ∉ before.rolePlaces n := by
  simp [gainsRole, List.any_eq_true]

/-- The places of a station in the lane records. -/
def State.lanePlaces (s : State) (n : StationId) : List RolePlace :=
  (s.barrierLanes n).map (fun x => .barrier x.1 x.2)
    ++ (allLanes.filter fun l => decide (∃ r, s.laneRecord l = some r ∧ r.reader = some n)).map .reader
    ++ (allLanes.filter fun l => decide (∃ r, s.laneRecord l = some r ∧ r.terminal = n)).map .terminal

theorem State.rolePlaces_split (s : State) (n : StationId) : s.rolePlaces n =
    (allDecks.filter fun d => decide (∃ r, (s.deck d).record = some r ∧ r.digitizer = n)).map .digitizer ++ s.lanePlaces n := by
  rw [State.rolePlaces_eq, State.lanePlaces, List.append_assoc, List.append_assoc, List.append_assoc]

theorem State.lanePlaces_congr (lanes : t.laneTable = s.laneTable) (n : StationId) : t.lanePlaces n = s.lanePlaces n := by
  have records (l : LaneId) : t.laneRecord l = s.laneRecord l := by rw [State.laneRecord, lanes, ← State.laneRecord]
  unfold State.lanePlaces State.barrierLanes
  simp only [records]

theorem State.mem_rolePlaces_digitizer (d : DeckId) : .digitizer d ∈ s.rolePlaces n ↔
    ∃ r, (s.deck d).record = some r ∧ r.digitizer = n := by
  simp [State.rolePlaces_eq, mem_allDecks]

theorem filter_allStations_single {p : StationId → Bool} {n : StationId} (only : ∀ m, p m = true → m = n) :
    allStations.filter p = if p n then [n] else [] := by
  have single : allStations.filter (· == n) = [n] := by
    rw [List.filter_beq, allStations, List.count_eq_one_of_mem (List.nodup_finRange 24) (List.mem_finRange n)]
    rfl
  split
  next picked =>
    rw [← single]
    refine List.filter_congr fun m _ => ?_
    rw [Bool.eq_iff_iff, beq_iff_eq]
    exact ⟨only m, fun same => same ▸ picked⟩
  next passed =>
    refine List.filter_eq_nil_iff.2 fun m _ picked => passed ?_
    rw [← only m picked]
    exact picked

end

/-! ## The role checks of a deck (R52) -/

section
variable {s : State} {d : DeckId} {r : DeckRecord}

theorem State.setDeckRecord_deck (s : State) (d e : DeckId) (r : DeckRecord) :
    (s.setDeckRecord d r).deck e = if d = e then { s.deck d with record := some r } else s.deck e := State.deck_setDeck ..

theorem State.deckRolesPass_iff : s.deckRolesPass d r = true ↔
    (∀ l x, s.laneRecord l = some x → x.entryBarrier ≠ r.digitizer ∧ x.exitBarrier ≠ r.digitizer ∧ x.terminal ≠ r.digitizer
        ∧ x.reader ≠ some r.digitizer)
      ∧ (∀ e x, e ≠ d → (s.deck e).record = some x → x.digitizer ≠ r.digitizer)
      ∧ ((s.station r.digitizer).state = .enrolled → (s.station r.digitizer).kind = some .digitizer) := by
  have lanes : (s.lanesWhere fun x => x.names r.digitizer).isEmpty = true ↔ ∀ l x, s.laneRecord l = some x →
      x.entryBarrier ≠ r.digitizer ∧ x.exitBarrier ≠ r.digitizer ∧ x.terminal ≠ r.digitizer ∧ x.reader ≠ some r.digitizer := by
    rw [List.isEmpty_iff, List.eq_nil_iff_forall_not_mem]
    simp only [mem_lanesWhere, LaneRecord.names_iff, not_exists, not_and, not_or, ne_eq]
  have decks : ((allDecks.filter (· != d)).all fun e => (s.deck e).record.all fun x => x.digitizer != r.digitizer) = true ↔
      ∀ e x, e ≠ d → (s.deck e).record = some x → x.digitizer ≠ r.digitizer := by
    simp only [List.all_eq_true, List.mem_filter, mem_allDecks, true_and, bne_iff_ne, Option.all_eq_true]
    exact forall_congr' fun e => ⟨fun apart x other record => apart other x record, fun apart other x record => apart x other record⟩
  have digitizer : (s.setDeckRecord d r).role r.digitizer = some .digitizer := by
    refine State.role_digitizer fun absent => ?_
    refine List.filter_eq_nil_iff.1 (List.head?_eq_none_iff.1 absent) d (mem_allDecks d) ?_
    rw [State.setDeckRecord_deck, if_pos rfl]
    exact beq_self_eq_true r.digitizer
  have fits : (s.setDeckRecord d r).enrolledFits r.digitizer = true ↔
      ((s.station r.digitizer).state = .enrolled → (s.station r.digitizer).kind = some .digitizer) := by
    have enrolled : (s.setDeckRecord d r).enrolled r.digitizer = true ↔ (s.station r.digitizer).state = .enrolled := beq_iff_eq
    unfold State.enrolledFits
    rw [Bool.or_eq_true, Bool.not_eq_true', ← Bool.not_eq_true, enrolled, digitizer, Option.any_eq_true, imp_iff_not_or]
    refine or_congr_right ⟨fun ⟨k, kind, fits⟩ => ?_, fun kind => ⟨.digitizer, kind, rfl⟩⟩
    obtain absent | ⟨role, named, same, -⟩ := (fitsRole_iff ..).1 fits
    · cases absent
    · obtain rfl := Option.some.inj named
      exact kind.trans (congrArg some same)
  rw [State.deckRolesPass, Bool.and_eq_true, Bool.and_eq_true, lanes, decks, fits, and_assoc]

/-! ## The deck a load leaves (R32) -/

/-- An engine a load has restarted, in a deck state. -/
structure DeckEngine.LoadedIn (e : DeckEngine) (r : DeckRecord) (st : DeckState) : Prop where
  record : e.record = some r
  zeros : e.zeros = some { refZero := r.refZero, captured := r.refZero, tracked := r.refZero }
  zeroLimit : e.zeroLimit = false
  ring : e.ring = []
  state : e.state = st

/-- A load's own deck stands restarted, the records of the others stand. -/
def State.DeckLoaded (s : State) (d : DeckId) (r : DeckRecord) (st : DeckState) (t : State) : Prop :=
  (t.deck d).LoadedIn r st ∧ ∀ m, m ≠ d → (t.deck m).record = (s.deck m).record

section
variable {st : DeckState} {t u : State} {e : DeckEngine}

theorem State.DeckLoaded.congr (loaded : s.DeckLoaded d r st t) (decks : ∀ m, u.deck m = t.deck m) : s.DeckLoaded d r st u := by
  unfold State.DeckLoaded
  simp only [decks]
  exact loaded

theorem State.DeckLoaded.setDeck {was : DeckState} (loaded : s.DeckLoaded d r was t) (engine : e.LoadedIn r st) :
    s.DeckLoaded d r st (t.setDeck d e) := by
  refine ⟨?_, fun m other => ?_⟩
  · rw [State.deck_setDeck_self]
    exact engine
  · rw [State.deck_setDeck, if_neg other.symm]
    exact loaded.2 m other

theorem State.DeckLoaded.replaceReading (loaded : s.DeckLoaded d r st t) : s.DeckLoaded d r st (t.replaceReading d) := by
  obtain ⟨record, zeros, zeroLimit, ring, state⟩ := loaded.1
  exact loaded.setDeck ⟨record, zeros, zeroLimit, ring, state⟩

theorem State.DeckLoaded.enterDeckState {was : DeckState} (loaded : s.DeckLoaded d r was t) (st : DeckState) :
    s.DeckLoaded d r st (t.enterDeckState d st) := by
  obtain ⟨record, zeros, zeroLimit, ring, -⟩ := loaded.1
  rw [State.enterDeckState_eq record]
  refine State.DeckLoaded.replaceReading (State.DeckLoaded.congr (loaded.setDeck (e := (t.deck d).enters st (t.excited d)) ?_)
    fun _ => rfl)
  rw [DeckEngine.enters_eq]
  exact ⟨record, zeros, zeroLimit, by dsimp only; rw [ring, ite_self], rfl⟩

/-- The taken code of a digitizer leaves the loaded deck as it was, its window empty. -/
theorem State.DeckLoaded.deckCode (loaded : s.DeckLoaded d r st t) (c : Code) : s.DeckLoaded d r st (t.deckCode d none c) := by
  by_cases fault : 3 ≤ c.toNat
  · rw [State.deckCode_fault fault]
    obtain ⟨record, zeros, zeroLimit, -, state⟩ := loaded.1
    exact State.DeckLoaded.replaceReading (loaded.setDeck (e := (t.deck d).windowCleared (t.excited d))
      ⟨record, zeros, zeroLimit, rfl, state⟩)
  · rw [State.deckCode_other (Nat.lt_of_not_le fault) fun ⟨b, none_, _⟩ => nomatch none_]
    exact loaded

theorem State.DeckLoaded.deckTold (loaded : s.DeckLoaded d r st t) : s.DeckLoaded d r st (t.deckTold d) :=
  loaded.congr (State.deck_of_outfit (t.deckTold_outfit d))

end

/-- A loaded deck is the one place that a load of it can give a station. -/
theorem State.DeckLoaded.gains {st : DeckState} {t : State} (loaded : s.DeckLoaded d r st t) (lanes : t.laneTable = s.laneTable)
    (n : StationId) : gainsRole s t n = true ↔ n = r.digitizer ∧ ∀ x, (s.deck d).record = some x → x.digitizer ≠ n := by
  have record := loaded.1.record
  rw [gainsRole_iff]
  constructor
  · rintro ⟨p, after, fresh⟩
    rw [State.rolePlaces_split, List.mem_append, State.lanePlaces_congr lanes] at after
    obtain deck | lane := after
    · obtain ⟨e, named, rfl⟩ := List.mem_map.1 deck
      obtain ⟨x, its, digitizer⟩ := of_decide_eq_true (List.mem_filter.1 named).2
      rw [State.mem_rolePlaces_digitizer] at fresh
      by_cases own : e = d
      · rw [own] at its fresh
        obtain rfl := Option.some.inj (record.symm.trans its)
        exact ⟨digitizer.symm, fun x stood same => fresh ⟨x, stood, same⟩⟩
      · exact absurd ⟨x, (loaded.2 e own).symm.trans its, digitizer⟩ fresh
    · rw [State.rolePlaces_split, List.mem_append, not_or] at fresh
      exact absurd lane fresh.2
  · rintro ⟨rfl, fresh⟩
    refine ⟨.digitizer d, (State.mem_rolePlaces_digitizer d).2 ⟨r, record, rfl⟩, fun stood => ?_⟩
    obtain ⟨x, its, same⟩ := (State.mem_rolePlaces_digitizer d).1 stood
    exact fresh x its same

/-- Under the role checks of its load a deck is the one place its digitizer can have. -/
theorem State.role_digitizer_none (passes : s.deckRolesPass d r = true) : s.role r.digitizer = none ↔
    ∀ x, (s.deck d).record = some x → x.digitizer ≠ r.digitizer := by
  obtain ⟨lanes, decks, -⟩ := State.deckRolesPass_iff.1 passes
  constructor
  · intro roleless x record same
    have absent := State.rolePlaces_roleless roleless
    have place : .digitizer d ∈ s.rolePlaces r.digitizer := (State.mem_rolePlaces_digitizer d).2 ⟨x, record, same⟩
    rw [absent] at place
    cases place
  · intro fresh
    have undecked : s.deckOfDigitizer r.digitizer = none := by
      refine List.head?_eq_none_iff.2 (List.filter_eq_nil_iff.2 fun e _ named => ?_)
      obtain ⟨x, record, same⟩ := (Option.any_eq_true ..).1 named
      by_cases own : e = d
      · exact fresh x (own ▸ record) (beq_iff_eq.1 same)
      · exact decks e x own record (beq_iff_eq.1 same)
    have unnamed (p : LaneRecord → Bool) (names : ∀ x, p x = true → x.names r.digitizer = true) : (s.lanesWhere p).head? = none := by
      refine List.head?_eq_none_iff.2 (List.eq_nil_iff_forall_not_mem.2 fun l named => ?_)
      obtain ⟨x, record, picked⟩ := (mem_lanesWhere s p l).1 named
      obtain ⟨entry, exit, terminal, reader⟩ := lanes l x record
      obtain same | same | same | same := (LaneRecord.names_iff x).1 (names x picked)
      · exact entry same
      · exact exit same
      · exact terminal same
      · exact reader same
    refine State.role_unnamed undecked ?_ (unnamed _ fun x same => ?_) (unnamed _ fun x same => ?_)
    · rintro ⟨l, x, record, same⟩
      obtain ⟨entry, exit, -⟩ := lanes l x record
      exact same.elim entry exit
    · exact (LaneRecord.names_iff x).2 (.inr (.inr (.inr (beq_iff_eq.1 same))))
    · exact (LaneRecord.names_iff x).2 (.inr (.inr (.inl (beq_iff_eq.1 same))))

/-- The deck of the digitizer a load names is the loaded one. -/
theorem State.DeckLoaded.deckOfDigitizer {st : DeckState} {t : State} (loaded : s.DeckLoaded d r st t)
    (passes : s.deckRolesPass d r = true) : t.deckOfDigitizer r.digitizer = some d := by
  obtain ⟨-, decks, -⟩ := State.deckRolesPass_iff.1 passes
  refine (State.deckOfDigitizer_iff d).2 ⟨⟨r, loaded.1.record, rfl⟩, fun e before x record => ?_⟩
  exact decks e x before.ne ((loaded.2 e before.ne).symm.trans record)

end

section
variable {s : State} {d : DeckId} {r : DeckRecord}

/-- An accepted load, up to the roles it settles. -/
theorem State.storeDeck_eq : s.storeDeck d r =
    handOnGains s (rolesReported s (((s.setDeck d ({ s.deck d with record := some r }.loaded r
      (s.enrolled r.digitizer && (s.slot r.digitizer).taken.any digitizerFault))).enterDeckState d
        (if s.enrolled r.digitizer then .capturing else .waiting)).deckTold d)) := by
  have excited : (s.setDeckRecord d r).excited d = (s.enrolled r.digitizer && (s.slot r.digitizer).taken.any digitizerFault) := by
    unfold State.excited
    rw [State.setDeckRecord_deck, if_pos rfl]
    rfl
  unfold State.storeDeck
  dsimp only
  rw [excited, State.setDeckRecord_deck, if_pos rfl]
  unfold State.setDeckRecord
  rw [State.setDeck_setDeck]
  rfl

/-- What an accepted load leaves once the roles are reported, and the code of its digitizer handed on (R54, R176). -/
theorem State.storeDeck_settled {st : DeckState} {t base : State} (stored : s.storeDeck d r = handOnGains s base)
    (loaded : s.DeckLoaded d r st t) (passes : s.deckRolesPass d r = true) (decks : base.decks = t.decks)
    (lanes : base.laneTable = s.laneTable) :
    (∀ c, s.role r.digitizer = none → (base.station r.digitizer).state = .enrolled → (base.slot r.digitizer).taken = some c →
        s.storeDeck d r = (base.deckCode d none c).deckTold d)
      ∧ (s.role r.digitizer ≠ none ∨ (base.station r.digitizer).state ≠ .enrolled ∨ (base.slot r.digitizer).taken = none →
        s.storeDeck d r = base) := by
  have loaded : s.DeckLoaded d r st base := loaded.congr fun m => by rw [State.deck, decks, ← State.deck]
  have enrolled : base.enrolled r.digitizer = true ↔ (base.station r.digitizer).state = .enrolled := beq_iff_eq
  have gains : gainsRole s base r.digitizer = true ↔ s.role r.digitizer = none := by
    rw [State.role_digitizer_none passes, loaded.gains lanes, and_iff_right rfl]
  rw [stored, handOnGains_eq, filter_allStations_single (n := r.digitizer) fun m picked =>
    ((loaded.gains lanes m).1 (of_decide_eq_true picked).1).1]
  have deck := loaded.deckOfDigitizer passes
  refine ⟨fun c roleless serves taken => ?_, fun still => ?_⟩
  · rw [if_pos (decide_eq_true ⟨gains.2 roleless, enrolled.2 serves⟩), List.foldl_cons, List.foldl_nil]
    have role : base.role r.digitizer = some .digitizer := State.role_digitizer (by rw [deck]; exact Option.some_ne_none d)
    refine Eq.trans ?_ (State.handOn_digitizer role deck)
    unfold State.handOnGained
    rw [taken]
  · split
    next picked =>
      obtain ⟨gained, serves⟩ := of_decide_eq_true picked
      obtain named | away | untaken := still
      · exact absurd (gains.1 gained) named
      · exact absurd (enrolled.1 serves) away
      · rw [List.foldl_cons, List.foldl_nil]
        unfold State.handOnGained
        rw [untaken]
    next => rfl

/-- The deck stands loaded whether or not its digitizer's code is handed on. -/
theorem State.storeDeck_loaded {st : DeckState} {base : State} (loaded : s.DeckLoaded d r st base)
    (told : ∀ c, s.role r.digitizer = none → (base.station r.digitizer).state = .enrolled → (base.slot r.digitizer).taken = some c →
      s.storeDeck d r = (base.deckCode d none c).deckTold d)
    (still : s.role r.digitizer ≠ none ∨ (base.station r.digitizer).state ≠ .enrolled ∨ (base.slot r.digitizer).taken = none →
      s.storeDeck d r = base) : s.DeckLoaded d r st (s.storeDeck d r) := by
  by_cases gains : s.role r.digitizer = none ∧ (base.station r.digitizer).state = .enrolled ∧ (base.slot r.digitizer).taken ≠ none
  · obtain ⟨roleless, serves, taken⟩ := gains
    obtain ⟨c, taken⟩ := Option.ne_none_iff_exists'.1 taken
    rw [told c roleless serves taken]
    exact (loaded.deckCode c).deckTold
  · rw [not_and_or, not_and_or, not_not] at gains
    rw [still gains]
    exact loaded

theorem loadDeck_bad {v : DeckLoadRequest} (bad : deckOf v.deck = none ∨ deckRecordOf v.record = none) :
    loadDeck v s = refuse s .bad := by
  unfold loadDeck
  split
  next d r deck record =>
    obtain absent | absent := bad
    · rw [absent] at deck
      cases deck
    · rw [absent] at record
      cases record
  · rfl

theorem loadDeck_eq {v : DeckLoadRequest} (deck : deckOf v.deck = some d) (record : deckRecordOf v.record = some r) : loadDeck v s =
    if s.deckHeld d then refuse s .busy
    else if !s.deckRolesPass d r then refuse s .bad
    else accept (s.storeDeck d r) (.deckRecord r) := by
  unfold loadDeck
  rw [deck, record]

end

end Sys2Proof.Machine

namespace Sys2Proof.Settled
open Machine

/-- Settles O21: the record of the fields, the role checks, the deck a load leaves, and the roles it changes. -/
theorem loadDeck : Obligations.LoadDeck := by
  refine ⟨fun v r => ?record, fun s d r => State.deckRolesPass_iff, fun s h rest v hd => ⟨fun bad => ?_, fun d r deck record =>
    ⟨fun held => ?_, fun free fails => ?_, fun free passes => ?accepted⟩⟩⟩
  case record =>
    rw [deckRecordOf_iff]
    constructor
    · rintro ⟨n, digitizer, ⟨zeros, factors, scale, scaleTop, division, capacity, top, whole, few, many, zero, nominal, transit⟩, rfl⟩
      exact ⟨digitizer, zeros, factors, scale, scaleTop, division, capacity, top, whole, few, many, zero, nominal, transit,
        rfl, rfl, rfl, rfl, rfl, rfl, rfl, rfl, rfl, rfl, rfl, rfl, rfl, rfl⟩
    · obtain ⟨n, _⟩ := r
      rintro ⟨digitizer, zeros, factors, scale, scaleTop, division, capacity, top, whole, few, many, zero, nominal, transit,
        rfl, rfl, rfl, rfl, rfl, rfl, rfl, rfl, rfl, rfl, rfl, rfl, rfl, rfl⟩
      exact ⟨n, digitizer, ⟨zeros, factors, scale, scaleTop, division, capacity, top, whole, few, many, zero, nominal, transit⟩, rfl⟩
  · exact exec_served rfl hd (loadDeck_bad bad) rfl
  · exact exec_served rfl hd ((loadDeck_eq deck record).trans (if_pos ((s.deckHeld_iff d).2 held))) rfl
  · refine exec_served rfl hd ((loadDeck_eq deck record).trans ?_) rfl
    rw [if_neg (mt (s.deckHeld_iff d).1 (not_not.2 free)), fails]
    rfl
  case accepted =>
    have handled : Machine.loadDeck v s = accept (s.storeDeck d r) (.deckRecord r) := by
      rw [loadDeck_eq deck record, if_neg (mt (s.deckHeld_iff d).1 (not_not.2 free)), passes]
      rfl
    have answered := exec_served (i := .loadDeck (.fits v)) rfl hd handled (congrArg Fixed.buffer (s.storeDeck_fixed d r))
    let restarted : DeckEngine := { s.deck d with record := some r }.loaded r
      (s.enrolled r.digitizer && (s.slot r.digitizer).taken.any digitizerFault)
    let st : DeckState := if s.enrolled r.digitizer then .capturing else .waiting
    let entered : State := ((s.setDeck d restarted).enterDeckState d st).deckTold d
    have stored : s.storeDeck d r = handOnGains s (rolesReported s entered) := State.storeDeck_eq
    have restarts : s.DeckLoaded d r (s.deck d).state (s.setDeck d restarted) := by
      refine ⟨?_, fun m other => by rw [State.deck_setDeck, if_neg other.symm]⟩
      rw [State.deck_setDeck_self]
      exact ⟨rfl, rfl, rfl, rfl, rfl⟩
    have loaded : s.DeckLoaded d r st entered := (restarts.enterDeckState st).deckTold
    obtain ⟨frame, roles, slots, stations⟩ := rolesReported_spec s entered
    have decks : (rolesReported s entered).decks = entered.decks := by rw [frame]
    have lanes : (rolesReported s entered).laneTable = s.laneTable := by
      rw [frame]
      exact congrArg Fixed.laneTable (show entered.fixed = s.fixed by simp [entered])
    obtain ⟨told, still⟩ := State.storeDeck_settled stored loaded passes decks lanes
    obtain ⟨⟨record, zeros, zeroLimit, ring, state⟩, others⟩ := State.storeDeck_loaded
      (loaded.congr fun m => by rw [State.deck, decks, ← State.deck]) told still
    refine ⟨answered, record, zeros, zeroLimit, ring, state.trans (if_congr beq_iff_eq rfl rfl), others, ?_⟩
    intro _ _ restarted₁ entered₁ anew
    have anews (x : Station) : x.roleAnew = anew x := rfl
    have same : entered = entered₁ := congrArg (fun e => ((s.setDeck d e).enterDeckState d st).deckTold d)
      (show restarted = restarted₁ from rfl)
    refine ⟨rolesReported s entered, frame.trans (by rw [same]), fun n => ?_, fun n => ?_, told, still⟩
    · rw [roles, slots n, same]
    · rw [stations n, anews, roles, same]

end Sys2Proof.Settled

/-! PROOFS. LOAD-LANE: the record of its fields, and the checks on it. -/

namespace Sys2Proof.Machine

/-! ## The record of the fields (R49) -/

theorem deckOf_iff {k : Nat} {d : DeckId} : deckOf k = some d ↔ k = d.val + 1 :=
  ⟨oneBased_some, fun same => same ▸ deckOf_succ d⟩

theorem optNumber_iff {n : Nat} {k : Option Nat} {x : Option (Fin n)} :
    optNumber k = some x ↔ k = x.map fun y => y.val + 1 := by
  cases k with
  | none => cases x <;> simp [optNumber]
  | some k =>
    rw [optNumber, Option.map_eq_some_iff]
    constructor
    · rintro ⟨y, number, rfl⟩
      exact congrArg some (oneBased_some number)
    · intro same
      obtain ⟨y, rfl, number⟩ := Option.map_eq_some_iff.1 same.symm
      exact ⟨y, number ▸ oneBased_succ n y, rfl⟩

theorem laneRecordOf_iff (v : LaneLoad) (r : LaneRecord) : laneRecordOf v = some r ↔
    v.direction = some r.direction ∧ v.deck = r.deck.val + 1 ∧ v.entryBarrier = r.entryBarrier.val + 1
      ∧ v.exitBarrier = r.exitBarrier.val + 1 ∧ v.terminal = r.terminal.val + 1
      ∧ v.reader = r.reader.map (fun n => n.val + 1) ∧ v.unknownPolicy = some r.unknownPolicy
      ∧ v.cashCategory = r.cashCategory.map (fun c => c.val + 1)
      ∧ (r.unknownPolicy = .admitCash → r.cashCategory ≠ none)
      ∧ r.referralTimeout = max 10 (min 600 (v.referralTimeout.getD 120))
      ∧ r.tareTolerance = min 50 (v.tareTolerance.getD 5)
      ∧ r.motionLimit = max 1 (min 15 (v.motionLimit.getD 6)) := by
  have cash (policy : UnknownPolicy) (c : Option CategoryNo) :
      (policy == .refer || c.isSome) = true ↔ (policy = .admitCash → c ≠ none) := by
    cases policy <;> simp [Option.isSome_iff_ne_none]
  have clamped (x y : Nat) : max 0 (min x y) = min x y := Nat.zero_max _
  simp only [laneRecordOf, Option.bind_eq_bind, Option.bind_eq_some_iff, Option.ite_none_right_eq_some, Option.some_inj, cash,
    deckOf_iff, stationOf_iff, optNumber_iff, clampOr, clamped]
  constructor
  · rintro ⟨_, direction, _, deck, _, entry, _, exit, _, terminal, _, reader, _, policy, _, category, pays, rfl⟩
    exact ⟨direction, deck, entry, exit, terminal, reader, policy, category, pays, rfl, rfl, rfl⟩
  · obtain ⟨_⟩ := r
    rintro ⟨direction, deck, entry, exit, terminal, reader, policy, category, pays, rfl, rfl, rfl⟩
    exact ⟨_, direction, _, deck, _, entry, _, exit, _, terminal, _, reader, _, policy, _, category, pays, rfl⟩

/-! ## The checks on the record (R51, R52, R53) -/

section
variable {s : State} {l : LaneId} {r : LaneRecord}

/-- The other record forms a crosswise pair with this one. -/
def LaneRecord.Crossed (r x : LaneRecord) : Prop :=
  x.deck = r.deck ∧ x.entryBarrier = r.exitBarrier ∧ x.exitBarrier = r.entryBarrier
    ∧ ((r.direction = .inward ∧ x.direction = .outward) ∨ (r.direction = .outward ∧ x.direction = .inward)
      ∨ (r.direction = .both ∧ x.direction = .both))

theorem crosswise_iff (r x : LaneRecord) : crosswise r x = true ↔ r.Crossed x := by
  simp only [crosswise, Bool.and_eq_true, Bool.or_eq_true, beq_iff_eq, LaneRecord.Crossed, or_assoc]
  constructor
  · rintro ⟨⟨⟨deck, ways⟩, entry⟩, exit⟩
    exact ⟨deck.symm, exit.symm, entry.symm, ways⟩
  · rintro ⟨deck, exit, entry, ways⟩
    exact ⟨⟨⟨deck.symm, ways⟩, entry.symm⟩, exit.symm⟩

theorem State.identSource_iff : s.identSource r = true ↔ r.reader ≠ none ∨ (s.station r.terminal).state ≠ .enrolled
    ∨ (s.station r.terminal).abilities.cardReader = true := by
  simp [State.identSource, State.enrolled, Option.isSome_iff_ne_none, or_assoc]

theorem State.mem_otherLanes (x : LaneRecord) : x ∈ s.otherLanes l ↔ ∃ m, m ≠ l ∧ s.laneRecord m = some x := by
  simp [State.otherLanes, List.mem_filterMap, mem_allLanes]

/-- At most one member of a list has an image. -/
theorem length_filterMap_le_one {α β : Type} {f : α → Option β} {xs : List α} (nodup : xs.Nodup) :
    (xs.filterMap f).length ≤ 1 ↔ ∀ x ∈ xs, ∀ y ∈ xs, (f x).isSome → (f y).isSome → x = y := by
  induction xs with
  | nil => simp
  | cons z xs ih =>
    obtain ⟨fresh, nodup⟩ := List.nodup_cons.1 nodup
    cases image : f z with
    | none =>
      rw [List.filterMap_cons_none image, ih nodup]
      simp only [List.forall_mem_cons, image, Option.isSome_none, Bool.false_eq_true, false_implies, true_and, implies_true]
    | some b =>
      rw [List.filterMap_cons_some image, List.length_cons, Nat.succ_le_succ_iff, Nat.le_zero, List.length_eq_zero_iff,
        List.filterMap_eq_nil_iff]
      constructor
      · intro none_ x inX y inY someX someY
        have first (w : α) (mem : w ∈ z :: xs) (has : (f w).isSome) : w = z := by
          obtain same | later := List.mem_cons.1 mem
          · exact same
          · rw [none_ w later] at has
            cases has
        rw [first x inX someX, first y inY someY]
      · intro one y mem
        rw [← Option.not_isSome_iff_eq_none]
        intro has
        obtain rfl := one z List.mem_cons_self y (List.mem_cons_of_mem _ mem) (by rw [image]; rfl) has
        exact fresh mem

theorem State.sharingPasses_iff : s.sharingPasses l r = true ↔
    (∀ m x, m ≠ l → s.laneRecord m = some x → x.deck = r.deck → r.Crossed x)
      ∧ ∀ m k x y, m ≠ l → k ≠ l → s.laneRecord m = some x → s.laneRecord k = some y → x.deck = r.deck → y.deck = r.deck → m = k := by
  have crossed : (((s.otherLanes l).filter fun x => x.deck == r.deck).all (crosswise r)) = true ↔
      ∀ m x, m ≠ l → s.laneRecord m = some x → x.deck = r.deck → r.Crossed x := by
    simp only [List.all_eq_true, List.mem_filter, State.mem_otherLanes, beq_iff_eq, crosswise_iff]
    exact ⟨fun all m x other record deck => all x ⟨⟨m, other, record⟩, deck⟩,
      fun all x ⟨⟨m, other, record⟩, deck⟩ => all m x other record deck⟩
  have shares (m : LaneId) : ((s.laneRecord m).filter fun x => x.deck == r.deck).isSome = true ↔
      ∃ x, s.laneRecord m = some x ∧ x.deck = r.deck := by
    cases s.laneRecord m <;> simp [Option.filter]
  have nodup : (allLanes.filter (· != l)).Nodup := List.Nodup.filter _ (by decide)
  have few : ((s.otherLanes l).filter fun x => x.deck == r.deck).length ≤ 1 ↔ ∀ m k x y, m ≠ l → k ≠ l →
      s.laneRecord m = some x → s.laneRecord k = some y → x.deck = r.deck → y.deck = r.deck → m = k := by
    rw [State.otherLanes, List.filter_filterMap, length_filterMap_le_one nodup]
    simp only [List.mem_filter, mem_allLanes, true_and, bne_iff_ne, shares]
    exact ⟨fun one m k x y otherM otherK recordM recordK deckM deckK => one m otherM k otherK ⟨x, recordM, deckM⟩ ⟨y, recordK, deckK⟩,
      fun one m otherM k otherK ⟨x, recordM, deckM⟩ ⟨y, recordK, deckK⟩ => one m k x y otherM otherK recordM recordK deckM deckK⟩
  rw [State.sharingPasses, Bool.and_eq_true, decide_eq_true_iff, few, crossed, and_comm]

theorem LaneRecord.mem_stations (x : LaneRecord) (n : StationId) : n ∈ x.stations ↔ x.names n = true := by
  rw [LaneRecord.names_iff]
  simp only [LaneRecord.stations, List.cons_append, List.nil_append, List.mem_cons, Option.mem_toList]
  exact or_congr eq_comm (or_congr eq_comm (or_congr eq_comm Iff.rfl))

theorem lanesCompatible_iff (x : LaneRecord) : lanesCompatible r x = true ↔
    (∀ n ∈ r.terminal :: r.reader.toList, n ∉ x.stations) ∧ (∀ n ∈ x.terminal :: x.reader.toList, n ∉ r.stations)
      ∧ (r.Crossed x ∨ ∀ n ∈ [r.entryBarrier, r.exitBarrier], n ≠ x.entryBarrier ∧ n ≠ x.exitBarrier) := by
  have apart (n : StationId) : (!x.namesBarrier n) = true ↔ n ≠ x.entryBarrier ∧ n ≠ x.exitBarrier := by
    rw [Bool.not_eq_true', ← Bool.not_eq_true, namesBarrier_iff, not_or]
    exact and_congr ne_comm ne_comm
  simp only [lanesCompatible, Bool.and_eq_true, Bool.or_eq_true, List.all_eq_true, Bool.not_eq_true', ← Bool.not_eq_true,
    LaneRecord.mem_stations, crosswise_iff, and_assoc]
  refine and_congr_right fun _ => and_congr_right fun _ => or_congr_right (forall₂_congr fun n _ => ?_)
  rw [← apart, Bool.not_eq_true', Bool.not_eq_true]

/-- The stations of a record apart: no barrier is its terminal or reader, and its reader is not its terminal. -/
theorem LaneRecord.stations_apart (nodup : r.stations.Nodup) : r.reader ≠ some r.terminal
    ∧ ∀ n, r.entryBarrier = n ∨ r.exitBarrier = n → ¬ (r.terminal = n ∨ r.reader = some n) := by
  simp only [LaneRecord.stations, List.cons_append, List.nil_append, List.nodup_cons, List.mem_cons, Option.mem_toList, not_or] at nodup
  obtain ⟨⟨-, entryTerminal, entryReader⟩, ⟨exitTerminal, exitReader⟩, terminalReader, -⟩ := nodup
  refine ⟨terminalReader, ?_⟩
  rintro n (rfl | rfl) (terminal | reader)
  · exact entryTerminal terminal.symm
  · exact entryReader reader
  · exact exitTerminal terminal.symm
  · exact exitReader reader

/-! ## The roles a record gives its stations (R51, R52) -/

/-- No other lane's record stands against this one, and no deck names one of its stations. -/
def State.LaneFits (s : State) (l : LaneId) (r : LaneRecord) : Prop :=
  (∀ m x, m ≠ l → s.laneRecord m = some x →
      (∀ n ∈ r.terminal :: r.reader.toList, n ∉ x.stations) ∧ (∀ n ∈ x.terminal :: x.reader.toList, n ∉ r.stations)
        ∧ (r.Crossed x ∨ ∀ n ∈ [r.entryBarrier, r.exitBarrier], n ≠ x.entryBarrier ∧ n ≠ x.exitBarrier))
    ∧ ∀ d x, (s.deck d).record = some x → x.digitizer ∉ r.stations

/-- The record stands in the lane table, beside the others as they were. -/
def State.LaneStands (s : State) (l : LaneId) (r : LaneRecord) (t : State) : Prop :=
  t.laneRecord l = some r ∧ (∀ m, m ≠ l → t.laneRecord m = s.laneRecord m) ∧ ∀ d, (t.deck d).record = (s.deck d).record

section
variable {t : State} (fits : s.LaneFits l r) (stands : s.LaneStands l r t) {n : StationId}
include fits stands

theorem State.LaneStands.undecked (own : n ∈ r.stations) : t.deckOfDigitizer n = none := by
  refine List.head?_eq_none_iff.2 (List.filter_eq_nil_iff.2 fun d _ named => ?_)
  obtain ⟨x, record, same⟩ := (Option.any_eq_true ..).1 named
  exact fits.2 d x ((stands.2.2 d).symm.trans record) (beq_iff_eq.1 same ▸ own)

theorem State.LaneStands.role_barrier (own : r.entryBarrier = n ∨ r.exitBarrier = n) : t.role n = some .barrier := by
  have station : n ∈ r.stations := (LaneRecord.mem_stations r n).2 ((LaneRecord.names_iff r).2 (or_assoc.1 (.inl own)))
  exact State.role_barrier (State.LaneStands.undecked fits stands station) ⟨l, r, stands.1, own⟩

/-- No other lane names the terminal or the reader of the record. -/
theorem State.LaneStands.only (own : r.terminal = n ∨ r.reader = some n) {m : LaneId} {x : LaneRecord}
    (record : t.laneRecord m = some x) (named : x.names n = true) : m = l ∧ x = r := by
  by_cases same : m = l
  · rw [same, stands.1] at record
    exact ⟨same, (Option.some.inj record).symm⟩
  · obtain ⟨apart, -⟩ := fits.1 m x same ((stands.2.1 m same).symm.trans record)
    refine absurd ((LaneRecord.mem_stations x n).2 named) (apart n ?_)
    obtain terminal | reader := own
    · exact terminal ▸ List.mem_cons_self
    · exact List.mem_cons_of_mem _ (Option.mem_toList.2 reader)

variable (nodup : r.stations.Nodup)
include nodup

/-- No barrier is the terminal or the reader of the record. -/
theorem State.LaneStands.unbarred (own : r.terminal = n ∨ r.reader = some n) :
    ¬ ∃ m x, t.laneRecord m = some x ∧ (x.entryBarrier = n ∨ x.exitBarrier = n) := by
  rintro ⟨m, x, record, barred⟩
  obtain ⟨-, rfl⟩ := State.LaneStands.only fits stands own record ((LaneRecord.names_iff x).2 (or_assoc.1 (.inl barred)))
  exact (LaneRecord.stations_apart nodup).2 n barred own

theorem State.LaneStands.role_terminal : t.role r.terminal = some (.terminal r.reader.isNone) := by
  have station : r.terminal ∈ r.stations := (LaneRecord.mem_stations r _).2 ((LaneRecord.names_iff r).2 (.inr (.inr (.inl rfl))))
  have unread : t.laneOfReader r.terminal = none := by
    refine List.head?_eq_none_iff.2 (List.eq_nil_iff_forall_not_mem.2 fun m read => ?_)
    obtain ⟨x, record, reader⟩ := (mem_lanesWhere t _ m).1 read
    have reads : x.reader = some r.terminal := beq_iff_eq.1 reader
    obtain ⟨-, rfl⟩ := State.LaneStands.only fits stands (.inl rfl) record ((LaneRecord.names_iff x).2 (.inr (.inr (.inr reads))))
    exact (LaneRecord.stations_apart nodup).1 reads
  have lane : t.laneOfTerminal r.terminal = some l := by
    refine (State.firstLane_iff _ l).2 ⟨⟨r, stands.1, beq_self_eq_true _⟩, fun m less x record terminal => ?_⟩
    obtain ⟨same, -⟩ := State.LaneStands.only fits stands (.inl rfl) record
      ((LaneRecord.names_iff x).2 (.inr (.inr (.inl (beq_iff_eq.1 terminal)))))
    exact less.ne same
  exact State.role_terminal (State.LaneStands.undecked fits stands station)
    (State.LaneStands.unbarred fits stands nodup (.inl rfl)) unread lane stands.1

theorem State.LaneStands.role_reader (reader : r.reader = some n) : t.role n = some .reader := by
  have station : n ∈ r.stations := (LaneRecord.mem_stations r n).2 ((LaneRecord.names_iff r).2 (.inr (.inr (.inr reader))))
  refine State.role_reader (State.LaneStands.undecked fits stands station)
    (State.LaneStands.unbarred fits stands nodup (.inr reader)) fun unread => ?_
  have listed : l ∈ t.lanesWhere fun x => x.reader == some n := (mem_lanesWhere t _ l).2 ⟨r, stands.1, beq_iff_eq.2 reader⟩
  rw [List.head?_eq_none_iff.1 unread] at listed
  cases listed

end

theorem State.setLaneRecord_stands (s : State) (l : LaneId) (r : LaneRecord) : s.LaneStands l r (s.setLaneRecord l (some r)) :=
  ⟨State.laneRecord_setLaneRecord_self .., fun m other => by rw [State.laneRecord_setLaneRecord, if_neg other.symm], fun _ => rfl⟩

theorem State.enrolledFits_iff {n : StationId} {role : Role} (plays : s.role n = some role) : s.enrolledFits n = true ↔
    ((s.station n).state = .enrolled → (s.station n).kind = some role.kind)
      ∧ ((s.station n).state = .enrolled → role = .terminal true → (s.station n).abilities.cardReader = true) := by
  have enrolled : s.enrolled n = true ↔ (s.station n).state = .enrolled := beq_iff_eq
  have fits (k : StationKind) : fitsRole k (s.station n).abilities (some role) = true ↔
      k = role.kind ∧ (role = .terminal true → (s.station n).abilities.cardReader = true) := by
    rw [fitsRole_iff]
    simp
  rw [State.enrolledFits, Bool.or_eq_true, Bool.not_eq_true', ← Bool.not_eq_true, enrolled, plays, ← imp_iff_not_or,
    Option.any_eq_true, ← imp_and]
  refine imp_congr_right fun _ => ?_
  simp only [fits]
  exact ⟨fun ⟨k, kind, same, able⟩ => ⟨same ▸ kind, able⟩, fun ⟨kind, able⟩ => ⟨_, kind, rfl, able⟩⟩

theorem LaneRecord.all_stations (r : LaneRecord) (p : StationId → Bool) : r.stations.all p = true ↔
    p r.entryBarrier = true ∧ p r.exitBarrier = true ∧ p r.terminal = true ∧ ∀ n, r.reader = some n → p n = true := by
  simp [LaneRecord.stations]

theorem State.laneRolesPass_iff (nodup : r.stations.Nodup) : s.laneRolesPass l r = true ↔ s.LaneFits l r
    ∧ ((s.station r.entryBarrier).state = .enrolled → (s.station r.entryBarrier).kind = some .barrierDrive)
    ∧ ((s.station r.exitBarrier).state = .enrolled → (s.station r.exitBarrier).kind = some .barrierDrive)
    ∧ ((s.station r.terminal).state = .enrolled → (s.station r.terminal).kind = some .terminal)
    ∧ ((s.station r.terminal).state = .enrolled → r.reader = none → (s.station r.terminal).abilities.cardReader = true)
    ∧ ∀ n, r.reader = some n → (s.station n).state = .enrolled → (s.station n).kind = some .identReader := by
  have lanes : (s.otherLanes l).all (lanesCompatible r) = true ↔ ∀ m x, m ≠ l → s.laneRecord m = some x →
      (∀ n ∈ r.terminal :: r.reader.toList, n ∉ x.stations) ∧ (∀ n ∈ x.terminal :: x.reader.toList, n ∉ r.stations)
        ∧ (r.Crossed x ∨ ∀ n ∈ [r.entryBarrier, r.exitBarrier], n ≠ x.entryBarrier ∧ n ≠ x.exitBarrier) := by
    simp only [List.all_eq_true, State.mem_otherLanes, lanesCompatible_iff]
    exact ⟨fun all m x other record => all x ⟨m, other, record⟩, fun all x ⟨m, other, record⟩ => all m x other record⟩
  have decks : (r.stations.all fun n => (s.deckOfDigitizer n).isNone) = true ↔
      ∀ d x, (s.deck d).record = some x → x.digitizer ∉ r.stations := by
    rw [List.all_eq_true]
    constructor
    · intro none_ d x record named
      have absent := List.filter_eq_nil_iff.1 (List.head?_eq_none_iff.1 (Option.isNone_iff_eq_none.1 (none_ _ named))) d (mem_allDecks d)
      rw [record] at absent
      exact absent (beq_self_eq_true x.digitizer)
    · intro apart n named
      refine Option.isNone_iff_eq_none.2 (List.head?_eq_none_iff.2 (List.filter_eq_nil_iff.2 fun d _ same => ?_))
      obtain ⟨x, record, digitizer⟩ := (Option.any_eq_true ..).1 same
      exact apart d x record (beq_iff_eq.1 digitizer ▸ named)
  rw [State.laneRolesPass, Bool.and_eq_true, Bool.and_eq_true, lanes, decks]
  refine and_congr_right fun fits => ?_
  have stands := s.setLaneRecord_stands l r
  have role_barrier (n : StationId) (own : r.entryBarrier = n ∨ r.exitBarrier = n) := State.LaneStands.role_barrier fits stands own
  rw [LaneRecord.all_stations, State.enrolledFits_iff (role_barrier _ (.inl rfl)), State.enrolledFits_iff (role_barrier _ (.inr rfl)),
    State.enrolledFits_iff (State.LaneStands.role_terminal fits stands nodup)]
  have bare : Role.terminal r.reader.isNone = .terminal true ↔ r.reader = none := by
    rw [Role.terminal.injEq, Option.isNone_iff_eq_none]
  have readers (n : StationId) (reader : r.reader = some n) := State.enrolledFits_iff (State.LaneStands.role_reader fits stands nodup reader)
  constructor
  · rintro ⟨⟨entry, -⟩, ⟨exit, -⟩, ⟨terminal, able⟩, reader⟩
    exact ⟨entry, exit, terminal, fun enrolled none_ => able enrolled (bare.2 none_), fun n same =>
      ((readers n same).1 (reader n same)).1⟩
  · rintro ⟨entry, exit, terminal, able, reader⟩
    exact ⟨⟨entry, nofun⟩, ⟨exit, nofun⟩, ⟨terminal, fun enrolled none_ => able enrolled (bare.1 none_)⟩, fun n same =>
      (readers n same).2 ⟨reader n same, nofun⟩⟩

end

end Sys2Proof.Machine

/-! PROOFS. An accepted LOAD-LANE: the queue of a changed terminal, the barrier records, the command codes and the roles. -/

namespace Sys2Proof.Machine

section
variable {s t : State} {l : LaneId} {r : LaneRecord}

/-! ## The lane's queue, and its record in the table (R50, R136) -/

/-- The flush at a change of terminal leaves everything but the queues and what the jobs' outcomes write. -/
theorem State.changeTerminal_frame (s : State) (l : LaneId) (r : LaneRecord) : let t := s.changeTerminal l r
    t = { s with queues := t.queues, stations := t.stations, visits := t.visits, reports := t.reports,
                 dropped := t.dropped, overrun := t.overrun } := by
  unfold State.changeTerminal
  split
  · rfl
  · split
    · rfl
    · exact (State.flushQueue_leaves s l .terminalLost).1.frame

/-- The state once the record of an accepted load stands. -/
def State.laneRecorded (s : State) (l : LaneId) (r : LaneRecord) : State := (s.changeTerminal l r).setLaneRecord l (some r)

theorem State.laneRecorded_stands (s : State) (l : LaneId) (r : LaneRecord) : s.LaneStands l r (s.laneRecorded l r) := by
  have frame := s.changeTerminal_frame l r
  refine ⟨State.laneRecord_setLaneRecord_self .., fun m other => ?_, fun d => ?_⟩
  · rw [State.laneRecorded, State.laneRecord_setLaneRecord, if_neg other.symm, frame]
    rfl
  · rw [State.laneRecorded, frame]
    rfl

theorem State.laneRecorded_kept (s : State) (l : LaneId) (r : LaneRecord) (n : StationId) :
    (s.laneRecorded l r).slot n = s.slot n ∧ (s.laneRecorded l r).barrier n = s.barrier n
      ∧ (s.laneRecorded l r).lane l = s.lane l := by
  rw [State.laneRecorded, s.changeTerminal_frame l r]
  exact ⟨rfl, rfl, rfl⟩

/-! ## The barrier records after a load (R54, R103) -/

/-- The barrier record of one station by the role it plays. -/
def State.syncBarrier (t : State) (n : StationId) : State :=
  if t.role n = some .barrier then (if t.barrier n = none then t.putBarrier n (newBarrier (t.smallestLimit n)) else t)
  else if t.barrier n = none then t
  else t.setBarrier n none

theorem State.syncBarriers_eq (s : State) : s.syncBarriers = forEach allStations (fun n t => t.syncBarrier n) s := by
  refine congrArg (fun f => forEach allStations f s) (funext₂ fun n t => ?_)
  unfold State.syncBarrier
  split
  next role barrier => rw [role, barrier, if_pos rfl, if_pos rfl]
  next role barrier => rw [role, barrier, if_pos rfl, if_neg (Option.some_ne_none _)]
  next b barrier other => rw [if_neg fun role => other role, barrier, if_neg (Option.some_ne_none _)]
  next barrier other => rw [if_neg fun role => other role, barrier, if_pos rfl]

theorem State.syncBarriers_frame (s : State) : ∃ barriers slots, s.syncBarriers = { s with barriers := barriers, slots := slots } := by
  rw [State.syncBarriers_eq]
  refine forEach_keeps (fun t => ∃ barriers slots, t = { s with barriers := barriers, slots := slots }) _ _ (fun n _ t kept => ?_)
    s ⟨_, _, rfl⟩
  obtain ⟨barriers, slots, rfl⟩ := kept
  unfold State.syncBarrier
  repeat' split
  all_goals exact ⟨_, _, rfl⟩

/-- The record and slot of one station after its own turn. -/
theorem State.syncBarrier_own (t : State) (n : StationId) :
    (t.syncBarrier n).barrier n = (if t.role n = some .barrier then some ((t.barrier n).getD (newBarrier (t.smallestLimit n))) else none)
      ∧ (t.syncBarrier n).slot n = if t.role n = some .barrier ∧ t.barrier n = none then { t.slot n with command := .none }
        else t.slot n := by
  unfold State.syncBarrier
  by_cases role : t.role n = some .barrier
  · rw [if_pos role, if_pos role]
    cases barrier : t.barrier n with
    | none =>
      rw [if_pos rfl, if_pos ⟨role, rfl⟩, State.putBarrier_eq, State.slot_setSlot_self]
      exact ⟨State.barrier_setBarrier_self .., rfl⟩
    | some b =>
      rw [if_neg (Option.some_ne_none b), if_neg fun both => Option.some_ne_none b both.2, barrier]
      exact ⟨rfl, rfl⟩
  · rw [if_neg role, if_neg role, if_neg (c := t.role n = some .barrier ∧ t.barrier n = none) fun both => role both.1]
    split
    next barrier => exact ⟨barrier, rfl⟩
    next => exact ⟨State.barrier_setBarrier_self .., rfl⟩

theorem State.syncBarrier_away (t : State) {n m : StationId} (other : m ≠ n) :
    (t.syncBarrier n).barrier m = t.barrier m ∧ (t.syncBarrier n).slot m = t.slot m := by
  have put (b : BarrierRecord) : (t.putBarrier n b).barrier m = t.barrier m ∧ (t.putBarrier n b).slot m = t.slot m := by
    rw [State.putBarrier_eq, State.slot_setSlot, if_neg other.symm]
    exact ⟨(State.barrier_setBarrier ..).trans (if_neg other.symm), rfl⟩
  unfold State.syncBarrier
  split
  · split
    · exact put _
    · exact ⟨rfl, rfl⟩
  · split
    · exact ⟨rfl, rfl⟩
    · exact ⟨(State.barrier_setBarrier ..).trans (if_neg other.symm), rfl⟩

theorem State.syncBarrier_roles (t : State) (n m : StationId) :
    (t.syncBarrier n).role m = t.role m ∧ (t.syncBarrier n).smallestLimit m = t.smallestLimit m := by
  unfold State.syncBarrier
  repeat' split
  all_goals exact ⟨rfl, rfl⟩

/-- What one station's barrier record and slot are after a load. -/
theorem State.syncBarriers_station (s : State) (n : StationId) :
    s.syncBarriers.barrier n = (if s.role n = some .barrier then some ((s.barrier n).getD (newBarrier (s.smallestLimit n))) else none)
      ∧ s.syncBarriers.slot n = if s.role n = some .barrier ∧ s.barrier n = none then { s.slot n with command := .none }
        else s.slot n := by
  have pointwise := forEach_pointwise (fun t n => ((t.barrier n, t.slot n), (t.role n, t.smallestLimit n))) (fun n t => t.syncBarrier n)
    (fun n => ((if s.role n = some .barrier then some ((s.barrier n).getD (newBarrier (s.smallestLimit n))) else none,
      if s.role n = some .barrier ∧ s.barrier n = none then { s.slot n with command := .none } else s.slot n),
      (s.role n, s.smallestLimit n))) s (List.nodup_finRange 24)
    (fun t x y other => congrArg₂ Prod.mk (congrArg₂ Prod.mk (t.syncBarrier_away other).1 (t.syncBarrier_away other).2)
      (congrArg₂ Prod.mk (t.syncBarrier_roles x y).1 (t.syncBarrier_roles x y).2))
    (fun t x _ kept => by
      obtain ⟨parts, named⟩ := Prod.mk.inj kept
      obtain ⟨barrier, slot⟩ := Prod.mk.inj parts
      obtain ⟨role, limit⟩ := Prod.mk.inj named
      refine congrArg₂ Prod.mk (congrArg₂ Prod.mk ?_ ?_) (congrArg₂ Prod.mk ((t.syncBarrier_roles x x).1.trans role)
        ((t.syncBarrier_roles x x).2.trans limit))
      · rw [(t.syncBarrier_own x).1, role, barrier, limit]
      · rw [(t.syncBarrier_own x).2, role, barrier, slot]) n
  rw [State.syncBarriers_eq]
  exact Prod.mk.inj (Prod.mk.inj (pointwise.trans (if_pos (List.mem_finRange n)))).1

/-! ## The state before the codes are handed on -/

/-- The state of an accepted load up to the roles it settles. -/
def State.laneCoded (s : State) (l : LaneId) (r : LaneRecord) : State := ((s.laneRecorded l r).syncBarriers).setLaneCodes l r

/-- The state before the codes of stations with a new role are handed on. -/
def State.laneBase (s : State) (l : LaneId) (r : LaneRecord) : State := rolesReported s (s.laneCoded l r)

theorem State.storeLane_eq (s : State) (l : LaneId) (r : LaneRecord) : s.storeLane l r = handOnGains s (s.laneBase l r) := rfl

section
variable (closed : (s.lane l).state = .closed) (nodup : r.stations.Nodup) (fits : s.LaneFits l r)

theorem State.laneCoded_codes (s : State) (l : LaneId) (r : LaneRecord) : ∃ slots,
    s.laneCoded l r = { (s.laneRecorded l r).syncBarriers with slots := slots } := by
  have coded (t : State) : ∃ slots, t.setLaneCodes l r = { t with slots := slots } := by
    unfold State.setLaneCodes
    dsimp only
    split <;> exact ⟨_, rfl⟩
  exact coded _

/-- The state with the codes is the one with the record, but for barrier records and slots. -/
theorem State.laneCoded_frame (s : State) (l : LaneId) (r : LaneRecord) : ∃ barriers slots,
    s.laneCoded l r = { s.laneRecorded l r with barriers := barriers, slots := slots } := by
  obtain ⟨barriers, slots, synced⟩ := (s.laneRecorded l r).syncBarriers_frame
  obtain ⟨written, coded⟩ := s.laneCoded_codes l r
  exact ⟨barriers, written, by rw [coded, synced]⟩

theorem State.laneBase_frame (s : State) (l : LaneId) (r : LaneRecord) : let base := s.laneBase l r
    base = { s.changeTerminal l r with laneTable := s.laneTable.set l (some r), barriers := base.barriers, slots := base.slots
                                       stations := base.stations } := by
  obtain ⟨frame, -⟩ := rolesReported_spec s (s.laneCoded l r)
  obtain ⟨barriers, slots, coded⟩ := s.laneCoded_frame l r
  have table : (s.changeTerminal l r).laneTable = s.laneTable := congrArg Fixed.laneTable (s.changeTerminal_fixed l r)
  intro base
  have same : base = { s.laneCoded l r with slots := base.slots, stations := base.stations } := frame
  rw [same, coded, State.laneRecorded, State.setLaneRecord, table]

theorem State.laneBase_role (s : State) (l : LaneId) (r : LaneRecord) (n : StationId) :
    (s.laneBase l r).role n = (s.laneRecorded l r).role n := by
  obtain ⟨-, roles, -⟩ := rolesReported_spec s (s.laneCoded l r)
  obtain ⟨barriers, slots, coded⟩ := s.laneCoded_frame l r
  rw [State.laneBase, roles, coded]
  rfl

theorem State.laneBase_stands (s : State) (l : LaneId) (r : LaneRecord) : s.LaneStands l r (s.laneBase l r) := by
  have frame := s.laneBase_frame l r
  have table : (s.laneBase l r).laneTable = s.laneTable.set l (some r) := (congrArg State.laneTable frame).trans rfl
  have flushed : (s.changeTerminal l r).decks = s.decks :=
    (congrArg State.decks (s.changeTerminal_frame l r)).trans rfl
  have decks : (s.laneBase l r).decks = (s.changeTerminal l r).decks := (congrArg State.decks frame).trans rfl
  obtain ⟨own, others, -⟩ := s.setLaneRecord_stands l r
  refine ⟨?_, fun m other => ?_, fun d => ?_⟩
  · rw [State.laneRecord, table]
    exact own
  · rw [State.laneRecord, table]
    exact others m other
  · rw [State.deck, decks, flushed, ← State.deck]

theorem State.laneBase_limit (s : State) (l : LaneId) (r : LaneRecord) (n : StationId) :
    (s.laneBase l r).smallestLimit n = (s.laneRecorded l r).smallestLimit n := by
  obtain ⟨frame, -⟩ := rolesReported_spec s (s.laneCoded l r)
  obtain ⟨barriers, slots, coded⟩ := s.laneCoded_frame l r
  rw [State.laneBase, frame, coded]
  rfl

theorem State.laneBase_barrier (s : State) (l : LaneId) (r : LaneRecord) (n : StationId) : (s.laneBase l r).barrier n =
    if (s.laneBase l r).role n = some .barrier then some ((s.barrier n).getD (newBarrier ((s.laneBase l r).smallestLimit n)))
    else none := by
  obtain ⟨frame, -⟩ := rolesReported_spec s (s.laneCoded l r)
  obtain ⟨slots, coded⟩ := s.laneCoded_codes l r
  obtain ⟨barrier, -⟩ := (s.laneRecorded l r).syncBarriers_station n
  have synced (u : State) (same : s.laneCoded l r = { u with slots := slots }) : (s.laneCoded l r).barriers = u.barriers := by
    rw [same]
  have kept : (s.laneBase l r).barriers = (s.laneRecorded l r).syncBarriers.barriers :=
    (congrArg State.barriers frame).trans (synced _ coded)
  rw [State.laneBase_role, State.laneBase_limit, State.barrier, kept, ← State.barrier, barrier, (s.laneRecorded_kept l r n).2.1]

theorem State.laneBase_station (s : State) (l : LaneId) (r : LaneRecord) (n : StationId) : (s.laneBase l r).station n =
    if ((s.changeTerminal l r).station n).state = .rejected ∧ s.role n ≠ (s.laneBase l r).role n then
      ((s.changeTerminal l r).station n).roleAnew
    else (s.changeTerminal l r).station n := by
  obtain ⟨-, roles, -, stations⟩ := rolesReported_spec s (s.laneCoded l r)
  obtain ⟨barriers, slots, coded⟩ := s.laneCoded_frame l r
  have kept : (s.laneCoded l r).station n = (s.changeTerminal l r).station n := by
    rw [coded]
    rfl
  rw [State.laneBase, stations, kept, roles]

include closed nodup fits in
theorem State.laneBase_slot (n : StationId) : (s.laneBase l r).slot n = { s.slot n with command :=
    if n = r.terminal then .showOff
    else if (r.reader = some n) then .disarm
    else if (s.role n ≠ none ∧ (s.laneBase l r).role n = none) ∨ ((s.laneBase l r).role n = some .barrier ∧ s.barrier n = none) then .none
    else (s.slot n).command } := by
  have stands := s.laneBase_stands l r
  obtain ⟨-, roles, slots, -⟩ := rolesReported_spec s (s.laneCoded l r)
  obtain ⟨-, synced⟩ := (s.laneRecorded l r).syncBarriers_station n
  have lane : ((s.laneRecorded l r).syncBarriers.lane l).state = .closed := by
    obtain ⟨barriers, slots, frame⟩ := (s.laneRecorded l r).syncBarriers_frame
    rw [frame]
    exact (congrArg LaneContext.state (s.laneRecorded_kept l r n).2.2).trans closed
  obtain ⟨terminal, reader, others, -⟩ := State.setLaneCodes_slots (s := (s.laneRecorded l r).syncBarriers) (l := l)
    (LaneRecord.stations_apart nodup).1
  rw [lane] at terminal reader
  obtain ⟨kept, barrier, -⟩ := s.laneRecorded_kept l r n
  rw [kept, barrier, ← State.laneBase_role] at synced
  have slots := slots n
  rw [← roles] at slots
  change (s.laneBase l r).slot n = if s.role n ≠ none ∧ (s.laneBase l r).role n = none then
    { (s.laneCoded l r).slot n with command := .none } else (s.laneCoded l r).slot n at slots
  rw [slots]
  by_cases isTerminal : n = r.terminal
  · have role : (s.laneBase l r).role n = some (.terminal r.reader.isNone) := by
      rw [isTerminal]
      exact State.LaneStands.role_terminal fits stands nodup
    rw [role, if_neg (by simp)] at synced
    rw [role, if_neg (by simp), if_pos isTerminal, ← synced, isTerminal]
    exact terminal
  · by_cases isReader : r.reader = some n
    · have role := State.LaneStands.role_reader fits stands nodup isReader
      rw [role, if_neg (by simp)] at synced
      rw [role, if_neg (by simp), if_neg isTerminal, if_pos isReader, ← synced]
      exact reader n isReader
    · have coded : (s.laneCoded l r).slot n = _ := (others n isTerminal isReader).trans synced
      rw [coded, if_neg isTerminal, if_neg isReader]
      by_cases lost : s.role n ≠ none ∧ (s.laneBase l r).role n = none
      · rw [if_pos lost, if_neg (by rw [lost.2]; simp), if_pos (.inl lost)]
      · rw [if_neg lost]
        by_cases gained : (s.laneBase l r).role n = some .barrier ∧ s.barrier n = none
        · rw [if_pos gained, if_pos (.inr gained)]
        · rw [if_neg gained, if_neg (not_or_intro lost gained)]

/-- Every barrier record stands through the codes handed on. -/
theorem State.storeLane_barrier (s : State) (l : LaneId) (r : LaneRecord) (n : StationId) :
    ((s.storeLane l r).barrier n).isSome = ((s.laneBase l r).barrier n).isSome := by
  rw [State.storeLane_eq]
  refine forEach_keeps (fun t => (t.barrier n).isSome = ((s.laneBase l r).barrier n).isSome) _ _ (fun m _ t kept => ?_) _ rfl
  split
  · exact (t.handOnGained_barrier_isSome m n).trans kept
  · exact kept

end

end

end Sys2Proof.Machine

/-! PROOFS. LOAD-LANE answered, and the codes it hands on. -/

namespace Sys2Proof.Machine

section
variable {s : State} {l : LaneId} {r : LaneRecord} {v : LaneLoadRequest}

theorem loadLane_bad (bad : laneOf v.lane = none ∨ laneRecordOf v.record = none) : loadLane v s = refuse s .bad := by
  unfold loadLane
  split
  next l r lane record =>
    obtain absent | absent := bad
    · rw [absent] at lane
      cases lane
    · rw [absent] at record
      cases record
  · rfl

theorem loadLane_eq (lane : laneOf v.lane = some l) (record : laneRecordOf v.record = some r) : loadLane v s =
    if (s.lane l).state ≠ .closed then refuse s .busy
    else if !r.distinct || !s.laneRolesPass l r || !s.identSource r || !s.sharingPasses l r then refuse s .bad
    else accept (s.storeLane l r) (.laneRecord r) := by
  unfold loadLane
  rw [lane, record]

/-- The code of a station that gained a role, handed to its owner with no code before it. -/
theorem State.handOnGained_eq (t : State) (n : StationId) : t.handOnGained n = match (t.slot n).taken, t.role n with
    | some c, some .digitizer => (match t.deckOfDigitizer n with
      | none => t
      | some d => (t.deckCode d none c).deckTold d)
    | some c, some .barrier => t.barrierCode n c
    | some c, some .reader => t.readerCode n none c
    | some c, some (.terminal _) => (t.terminalCode n none c).ticketCode n c
    | none, _ | _, none => t := by
  unfold State.handOnGained State.handOn
  cases (t.slot n).taken with
  | none => rfl
  | some c =>
    cases t.role n with
    | none => rfl
    | some role => cases role <;> rfl

theorem State.handOnGains_base (s base : State) : handOnGains s base = (allStations.filter fun n =>
    decide ((∃ p ∈ base.rolePlaces n, p ∉ s.rolePlaces n) ∧ (base.station n).state = .enrolled)).foldl
      (fun t n => t.handOnGained n) base := by
  rw [handOnGains_eq]
  refine congrArg (fun p => (allStations.filter p).foldl (fun t n => t.handOnGained n) base) (funext fun n => ?_)
  have enrolled : base.enrolled n = true ↔ (base.station n).state = .enrolled := beq_iff_eq
  rw [Bool.eq_iff_iff, decide_eq_true_iff, decide_eq_true_iff, gainsRole_iff, enrolled]

end

end Sys2Proof.Machine

namespace Sys2Proof.Settled
open Machine

/-- Settles O25: the record of the fields, the checks, the records a load leaves, and the roles it changes. -/
theorem loadLane : Obligations.LoadLane := by
  refine ⟨laneRecordOf_iff, fun s l r => ⟨State.identSource_iff, State.sharingPasses_iff, fun nodup => ?roles⟩, fun s h rest v hd =>
    ⟨fun bad => ?_, fun l r lane record => ⟨fun open_ => ?_, fun closed fails => ?_,
      fun closed nodup roles source shares => ?accepted⟩⟩⟩
  case roles => exact (State.laneRolesPass_iff nodup).trans and_assoc
  · exact exec_served rfl hd (loadLane_bad bad) rfl
  · exact exec_served rfl hd ((loadLane_eq lane record).trans (if_pos open_)) rfl
  · refine exec_served rfl hd ((loadLane_eq lane record).trans ((if_neg (not_not.2 closed)).trans (if_pos ?_))) rfl
    obtain repeated | roles | source | shares := fails
    · simp [LaneRecord.distinct, repeated]
    · simp [roles]
    · simp [source]
    · simp [shares]
  case accepted =>
    have handled : Machine.loadLane v s = accept (s.storeLane l r) (.laneRecord r) := by
      refine (loadLane_eq lane record).trans ((if_neg (not_not.2 closed)).trans (if_neg ?_))
      simp [LaneRecord.distinct, nodup, roles, source, shares]
    have kept : (s.storeLane l r).fixed = (s.laneBase l r).fixed := by
      rw [State.storeLane_eq, fixed_handOnGains]
    have buffer : (s.laneBase l r).buffer = (s.changeTerminal l r).buffer := (congrArg State.buffer (s.laneBase_frame l r)).trans rfl
    have flush : (s.changeTerminal l r).buffer = s.buffer := congrArg Fixed.buffer (s.changeTerminal_fixed l r)
    have answered := exec_served (i := .loadLane (.fits v)) rfl hd handled
      ((congrArg Fixed.buffer kept).trans (buffer.trans flush))
    have table : (s.storeLane l r).laneTable = (s.laneBase l r).laneTable := congrArg Fixed.laneTable kept
    have fits := ((State.laneRolesPass_iff nodup).1 roles).1
    have stands := s.laneBase_stands l r
    have standing (n : StationId) (own : r.entryBarrier = n ∨ r.exitBarrier = n) : ((s.storeLane l r).barrier n).isSome = true := by
      rw [State.storeLane_barrier, State.laneBase_barrier, if_pos (State.LaneStands.role_barrier fits stands own)]
      rfl
    refine ⟨answered, ?_, fun m other => ?_, standing _ (.inl rfl), standing _ (.inr rfl), ?_⟩
    · rw [State.laneRecord, table]
      exact stands.1
    · rw [State.laneRecord, table]
      exact stands.2.1 m other
    intro flushed anew
    have flushes : s.changeTerminal l r = flushed := rfl
    have anews (x : Station) : x.roleAnew = anew x := rfl
    refine ⟨s.laneBase l r, (s.laneBase_frame l r).trans (by rw [flushes]), fun n barrier => ?_, fun n other => ?_,
      State.laneBase_slot closed nodup fits, fun n => ?_, ?_⟩
    · rw [State.laneBase_barrier, if_pos barrier]
      cases s.barrier n <;> rfl
    · rw [State.laneBase_barrier, if_neg other]
    · rw [State.laneBase_station, flushes, anews]
    · rw [State.storeLane_eq, State.handOnGains_base]
      exact congrArg (fun f => List.foldl f (s.laneBase l r) _) (funext₂ fun t n => t.handOnGained_eq n)

end Sys2Proof.Settled
